-- ==== Sys2Proof/Word.lean ====
section
/-! DEFINITION. The plain data the model is built from: bytes, and tables with a fixed number of rows. -/

namespace Sys2Proof

/-- One byte as it travels on the host link (R178). -/
abbrev Byte := BitVec 8

/-- The row `i` of a table with `n` rows. -/
def tget {α : Type} {n : Nat} (t : Vector α n) (i : Fin n) : α := t[i.val]

/-- The table with its row `i` replaced. -/
def tset {α : Type} {n : Nat} (t : Vector α n) (i : Fin n) (x : α) : Vector α n := t.set i.val x i.isLt

end Sys2Proof
end

