-- ==== Sys2Proof/Syntax.lean ====
section
/-! DEFINITION. The commands of the N1240, one constructor for each row of spec/opcode_table.json, and the names
their operands use. The table gives its rows no fields: what a command carries is the model's reading of the rule the
row names. -/

namespace Sys2Proof

/-- Outlets P1 to P12 by physical index; `0` stands for P1 (00_scope.md section 6, Numbering). -/
abbrev OutletId := Fin 12
/-- Gangs G1 to G4; `0` stands for G1. -/
abbrev GangId := Fin 4
/-- Supplies S1 and S2; `0` stands for S1. -/
abbrev SupplyId := Fin 2
/-- Slots 1 to 4; `0` stands for slot 1. -/
abbrev SlotId := Fin 4
/-- Auxiliary lines AUX0 to AUX3. -/
abbrev AuxId := Fin 4

/-- A feed: the unit that is granted power (R1). -/
inductive Feed where
  | solo (p : OutletId)
  | gang (g : GangId)
  deriving DecidableEq, Repr

/-- The level of a line. -/
inductive Level where
  | low
  | high
  deriving DecidableEq, Repr

/-- The input lines that LINE_LEVEL_CHANGE names: those the Line Unit filters (R192), and the BAUD strap (R178), whose
changes no row of the table carries (log entry 6). -/
inductive LineId where
  | eoffN
  | aux (k : AuxId)
  | baud
  deriving DecidableEq, Repr

/-- What holds the part in a hard reset (R199): VDD not yet in range for 2 ms, or RESET_N low. -/
inductive ResetCause where
  | vdd
  | pin
  deriving DecidableEq, Repr

/-- The commands. A request carries the SEQ and the payload of its frame; the frame's KIND is the command's own
(R202). An event of an outlet, a gang, a supply or a line names it. -/
inductive Instr where
  /-- IDENT (R160) -/
  | ident (seq : Byte) (payload : List Byte)
  /-- STATUS (R161) -/
  | status (seq : Byte) (payload : List Byte)
  /-- READ_OUTLET (R162) -/
  | readOutlet (seq : Byte) (payload : List Byte)
  /-- READ_GANG (R163) -/
  | readGang (seq : Byte) (payload : List Byte)
  /-- READ_METER (R90) -/
  | readMeter (seq : Byte) (payload : List Byte)
  /-- READ_QUEUE (R65) -/
  | readQueue (seq : Byte) (payload : List Byte)
  /-- POWER_ON (R150) -/
  | powerOn (seq : Byte) (payload : List Byte)
  /-- POWER_OFF (R152) -/
  | powerOff (seq : Byte) (payload : List Byte)
  /-- POWER_OFF with target ALL (R153) -/
  | powerOffAll (seq : Byte)
  /-- CLEAR_FAULT (R158) -/
  | clearFault (seq : Byte) (payload : List Byte)
  /-- SET_PROFILE (R155) -/
  | setProfile (seq : Byte) (payload : List Byte)
  /-- SET_GANG_PROFILE (R157) -/
  | setGangProfile (seq : Byte) (payload : List Byte)
  /-- SET_SUPPLY (R37) -/
  | setSupply (seq : Byte) (payload : List Byte)
  /-- SET_POLICY (R63) -/
  | setPolicy (seq : Byte) (payload : List Byte)
  /-- SET_LINE (R198) -/
  | setLine (seq : Byte) (payload : List Byte)
  /-- STAGE_MAP (R134) -/
  | stageMap (seq : Byte) (payload : List Byte)
  /-- STAGE_GANG (R135) -/
  | stageGang (seq : Byte) (payload : List Byte)
  /-- APPLY_MAP (R138) -/
  | applyMap (seq : Byte) (payload : List Byte)
  /-- DISCARD_MAP (R136) -/
  | discardMap (seq : Byte) (payload : List Byte)
  /-- READ_MAP (R137) -/
  | readMap (seq : Byte) (payload : List Byte)
  /-- FETCH_NOTICES (R171) -/
  | fetchNotices (seq : Byte) (payload : List Byte)
  /-- RESTART (R159) -/
  | restart (seq : Byte) (payload : List Byte)
  /-- a request frame of a kind that is not in the catalogue (R145) -/
  | unknownKind (seq : Byte) (kind : Byte) (payload : List Byte)
  /-- RX_BYTE (R180): a byte and whether its stop bit was found high (R178) -/
  | rxByte (b : Byte) (stopHigh : Bool)
  /-- INTER_BYTE_TIMEOUT (R181) -/
  | interByteTimeout
  /-- ANSWER_TRANSMITTED (R185) -/
  | answerTransmitted
  /-- VDD_POWER_ON (R199) -/
  | vddPowerOn
  /-- RESET_N_LOW (R199): held low for at least 2 us -/
  | resetNLow
  /-- RESET_END (R199): `ended` no longer holds the reset, and BAUD is found at `baud` if the reset ends with it -/
  | resetEnd (ended : ResetCause) (baud : Level)
  /-- SUPGOOD_INACTIVE (R27) -/
  | supgoodInactive (k : SupplyId)
  /-- SUPGOOD_ACTIVE (R28) -/
  | supgoodActive (k : SupplyId)
  /-- RESTORATION_TIMER_EXPIRY (R28) -/
  | restorationTimerExpiry (k : SupplyId)
  /-- AGING_STEP (R50): the aging timer of the feed's entry expires -/
  | agingStep (f : Feed)
  /-- METER_SCAN (R86): the voltages at VSENSE and ISENSE in microvolts -/
  | meterScan (p : OutletId) (vsense isense : Nat)
  /-- DISCHARGE_TIMEOUT (R17) -/
  | dischargeTimeout (p : OutletId)
  /-- MEMBER_DISCHARGE_TIMEOUT (R125) -/
  | memberDischargeTimeout (p : OutletId)
  /-- RAMP_EXPIRY (R12) -/
  | rampExpiry (p : OutletId)
  /-- MEMBER_RAMP_EXPIRY (R123) -/
  | memberRampExpiry (p : OutletId)
  /-- BLANKING_EXPIRY (R99) -/
  | blankingExpiry (p : OutletId)
  /-- STABILITY_EXPIRY (R113) -/
  | stabilityExpiry (p : OutletId)
  /-- GANG_STABILITY_EXPIRY (R123) -/
  | gangStabilityExpiry (g : GangId)
  /-- BACKOFF_EXPIRY (R112) -/
  | backoffExpiry (p : OutletId)
  /-- GANG_BACKOFF_EXPIRY (R127) -/
  | gangBackoffExpiry (g : GangId)
  /-- PRES_LEVEL_CHANGE (R18): PRES is now active or not -/
  | presLevelChange (p : OutletId) (active : Bool)
  /-- PRESENCE_DEBOUNCE_EXPIRY (R18) -/
  | presenceDebounceExpiry (p : OutletId)
  /-- OVERCURRENT_BEGIN (R98) -/
  | overcurrentBegin (p : OutletId)
  /-- OVERCURRENT_END (R100) -/
  | overcurrentEnd (p : OutletId)
  /-- QUALIFIED_PULSE (R100) -/
  | qualifiedPulse (p : OutletId)
  /-- PAIR_WINDOW_EXPIRY (R102) -/
  | pairWindowExpiry (p : OutletId)
  /-- SHORT_N_ACTIVE (R104): SHORT_N is now active (`true`), or is released (`false`) -/
  | shortNActive (p : OutletId) (active : Bool)
  /-- OVERDRAW_WINDOW_EXPIRY (R95) -/
  | overdrawWindowExpiry (p : OutletId)
  /-- LINE_LEVEL_CHANGE (R192): the line is now at `level` -/
  | lineLevelChange (l : LineId) (level : Level)
  /-- LINE_FILTER_EXPIRY (R192) -/
  | lineFilterExpiry (l : LineId)
  deriving DecidableEq, Repr

end Sys2Proof
end

