-- ==== Sys2Proof/Config.lean ====
section
/-! DEFINITION. The constants the manual fixes: durations, ranges, request kinds and the identity of the part.
No rule of the manual leaves a value to the implementation, so nothing here is free. -/

namespace Sys2Proof.Config

/-- Duration of a supply's restoration timer in ms (R28). -/
def restorationMs : Nat := 100
/-- Duration of the inter-byte timer in ms (R181). -/
def interByteMs : Nat := 5
/-- Duration of a line's stability filter in ms (R192). -/
def filterMs : Nat := 1
/-- First backoff and its cap in ms (R110). -/
def backoffBaseMs : Nat := 100
def backoffCapMs : Nat := 6400
/-- Largest consecutive fault count (R107). -/
def countMax : Nat := 15
/-- Samples in a full ring (R87). -/
def ringSize : Nat := 8
/-- Largest sample in dW (R86). -/
def sampleMax : Nat := 2000
/-- Nominal VSENSE level and overcurrent reference level in microvolts (R86, ratings of section 12.5). -/
def nominalUv : Nat := 1200000
def referenceUv : Nat := 1000000
/-- Top of the analog input range: the upper end of VDD in microvolts (ratings of section 12.5). -/
def analogMaxUv : Nat := 3600000
/-- Bounds of a supply capacity and of the reserve in dW (R26, R29). -/
def capacityMax : Nat := 4000
def reserveMax : Nat := 1000
/-- Longest aging period in s (R63). -/
def agingMax : Nat := 60
/-- Longest payload (R179) and the SYNC byte. -/
def payloadMax : Nat := 48
def sync : Byte := 0xB4#8
/-- NAK elements the answer queue holds at most (R184). -/
def nakMax : Nat := 2
/-- Entries of one READ_QUEUE reply (R65) and notices of one fetch (R171). -/
def pageSize : Nat := 7
def fetchMax : Nat := 4
/-- Largest notice number (R167). -/
def numberMax : Nat := 65535

/-- Identity of the part (R160, appendix A.3). -/
def vendorCode : Nat := 0x5A31
def partCode : Nat := 0x1240
def revision : Nat := 1
def protocolVersion : Nat := 1

/-- Request kinds (R202). -/
def kindIdent : Byte := 0x01#8
def kindStatus : Byte := 0x02#8
def kindReadOutlet : Byte := 0x03#8
def kindReadGang : Byte := 0x04#8
def kindReadMeter : Byte := 0x05#8
def kindReadQueue : Byte := 0x06#8
def kindPowerOn : Byte := 0x10#8
def kindPowerOff : Byte := 0x11#8
def kindClearFault : Byte := 0x12#8
def kindSetProfile : Byte := 0x20#8
def kindSetGangProfile : Byte := 0x21#8
def kindSetSupply : Byte := 0x22#8
def kindSetPolicy : Byte := 0x23#8
def kindSetLine : Byte := 0x24#8
def kindStageMap : Byte := 0x30#8
def kindStageGang : Byte := 0x31#8
def kindApplyMap : Byte := 0x32#8
def kindDiscardMap : Byte := 0x33#8
def kindReadMap : Byte := 0x34#8
def kindFetchNotices : Byte := 0x40#8
def kindRestart : Byte := 0x50#8

/-- The catalogue of request kinds (section 9.2, R202). -/
def catalogue : List Byte :=
  [kindIdent, kindStatus, kindReadOutlet, kindReadGang, kindReadMeter, kindReadQueue, kindPowerOn, kindPowerOff,
   kindClearFault, kindSetProfile, kindSetGangProfile, kindSetSupply, kindSetPolicy, kindSetLine, kindStageMap,
   kindStageGang, kindApplyMap, kindDiscardMap, kindReadMap, kindFetchNotices, kindRestart]

end Sys2Proof.Config
end

