-- ==== Sys2Proof/Machine/State.lean ====
section
/-! DEFINITION. Everything the manual gives the N1240 to hold, as plain data, and the state right after a hard reset.
A timer is `none` when stopped and `some d` when running, `d` being the duration it was started with. -/

namespace Sys2Proof.Machine

/-- Why a feed is stopping (R2, R14). -/
inductive StopCause where
  | host | shed | preempt | fault | removal | emergency
  deriving DecidableEq, Repr

/-- The state a stopping feed enters when its discharge ends (R2, R14). -/
inductive Dest where
  | off | queued | retryWait | latched
  deriving DecidableEq, Repr

/-- The state of a feed (R5), with stop cause and destination in STOPPING. -/
inductive FeedState where
  | off
  | queued
  | starting
  | on
  | stopping (cause : StopCause) (dest : Dest)
  | retryWait
  | latched
  deriving DecidableEq, Repr

/-- Fault causes (R97). -/
inductive FaultCause where
  | overcurrent | short | startFail | overdraw | dischargeTimeout
  deriving DecidableEq, Repr

/-- Start modes (R3). -/
inductive StartMode where
  | manual | onPresence
  deriving DecidableEq, Repr

/-- Trip modes (R101, R102). -/
inductive TripMode where
  | single | pair
  deriving DecidableEq, Repr

/-- Shed policies (R14). -/
inductive ShedPolicy where
  | requeue | drop
  deriving DecidableEq, Repr

/-- Output levels of a scan (R86). -/
inductive OutLevel where
  | up | mid | down
  deriving DecidableEq, Repr

/-- Why a queue entry was made (R43). -/
inductive Origin where
  | host | presence | retry | requeue
  deriving DecidableEq, Repr

/-- Admission modes (R63). -/
inductive AdmissionMode where
  | strict | fitFirst
  deriving DecidableEq, Repr

/-- The outlet profile (R3). -/
structure Profile where
  request : Nat
  priority : Nat
  startMode : StartMode
  debounce : Nat
  ramp : Nat
  blanking : Nat
  tripMode : TripMode
  width : Nat
  pairWindow : Nat
  threshold : Nat
  stability : Nat
  shedPolicy : ShedPolicy
  overdrawCheck : Bool
  overdrawMargin : Nat
  overdrawWindow : Nat
  discharge : Nat
  deriving DecidableEq, Repr

/-- The part of an outlet record or gang record that belongs to the feed (R2, R119): its state, its consecutive
count, its pending operation, and the stability and backoff timers. -/
structure FeedRec where
  state : FeedState
  count : Nat
  op : Option SlotId
  stability : Option Nat
  backoff : Option Nat
  deriving DecidableEq, Repr

/-- An outlet: its record (R2), its timers (R8), its meter (R87, R89) and its pins. The logical number and the gang
stand in the active map; `own` is the feed part of the record and is at rest while the outlet forms no solo feed. -/
structure OutletRec where
  own : FeedRec
  alloc : Nat
  presence : Bool
  grantStamp : Option Nat
  lastCause : Option FaultCause
  ramp : Option Nat
  blanking : Option Nat
  discharge : Option Nat
  pairWindow : Option Nat
  overdrawWindow : Option Nat
  debounce : Option Nat
  /-- a running width measurement (R100) -/
  width : Option Nat
  ring : List Nat
  peak : Nat
  latest : Option (Nat × OutLevel)
  /-- SW_EN is driven active -/
  swEn : Bool
  /-- PRES is active -/
  pres : Bool
  /-- SHORT_N is active -/
  shortN : Bool
  /-- ISENSE is at or above the overcurrent reference level (R98) -/
  overcurrent : Bool
  profile : Profile
  deriving DecidableEq, Repr

/-- The gang profile (R120). -/
structure GangProfile where
  priority : Nat
  threshold : Nat
  stability : Nat
  shedPolicy : ShedPolicy
  deriving DecidableEq, Repr

/-- A gang record (R119). The members stand in the active map; `own` is at rest while the gang is not defined.
`timedOut` remembers that a member's discharge timed out during the present stop (R125). -/
structure GangRec where
  own : FeedRec
  lastMember : Option OutletId
  timedOut : Bool
  profile : GangProfile
  deriving DecidableEq, Repr

/-- A map (R132, R133): for each outlet its logical number 1 to 12, or `none` when DISABLED; for each gang its
member list, or `none` when absent. -/
structure MapRec where
  numbers : Vector (Option Nat) 12
  gangs : Vector (Option (List OutletId)) 4
  deriving DecidableEq, Repr

/-- A supply record (R26) and its SUPGOOD line. -/
structure SupplyRec where
  capacity : Nat
  good : Bool
  /-- SUPGOOD is active -/
  line : Bool
  restoration : Option Nat
  deriving DecidableEq, Repr

/-- An entry of the admission queue (R43). The aging timer's duration is in s. -/
structure Entry where
  feed : Feed
  amount : Nat
  base : Nat
  eff : Nat
  stamp : Nat
  origin : Origin
  unfit : Bool
  aging : Option Nat
  deriving DecidableEq, Repr

/-- The claim (R76). -/
structure Claim where
  feed : Feed
  amount : Nat
  deriving DecidableEq, Repr

/-- The admission policy (R63); the aging period is in s. -/
structure Policy where
  mode : AdmissionMode
  preemption : Bool
  aging : Nat
  deriving DecidableEq, Repr

/-- The kinds of power operation a slot keeps (R147). -/
inductive PowerKind where
  | powerOn | powerOff
  deriving DecidableEq, Repr

/-- Completion outcomes (R149). -/
inductive Completion where
  | powered | cancelled | shed | faulted | removed | emergency | stopped | dischargeFault
  deriving DecidableEq, Repr

/-- The power operation of a slot (R147): SEQ, kind and the target byte as the request named it. -/
structure SlotOp where
  seq : Byte
  kind : PowerKind
  target : Byte
  deriving DecidableEq, Repr

/-- A slot (R147). -/
inductive Slot where
  | free
  | pending (op : SlotOp) (feed : Feed)
  | complete (op : SlotOp) (outcome : Completion)
  deriving DecidableEq, Repr

/-- Notice subjects (R166). -/
inductive Subject where
  | outlet (p : OutletId)
  | gang (g : GangId)
  | supply (k : SupplyId)
  | part
  | slot (n : SlotId)
  deriving DecidableEq, Repr

/-- Notice flags (R166). -/
inductive NoticeFlag where
  | state | fault | presence | shed | supply | budget | map | emergency | restarted | completion
  deriving DecidableEq, Repr

/-- The state an outlet's record shows (R5). -/
inductive OutletState where
  | unmapped
  | mapped (st : FeedState)
  deriving DecidableEq, Repr

/-- Snapshots (R170). -/
inductive Snapshot where
  | outlet (logical : Option Nat) (state : OutletState) (presence : Bool) (count : Nat) (cause : Option FaultCause)
  | gang (state : Option FeedState) (count : Nat) (lastMember : Option OutletId)
  | supply (good : Bool) (capacity : Nat)
  | part (budget held : Nat) (eoff : Bool)
  | slot (op : SlotOp) (outcome : Completion)
  /-- a slot that holds no outcome: no COMPLETION notice is open on it (R149) -/
  | emptySlot
  deriving DecidableEq, Repr

/-- Status of a notice (R167). -/
inductive NoticeStatus where
  | opened
  | delivered (number : Nat) (snapshot : Snapshot)
  deriving DecidableEq, Repr

/-- A notice (R167); the flag set is held as the two bytes it travels as (appendix A.3). -/
structure Notice where
  subject : Subject
  flags : BitVec 16
  status : NoticeStatus
  deriving DecidableEq, Repr

/-- A request frame (R179); LEN is the payload's length. -/
structure Frame where
  seq : Byte
  kind : Byte
  payload : List Byte
  crc : BitVec 16
  deriving DecidableEq, Repr

/-- The receiver's stages (R180) with the bytes collected. HEADER is split by how many of its three bytes are in. -/
inductive RxStage where
  | hunting
  | headerLen
  | headerSeq (len : Byte)
  | headerKind (len seq : Byte)
  | payload (len seq kind : Byte) (got : List Byte)
  | checkHigh (len seq kind : Byte) (got : List Byte)
  | checkLow (len seq kind : Byte) (got : List Byte) (high : Byte)
  deriving DecidableEq, Repr

/-- NAK reasons (R182). -/
inductive NakReason where
  | length | timeout | crc | overrun
  deriving DecidableEq, Repr

/-- Elements of the answer queue (R184). -/
inductive Answer where
  | frame (place : Fin 2) (answering : Bool)
  | nak (reason : NakReason) (seq : Byte)
  deriving DecidableEq, Repr

/-- The reply cache's record (R187). -/
structure CacheRec where
  seq : Byte
  kind : Byte
  crc : BitVec 16
  reply : List Byte
  deriving DecidableEq, Repr

/-- Bit rates (R178). -/
inductive BitRate where
  | r115200 | r460800
  deriving DecidableEq, Repr

/-- The Host Link (R178 to R191). `tx` is the frame in transmission; TXD is at the idle level while it is `none`. -/
structure LinkRec where
  rx : RxStage
  rxTimer : Option Nat
  places : Vector (Option Frame) 2
  answers : List Answer
  tx : Option (List Byte)
  cache : Option CacheRec
  rate : BitRate
  /-- level of the BAUD strap, an input pin that is sampled when a hard reset ends (R178) -/
  baud : Level
  /-- a RESTART has been taken and its reply is being transmitted (R190) -/
  restarting : Bool
  deriving DecidableEq, Repr

/-- Functions of an auxiliary line (R196). -/
inductive LineFn where
  | none | eoffIn | holdIn | alertCopy | anyLatched | shortfall
  | outletOn (p : OutletId)
  deriving DecidableEq, Repr

/-- An input line as the Line Unit sees it (R192): its level, its qualified level and its stability filter. -/
structure InputLine where
  level : Level
  active : Bool
  filter : Option Nat
  deriving DecidableEq, Repr

/-- An auxiliary line (R196, R197): its function, the level put on it from outside with its qualification, and the
level the part drives on it while it is an output. -/
structure AuxLine where
  fn : LineFn
  input : InputLine
  out : Option Level
  deriving DecidableEq, Repr

/-- What holds the part in a hard reset (R199). -/
structure ResetRec where
  vdd : Bool
  pin : Bool
  deriving DecidableEq, Repr

/-- The N1240. -/
structure State where
  outlets : Vector OutletRec 12
  gangs : Vector GangRec 4
  activeMap : MapRec
  stagedMap : MapRec
  supplies : Vector SupplyRec 2
  reserve : Nat
  budget : Nat
  held : Nat
  active : Nat
  queue : List Entry
  entryStamps : Nat
  grantStamps : Nat
  claim : Option Claim
  policy : Policy
  slots : Vector Slot 4
  notices : List Notice
  nextNumber : Nat
  /-- level of ALERT_N; `high` stands for released -/
  alertN : Level
  link : LinkRec
  eoffN : InputLine
  aux : Vector AuxLine 4
  resetBy : ResetRec
  /-- the commands waiting, first in first out (the model's own field) -/
  pending : List Instr
  deriving DecidableEq, Repr

/-- The ways a step can stop with a fault: none. The manual gives every event of the part an effect, so no command
raises a fault and this type has no constructor. -/
inductive Fault where
  deriving DecidableEq, Repr

/-- The ways a step can be refused. -/
inductive Refusal where
  /-- raised by `exec` alone, for a command without a meaning; safe: nothing is claimed of such a step. No arm
  raises it. -/
  | notModelled (mnemonic : String)
  deriving DecidableEq, Repr

/-- The defaults of the outlet profile (R3, R25). -/
def Profile.default : Profile where
  request := 100
  priority := 3
  startMode := .manual
  debounce := 100
  ramp := 20
  blanking := 15
  tripMode := .pair
  width := 2
  pairWindow := 40
  threshold := 3
  stability := 5
  shedPolicy := .requeue
  overdrawCheck := false
  overdrawMargin := 10
  overdrawWindow := 1000
  discharge := 200

/-- The hard-reset values of the gang profile (R120, R131). -/
def GangProfile.default : GangProfile where
  priority := 3
  threshold := 3
  stability := 5
  shedPolicy := .requeue

/-- A feed part at rest: OFF, count 0, no operation, no timer (R25, R131). -/
def FeedRec.rest : FeedRec where
  state := .off
  count := 0
  op := none
  stability := none
  backoff := none

/-- An outlet after hard reset (R25, R96, R118). DESIGN CHOICE (log entry 8), unsafe: its input pins inactive. -/
def OutletRec.reset : OutletRec where
  own := FeedRec.rest
  alloc := 0
  presence := false
  grantStamp := none
  lastCause := none
  ramp := none
  blanking := none
  discharge := none
  pairWindow := none
  overdrawWindow := none
  debounce := none
  width := none
  ring := []
  peak := 0
  latest := none
  swEn := false
  pres := false
  shortN := false
  overcurrent := false
  profile := Profile.default

/-- A gang after hard reset (R131). -/
def GangRec.reset : GangRec where
  own := FeedRec.rest
  lastMember := none
  timedOut := false
  profile := GangProfile.default

/-- The default map (R143). -/
def MapRec.default : MapRec where
  numbers := #v[some 1, some 2, some 3, some 4, some 5, some 6, some 7, some 8, some 9, some 10, some 11, some 12]
  gangs := #v[none, none, none, none]

/-- A supply after hard reset (R42). DESIGN CHOICE (log entry 8), unsafe: its SUPGOOD line inactive. -/
def SupplyRec.reset : SupplyRec where
  capacity := 0
  good := false
  line := false
  restoration := none

/-- An input line after hard reset (R200). DESIGN CHOICE (log entry 8), unsafe: the line high. -/
def InputLine.reset : InputLine where
  level := .high
  active := false
  filter := none

/-- An auxiliary line after hard reset (R196, R200). -/
def AuxLine.reset : AuxLine where
  fn := .none
  input := InputLine.reset
  out := none

/-- The Host Link after hard reset (R191). DESIGN CHOICE (log entry 8), unsafe: the BAUD strap low. -/
def LinkRec.reset : LinkRec where
  rx := .hunting
  rxTimer := none
  places := #v[none, none]
  answers := []
  tx := none
  cache := none
  rate := .r115200
  baud := .low
  restarting := false

/-- The notice the reset leaves (R177): OPEN, on the part, with RESTARTED (bit 8) alone. -/
def Notice.restarted : Notice where
  subject := .part
  flags := 0x0100#16
  status := .opened

/-- The state right after a hard reset (R199 and the rules its table names), with every input pin inactive. -/
def State.reset : State where
  outlets := Vector.replicate 12 OutletRec.reset
  gangs := Vector.replicate 4 GangRec.reset
  activeMap := MapRec.default
  stagedMap := MapRec.default
  supplies := Vector.replicate 2 SupplyRec.reset
  reserve := 0
  budget := 0
  held := 0
  active := 0
  queue := []
  entryStamps := 0
  grantStamps := 0
  claim := none
  policy := { mode := .strict, preemption := false, aging := 0 }
  slots := Vector.replicate 4 Slot.free
  notices := [Notice.restarted]
  nextNumber := 1
  alertN := .low
  link := LinkRec.reset
  eoffN := InputLine.reset
  aux := Vector.replicate 4 AuxLine.reset
  resetBy := { vdd := false, pin := false }
  pending := []

end Sys2Proof.Machine
end

