-- ==== Sys2Proof/Machine/Codes.lean ====
section
/-! DEFINITION. The encodings of the appendix: numbers, codes, the CRC and frames. -/

namespace Sys2Proof.Machine

/-- One byte holding `n` (modulo 256). -/
def byte (n : Nat) : Byte := BitVec.ofNat 8 n

/-- A number of two bytes, most significant byte first (R201). -/
def be16 (n : Nat) : List Byte := [byte (n / 256), byte n]

/-- The number two bytes carry, most significant byte first (R201). -/
def num16 (hi lo : Byte) : Nat := hi.toNat * 256 + lo.toNat

/-- A condition as a byte: 0 or 1 (appendix A.3). -/
def flagByte (b : Bool) : Byte := if b then 1#8 else 0#8

/-- One bit shifted out of the CRC register, generator polynomial 0x1021 (R179). -/
def crcBit (c : BitVec 16) : BitVec 16 := if c.msb then (c <<< 1) ^^^ 0x1021#16 else c <<< 1

/-- One byte entered into the CRC, most significant bit first (R179). -/
def crcByte (c : BitVec 16) (b : Byte) : BitVec 16 :=
  crcBit (crcBit (crcBit (crcBit (crcBit (crcBit (crcBit (crcBit (c ^^^ (b.setWidth 16 <<< 8)))))))))

/-- The CRC of a run of bytes, initial value 0xFFFF, no reflection and no final inversion (R179). -/
def crc16 (l : List Byte) : BitVec 16 := l.foldl crcByte 0xFFFF#16

/-- The CRC of a frame: over LEN, SEQ, KIND and PAYLOAD (R179). -/
def frameCrc (seq kind : Byte) (payload : List Byte) : BitVec 16 :=
  crc16 (byte payload.length :: seq :: kind :: payload)

/-- A frame as its bytes travel: SYNC, LEN, SEQ, KIND, PAYLOAD, CRC (R179). -/
def frameBytes (seq kind : Byte) (payload : List Byte) : List Byte :=
  Config.sync :: byte payload.length :: seq :: kind :: payload ++ be16 (frameCrc seq kind payload).toNat

/-- A valid request frame (R179). -/
def mkFrame (seq kind : Byte) (payload : List Byte) : Frame :=
  { seq := seq, kind := kind, payload := payload, crc := frameCrc seq kind payload }

/-- The KIND of the reply to a request kind (R186). -/
def replyKind (kind : Byte) : Byte := if kind ≤ 0x7E#8 then kind + 0x80#8 else 0xFE#8

/-- NAK reason codes (appendix A.2). -/
def codeNak : NakReason → Byte
  | .length => 1#8
  | .timeout => 2#8
  | .crc => 3#8
  | .overrun => 4#8

/-- A NAK frame (R186). -/
def nakBytes (r : NakReason) (seq : Byte) : List Byte := frameBytes seq 0xFF#8 [codeNak r]

/-- State codes (appendix A.3). -/
def codeFeedState : FeedState → Byte
  | .off => 2#8
  | .queued => 3#8
  | .starting => 4#8
  | .on => 5#8
  | .stopping _ _ => 6#8
  | .retryWait => 7#8
  | .latched => 8#8

def codeOutletState : OutletState → Byte
  | .unmapped => 1#8
  | .mapped st => codeFeedState st

/-- Stop cause codes (appendix A.3). -/
def codeStopCause : StopCause → Byte
  | .host => 1#8
  | .shed => 2#8
  | .preempt => 3#8
  | .fault => 4#8
  | .removal => 5#8
  | .emergency => 6#8

/-- Destination codes (appendix A.3). -/
def codeDest : Dest → Byte
  | .off => 1#8
  | .queued => 2#8
  | .retryWait => 3#8
  | .latched => 4#8

/-- The stop cause byte of a record, 0 when absent (R201). -/
def codeCauseOf : FeedState → Byte
  | .stopping c _ => codeStopCause c
  | _ => 0#8

/-- The destination byte of a record, 0 when absent (R201). -/
def codeDestOf : FeedState → Byte
  | .stopping _ d => codeDest d
  | _ => 0#8

/-- Origin codes (appendix A.3). -/
def codeOrigin : Origin → Nat
  | .host => 1
  | .presence => 2
  | .retry => 3
  | .requeue => 4

/-- Fault cause codes, 0 when absent (appendix A.3, R201). -/
def codeFaultCause : Option FaultCause → Byte
  | none => 0#8
  | some .overcurrent => 1#8
  | some .short => 2#8
  | some .startFail => 3#8
  | some .overdraw => 4#8
  | some .dischargeTimeout => 5#8

/-- Output level codes (appendix A.3). -/
def codeOutLevel : OutLevel → Byte
  | .up => 1#8
  | .mid => 2#8
  | .down => 3#8

def codeStartMode : StartMode → Byte
  | .manual => 0#8
  | .onPresence => 1#8

def codeTripMode : TripMode → Byte
  | .single => 0#8
  | .pair => 1#8

def codeShedPolicy : ShedPolicy → Byte
  | .requeue => 0#8
  | .drop => 1#8

def codeMode : AdmissionMode → Byte
  | .strict => 0#8
  | .fitFirst => 1#8

/-- Completion outcome codes (appendix A.3). -/
def codeCompletion : Completion → Byte
  | .powered => 1#8
  | .cancelled => 2#8
  | .shed => 3#8
  | .faulted => 4#8
  | .removed => 5#8
  | .emergency => 6#8
  | .stopped => 7#8
  | .dischargeFault => 8#8

/-- The kind code of a slot's operation (R202). -/
def codePowerKind : PowerKind → Byte
  | .powerOn => Config.kindPowerOn
  | .powerOff => Config.kindPowerOff

/-- Subject codes (appendix A.3). -/
def codeSubject : Subject → Byte
  | .outlet p => byte (p.val + 1)
  | .gang g => byte (g.val + 13)
  | .supply k => byte (k.val + 17)
  | .part => 19#8
  | .slot n => byte (n.val + 20)

/-- Line function codes and the outlet field that goes with them (appendix A.3, R198). -/
def codeLineFn : LineFn → Byte
  | .none => 0#8
  | .eoffIn => 1#8
  | .holdIn => 2#8
  | .alertCopy => 3#8
  | .anyLatched => 4#8
  | .shortfall => 5#8
  | .outletOn _ => 6#8

def codeLineOutlet : LineFn → Byte
  | .outletOn p => byte (p.val + 1)
  | _ => 0#8

/-- A physical index as a byte, 0 when absent (R201). -/
def codePhysical : Option OutletId → Byte
  | none => 0#8
  | some p => byte (p.val + 1)

/-- A slot number as a byte, 0 when absent (R201). -/
def codeSlot : Option SlotId → Byte
  | none => 0#8
  | some n => byte (n.val + 1)

/-- A gang number as a byte, 0 when absent (R201). -/
def codeGang : Option GangId → Byte
  | none => 0#8
  | some g => byte (g.val + 1)

/-- Refusal reasons (R164) and their codes (appendix A.3). -/
inductive Reason where
  | unknownKind | badLength | badTarget | inGang | badValue | state | busy | noSlot | latched | emergency | noLoad
  | mapInvalid | outletsActive
  deriving DecidableEq, Repr

def codeReason : Reason → Byte
  | .unknownKind => 0x01#8
  | .badLength => 0x02#8
  | .badTarget => 0x03#8
  | .inGang => 0x04#8
  | .badValue => 0x05#8
  | .state => 0x06#8
  | .busy => 0x07#8
  | .noSlot => 0x08#8
  | .latched => 0x09#8
  | .emergency => 0x0A#8
  | .noLoad => 0x0B#8
  | .mapInvalid => 0x0C#8
  | .outletsActive => 0x0D#8

/-- The payload of a DONE reply (R203). -/
def done (content : List Byte) : List Byte := 0x00#8 :: content

/-- The payload of an ACCEPTED reply (R203). -/
def accepted (content : List Byte) : List Byte := 0x01#8 :: content

/-- The payload of a REFUSED reply (R164, R203). -/
def refusedWith (r : Reason) (detail : List Byte) : List Byte := 0x02#8 :: codeReason r :: detail

/-- A request that is refused leaves the state of every block as it was (R144). -/
def refuse (s : State) (r : Reason) : State × List Byte := (s, refusedWith r [])

end Sys2Proof.Machine
end

