-- ==== Sys2Proof/Machine/Flags.lean ====
section
/-! DEFINITION. Notice flags and the raising of notices (chapter 10). -/

namespace Sys2Proof.Machine

/-- The bit of a flag in the flag set (appendix A.3). -/
def flagBit : NoticeFlag → BitVec 16
  | .state => 0x0001#16
  | .fault => 0x0002#16
  | .presence => 0x0004#16
  | .shed => 0x0008#16
  | .supply => 0x0010#16
  | .budget => 0x0020#16
  | .map => 0x0040#16
  | .emergency => 0x0080#16
  | .restarted => 0x0100#16
  | .completion => 0x0200#16

/-- The notice is OPEN. -/
def Notice.isOpen (n : Notice) : Bool := decide (n.status = .opened)

/-- A raise on the list (R168): the flag joins the subject's OPEN notice, or a new OPEN notice is appended. -/
def raiseIn (subj : Subject) (f : NoticeFlag) : List Notice → List Notice
  | [] => [{ subject := subj, flags := flagBit f, status := .opened }]
  | n :: ns =>
    if n.subject = subj ∧ n.status = .opened then { n with flags := n.flags ||| flagBit f } :: ns
    else n :: raiseIn subj f ns

/-- The Notice List takes a raise (R168). The raised notice is OPEN, so ALERT_N is driven low (R176). -/
def raise (subj : Subject) (f : NoticeFlag) (s : State) : State :=
  { s with notices := raiseIn subj f s.notices, alertN := .low }

/-- The level of ALERT_N for a list: low while it holds an OPEN notice, released otherwise (R176). -/
def alertFor (ns : List Notice) : Level := if ns.any Notice.isOpen then .low else .high

/-- The number of OPEN notices (R161, R174). -/
def openCount (ns : List Notice) : Nat := (ns.filter Notice.isOpen).length

end Sys2Proof.Machine
end

