-- ==== Sys2Proof/Machine/Ops.lean ====
section
/-! DEFINITION. The shared operations over State: reading and writing its records, the views the records give (feed,
state, gang of an outlet), slots and completions, queue entries, the stop and the grant of a feed, fault taking and the
examination of the overcurrent condition, and the auxiliary outputs. -/

namespace Sys2Proof.Machine

/-! ## Records -/

/-- P1 to P12 in ascending physical index. -/
def allOutlets : List OutletId := [0, 1, 2, 3, 4, 5, 6, 7, 8, 9, 10, 11]
/-- G1 to G4 in ascending number. -/
def allGangs : List GangId := [0, 1, 2, 3]
/-- Slots 1 to 4 in ascending number. -/
def allSlots : List SlotId := [0, 1, 2, 3]
/-- AUX0 to AUX3. -/
def allAux : List AuxId := [0, 1, 2, 3]

def State.outlet (s : State) (p : OutletId) : OutletRec := tget s.outlets p
def State.setOutlet (s : State) (p : OutletId) (o : OutletRec) : State := { s with outlets := tset s.outlets p o }
/-- Change the record of one outlet. -/
def updOutlet (p : OutletId) (f : OutletRec → OutletRec) (s : State) : State := s.setOutlet p (f (s.outlet p))

def State.gang (s : State) (g : GangId) : GangRec := tget s.gangs g
def State.setGang (s : State) (g : GangId) (r : GangRec) : State := { s with gangs := tset s.gangs g r }
/-- Change the record of one gang. -/
def updGang (g : GangId) (f : GangRec → GangRec) (s : State) : State := s.setGang g (f (s.gang g))

def State.supply (s : State) (k : SupplyId) : SupplyRec := tget s.supplies k
def State.setSupply (s : State) (k : SupplyId) (r : SupplyRec) : State := { s with supplies := tset s.supplies k r }

def State.slot (s : State) (n : SlotId) : Slot := tget s.slots n
def State.setSlot (s : State) (n : SlotId) (x : Slot) : State := { s with slots := tset s.slots n x }

def State.auxLine (s : State) (k : AuxId) : AuxLine := tget s.aux k
def State.setAux (s : State) (k : AuxId) (l : AuxLine) : State := { s with aux := tset s.aux k l }

/-- A hard reset is in progress (R199). -/
def State.inReset (s : State) : Bool := s.resetBy.vdd || s.resetBy.pin

/-! ## What the active map makes of the outlets (R1, R132) -/

/-- The logical number of an outlet, absent when it is UNMAPPED (R2, R132). -/
def State.logicalOf (s : State) (p : OutletId) : Option Nat := tget s.activeMap.numbers p

/-- The members of a gang, absent when it is not defined (R119, R132). -/
def State.membersOf (s : State) (g : GangId) : Option (List OutletId) := tget s.activeMap.gangs g

/-- A gang's list in a map names the outlet. -/
def MapRec.hasMember (m : MapRec) (p : OutletId) (g : GangId) : Bool :=
  match tget m.gangs g with
  | some ms => ms.contains p
  | none => false

/-- The gang a map puts an outlet in (R2). -/
def MapRec.gangOf (m : MapRec) (p : OutletId) : Option GangId := allGangs.find? (m.hasMember p)

def State.gangOf (s : State) (p : OutletId) : Option GangId := s.activeMap.gangOf p

/-- The feed an outlet belongs to: none when UNMAPPED, its gang, or itself (R1). -/
def State.feedOf (s : State) (p : OutletId) : Option Feed :=
  match s.logicalOf p with
  | none => none
  | some _ =>
    match s.gangOf p with
    | some g => some (.gang g)
    | none => some (.solo p)

/-- The outlets of a feed in ascending physical index (R1). -/
def State.outletsOf (s : State) : Feed → List OutletId
  | .solo p => [p]
  | .gang g => (s.membersOf g).getD []

/-- The feed whose lowest outlet is `p`, if `p` is the lowest outlet of one. -/
def State.leads (s : State) (p : OutletId) : Option Feed :=
  match s.feedOf p with
  | some f => if (s.outletsOf f).head? = some p then some f else none
  | none => none

/-- All feeds, in ascending order of the lowest physical index among their outlets (R153, R193). -/
def State.feeds (s : State) : List Feed := allOutlets.filterMap s.leads

/-- The outlet a logical number names (R132). -/
def State.outletOfLogical (s : State) (n : Nat) : Option OutletId :=
  allOutlets.find? (fun p => decide (s.logicalOf p = some n))

/-! ## Feeds -/

/-- The feed part of the record of a solo feed's outlet or of a gang. -/
def State.feedRec (s : State) : Feed → FeedRec
  | .solo p => (s.outlet p).own
  | .gang g => (s.gang g).own

/-- Change the feed part of a record. -/
def updFeed (f : Feed) (h : FeedRec → FeedRec) (s : State) : State :=
  match f with
  | .solo p => updOutlet p (fun o => { o with own := h o.own }) s
  | .gang g => updGang g (fun r => { r with own := h r.own }) s

def State.feedState (s : State) (f : Feed) : FeedState := (s.feedRec f).state

/-- Set the state of a feed and nothing else. -/
def setState (f : Feed) (st : FeedState) (s : State) : State := updFeed f (fun r => { r with state := st }) s

/-- The state an outlet's record shows: UNMAPPED, its own, or its gang's (R1, R2, R24). -/
def State.outletState (s : State) (p : OutletId) : OutletState :=
  match s.feedOf p with
  | none => .unmapped
  | some f => .mapped (s.feedState f)

/-- STARTING or ON: the states in which a switch is on (R5). -/
def FeedState.powered : FeedState → Bool
  | .starting => true
  | .on => true
  | _ => false

/-- STARTING, ON or STOPPING: the states that hold allocation (R3, R5). -/
def FeedState.holding : FeedState → Bool
  | .starting => true
  | .on => true
  | .stopping _ _ => true
  | _ => false

/-- The outlet is in STARTING or ON. -/
def State.outletPowered (s : State) (p : OutletId) : Bool :=
  match s.outletState p with
  | .unmapped => false
  | .mapped st => st.powered

/-- The notice subject of a feed: the outlet of a solo feed, or the gang (R22). -/
def subjectOf : Feed → Subject
  | .solo p => .outlet p
  | .gang g => .gang g

/-- The request amount of a feed: its outlet's request, or the sum over its members (R1). -/
def State.requestAmount (s : State) (f : Feed) : Nat :=
  ((s.outletsOf f).map (fun p => (s.outlet p).profile.request)).sum

/-- The allocation a feed holds, over all its outlets (R74). -/
def State.allocOf (s : State) (f : Feed) : Nat := ((s.outletsOf f).map (fun p => (s.outlet p).alloc)).sum

/-- Priority, shed policy, latch threshold and stability period of a feed (R1). -/
def State.priorityOf (s : State) : Feed → Nat
  | .solo p => (s.outlet p).profile.priority
  | .gang g => (s.gang g).profile.priority

def State.shedPolicyOf (s : State) : Feed → ShedPolicy
  | .solo p => (s.outlet p).profile.shedPolicy
  | .gang g => (s.gang g).profile.shedPolicy

def State.thresholdOf (s : State) : Feed → Nat
  | .solo p => (s.outlet p).profile.threshold
  | .gang g => (s.gang g).profile.threshold

def State.stabilityOf (s : State) : Feed → Nat
  | .solo p => (s.outlet p).profile.stability
  | .gang g => (s.gang g).profile.stability

/-- The start mode of a feed: a gang's is always MANUAL (R1). -/
def State.startModeOf (s : State) : Feed → StartMode
  | .solo p => (s.outlet p).profile.startMode
  | .gang _ => .manual

/-- The grant stamp of a feed: its outlet's; the members of a gang share one (R11, R68). -/
def State.stampOf (s : State) (f : Feed) : Nat :=
  match s.outletsOf f with
  | p :: _ => ((s.outlet p).grantStamp).getD 0
  | [] => 0

/-! ## EOFF and HOLD -/

/-- EOFF is asserted: some source has the qualified level active (R192). -/
def State.eoff (s : State) : Bool :=
  s.eoffN.active || allAux.any (fun k => decide ((s.auxLine k).fn = .eoffIn) && (s.auxLine k).input.active)

/-- HOLD is asserted: some HOLD_IN line has the qualified level active (R196). -/
def State.hold (s : State) : Bool :=
  allAux.any (fun k => decide ((s.auxLine k).fn = .holdIn) && (s.auxLine k).input.active)

/-! ## Slots and completions -/

/-- The lowest-numbered FREE slot (R148). -/
def State.freeSlot (s : State) : Option SlotId := allSlots.find? (fun n => decide (s.slot n = .free))

/-- Bind a slot to a feed's operation (R148). -/
def bindSlot (n : SlotId) (op : SlotOp) (f : Feed) (s : State) : State :=
  updFeed f (fun r => { r with op := some n }) (s.setSlot n (.pending op f))

/-- The kind of a feed's pending operation, if it has one. -/
def State.pendingKind (s : State) (f : Feed) : Option PowerKind :=
  match (s.feedRec f).op with
  | none => none
  | some n =>
    match s.slot n with
    | .pending op _ => some op.kind
    | _ => none

/-- A completion (R149): if the feed has a pending operation of this kind, its slot becomes COMPLETE with the outcome,
the feed's pending operation becomes absent, and COMPLETION is raised on the slot's subject. -/
def completeOp (k : PowerKind) (o : Completion) (f : Feed) (s : State) : State :=
  match (s.feedRec f).op with
  | none => s
  | some n =>
    match s.slot n with
    | .pending op _ =>
      if op.kind = k then
        raise (.slot n) .completion (updFeed f (fun r => { r with op := none }) (s.setSlot n (.complete op o)))
      else s
    | _ => s

/-! ## Queue entries (chapter 3) -/

/-- The order of the queue: effective priority descending, then entry stamp ascending (R46). -/
def entryBefore (a b : Entry) : Bool := decide (b.eff < a.eff) || (decide (a.eff = b.eff) && decide (a.stamp < b.stamp))

/-- Put an element into a list in front of the first element it comes before. -/
def insertBy {α : Type} (before : α → α → Bool) (x : α) : List α → List α
  | [] => [x]
  | y :: ys => if before x y then x :: y :: ys else y :: insertBy before x ys

/-- The queue without the entry of a feed. -/
def dropEntry (f : Feed) (q : List Entry) : List Entry := q.filter (fun e => decide (e.feed ≠ f))

/-- The entry of a feed. -/
def State.entryOf (s : State) (f : Feed) : Option Entry := s.queue.find? (fun e => decide (e.feed = f))

/-- The feed is the claimant. -/
def State.isClaimant (s : State) (f : Feed) : Bool :=
  match s.claim with
  | some c => decide (c.feed = f)
  | none => false

/-- Change the entry of a feed; it takes the place its keys give it (R46). -/
def updEntry (f : Feed) (h : Entry → Entry) (s : State) : State :=
  match s.entryOf f with
  | some e => { s with queue := insertBy entryBefore (h e) (dropEntry f s.queue) }
  | none => s

/-- The aging timer an entry gets at its making, at an aging step and at a base-priority write (R47, R49, R50). -/
def State.agingFor (s : State) (eff : Nat) : Option Nat :=
  if 0 < s.policy.aging ∧ eff < 7 then some s.policy.aging else none

/-- The Admission Controller makes a feed's entry (R47). -/
def makeEntry (f : Feed) (o : Origin) (s : State) : State :=
  let e : Entry :=
    { feed := f, amount := s.requestAmount f, base := s.priorityOf f, eff := s.priorityOf f,
      stamp := s.entryStamps + 1, origin := o, unfit := decide (s.budget < s.requestAmount f),
      aging := s.agingFor (s.priorityOf f) }
  { s with queue := insertBy entryBefore e s.queue, entryStamps := s.entryStamps + 1 }

/-- A feed enters QUEUED and gets its entry (R9, R47); a backoff, if one ran, has ended with RETRY_WAIT (R8). -/
def enterQueued (f : Feed) (o : Origin) (s : State) : State :=
  makeEntry f o (updFeed f (fun r => { r with state := .queued, backoff := none }) s)

/-- Drop the claim (R78). -/
def dropClaim (s : State) : State := { s with claim := none }

/-- Withdrawal (R60): the entry leaves the queue, a claim on it is dropped (R78), and the feed enters OFF. -/
def withdraw (f : Feed) (s : State) : State :=
  setState f .off
    { s with queue := dropEntry f s.queue, claim := if s.isClaimant f then none else s.claim }

/-- A feed leaves RETRY_WAIT for OFF: its backoff is cancelled, its count kept (R10). -/
def leaveRetry (f : Feed) (s : State) : State := updFeed f (fun r => { r with state := .off, backoff := none }) s

/-- Evaluate every entry's unfit flag against the budget (R52). -/
def refit (s : State) : State :=
  { s with queue := s.queue.map (fun e => { e with unfit := decide (s.budget < e.amount) }) }

/-! ## Stop (R13, R124) -/

/-- What an outlet does at the stop of its feed (R13): its allocation leaves the active total (R35). -/
def stopOutlet (s : State) (p : OutletId) : State :=
  let o := s.outlet p
  { (s.setOutlet p { o with swEn := false, ramp := none, blanking := none, pairWindow := none, overdrawWindow := none,
                            width := none, discharge := some o.profile.discharge }) with
    active := s.active - o.alloc }

/-- The feed part of a stop: STOPPING with cause and destination, the stability timer cancelled. -/
def stopRecord (f : Feed) (c : StopCause) (d : Dest) (s : State) : State :=
  match f with
  | .solo _ => updFeed f (fun r => { r with state := .stopping c d, stability := none }) s
  | .gang g =>
    updGang g (fun r => { r with own := { r.own with state := .stopping c d, stability := none }, timedOut := false }) s

/-- A stop of a feed in STARTING or ON (R13, R124). It raises nothing of its own. -/
def stopFeed (f : Feed) (c : StopCause) (d : Dest) (s : State) : State :=
  stopRecord f c d ((s.outletsOf f).foldl stopOutlet s)

/-- The destination of a feed in STOPPING changes (R15). -/
def redirect (f : Feed) (c : StopCause) (d : Dest) (s : State) : State := setState f (.stopping c d) s

/-! ## Fault taking (R107, R126) -/

/-- The consecutive count after one more fault (R107). -/
def countUp (n : Nat) : Nat := if n < Config.countMax then n + 1 else n

/-- Steps 1 and 2 of fault taking: the count rises, the cause is recorded (R107, R126). -/
def recordFault (f : Feed) (p : OutletId) (c : FaultCause) (s : State) : State :=
  let s1 := updFeed f (fun r => { r with count := countUp r.count }) s
  let s2 := updOutlet p (fun o => { o with lastCause := some c }) s1
  match f with
  | .solo _ => s2
  | .gang g => updGang g (fun r => { r with lastMember := some p }) s2

/-- FAULT on the feed's subject, and on the faulting member's own when the feed is a gang (R107, R126). -/
def raiseFault (f : Feed) (p : OutletId) (s : State) : State :=
  match f with
  | .solo _ => raise (subjectOf f) .fault s
  | .gang _ => raise (.outlet p) .fault (raise (subjectOf f) .fault s)

/-- A counted fault taken on a feed at its outlet `p` (R107 steps 1 to 6, R126 steps 1 to 6). -/
def faultFeed (f : Feed) (p : OutletId) (c : FaultCause) (s : State) : State :=
  let s1 := recordFault f p c s
  if (s1.feedRec f).count < s1.thresholdOf f then
    raise (subjectOf f) .state (raiseFault f p (stopFeed f .fault .retryWait s1))
  else
    raise (subjectOf f) .state (raiseFault f p (stopFeed f .fault .latched (completeOp .powerOn .faulted f s1)))

/-- A counted fault at an outlet: it is taken only in STARTING and ON, and has no effect elsewhere (R97). -/
def takeFault (p : OutletId) (c : FaultCause) (s : State) : State :=
  match s.feedOf p with
  | none => s
  | some f => if (s.feedState f).powered then faultFeed f p c s else s

/-! ## The overcurrent condition (R98 to R103) -/

/-- A qualified pulse acts as the trip mode decides (R101, R102). -/
def qualify (p : OutletId) (s : State) : State :=
  let s1 := updOutlet p (fun o => { o with width := none }) s
  match (s1.outlet p).profile.tripMode with
  | .single => takeFault p .overcurrent s1
  | .pair =>
    match (s1.outlet p).pairWindow with
    | none => updOutlet p (fun o => { o with pairWindow := some o.profile.pairWindow }) s1
    | some _ => takeFault p .overcurrent (updOutlet p (fun o => { o with pairWindow := none }) s1)

/-- The controller begins to examine a present condition (R100): a width of 0 qualifies at once. -/
def examine (p : OutletId) (s : State) : State :=
  if (s.outlet p).profile.width = 0 then qualify p s
  else updOutlet p (fun o => { o with width := some o.profile.width }) s

/-- The condition of an outlet is examined: STARTING or ON, blanking not running (R98). -/
def State.examined (s : State) (p : OutletId) : Bool := s.outletPowered p && (s.outlet p).blanking.isNone

/-! ## Grant (R11, R34, R59, R104, R122) -/

/-- What an outlet does at the grant of its feed (R11): the allocation enters both totals (R34). -/
def grantOutlet (stamp : Nat) (s : State) (p : OutletId) : State :=
  let o := s.outlet p
  { (s.setOutlet p { o with alloc := o.profile.request, grantStamp := some stamp, swEn := true,
                            ramp := some o.profile.ramp,
                            blanking := if o.profile.blanking = 0 then none else some o.profile.blanking,
                            ring := [] }) with
    held := s.held + o.profile.request, active := s.active + o.profile.request }

/-- The fault an outlet has at its entry to STARTING: SHORT when SHORT_N is active, else OVERCURRENT when a present
condition is examined and qualified at that moment and trips (R104, R122). -/
def entryFault (o : OutletRec) : Option FaultCause :=
  if o.shortN then some .short
  else if o.overcurrent ∧ o.blanking = none ∧ o.profile.width = 0 ∧ o.profile.tripMode = .single then
    some .overcurrent
  else none

/-- A condition present at the grant is examined from the grant when no blanking runs (R99). -/
def examineAtEntry (s : State) (p : OutletId) : State :=
  if (s.outlet p).overcurrent ∧ (s.outlet p).blanking = none then examine p s else s

/-- After the grant: the fault of the lowest outlet that has one is taken (R104, R122), else conditions present are
examined (R99). -/
def afterGrant (ps : List OutletId) (s : State) : State :=
  match ps.find? (fun p => (entryFault (s.outlet p)).isSome) with
  | some p =>
    match entryFault (s.outlet p) with
    | some c => takeFault p c s
    | none => s
  | none => ps.foldl examineAtEntry s

/-- The grant of a feed (R11, R122): one stamp for all its outlets, STARTING, and its STATE notice. -/
def grantFeed (f : Feed) (s : State) : State :=
  let ps := s.outletsOf f
  let s1 := ps.foldl (grantOutlet (s.grantStamps + 1)) { s with grantStamps := s.grantStamps + 1 }
  afterGrant ps (raise (subjectOf f) .state (setState f .starting s1))

/-! ## Victims (R68, R69, R82) -/

/-- A running feed as victim order sees it. -/
structure Running where
  feed : Feed
  priority : Nat
  stamp : Nat
  alloc : Nat
  deriving DecidableEq, Repr

/-- Victim order: lower priority first, later grant stamp first (R68). -/
def victimBefore (a b : Running) : Bool :=
  decide (a.priority < b.priority) || (decide (a.priority = b.priority) && decide (b.stamp < a.stamp))

/-- The feeds in STARTING or ON in victim order (R68). -/
def State.victims (s : State) : List Running :=
  ((s.feeds.filter (fun f => (s.feedState f).powered)).map
    (fun f => { feed := f, priority := s.priorityOf f, stamp := s.stampOf f, alloc := s.allocOf f : Running })).foldl
    (fun l r => insertBy victimBefore r l) []

/-- The destination a shed policy gives (R14). -/
def destOf : ShedPolicy → Dest
  | .requeue => .queued
  | .drop => .off

/-- Stop a victim (R69): SHED, then STATE, then under DROP the completion of its POWER_ON (R82). -/
def stopVictim (c : StopCause) (f : Feed) (s : State) : State :=
  let d := destOf (s.shedPolicyOf f)
  let s1 := raise (subjectOf f) .state (raise (subjectOf f) .shed (stopFeed f c d s))
  match d with
  | .off => completeOp .powerOn .shed f s1
  | _ => s1

/-! ## The end of a stop -/

/-- The backoff in ms that a count gives (R110). -/
def backoffFor (count : Nat) : Nat := min Config.backoffCapMs (Config.backoffBaseMs * 2 ^ (count - 1))

/-- An outlet returns its allocation (R7, R36) at its discharge end or discharge timeout; its grant stamp becomes
absent and its discharge timer no longer runs. -/
def returnAlloc (p : OutletId) (s : State) : State :=
  let o := s.outlet p
  { (s.setOutlet p { o with alloc := 0, grantStamp := none, discharge := none }) with held := s.held - o.alloc }

/-- A feed leaves STOPPING for its destination (R16 step 3, R125). -/
def enterDest (f : Feed) (d : Dest) (s : State) : State :=
  match d with
  | .off => setState f .off s
  | .queued => enterQueued f .requeue s
  | .retryWait => updFeed f (fun r => { r with state := .retryWait, backoff := some (backoffFor r.count) }) s
  | .latched => setState f .latched s

/-! ## Auxiliary outputs (R197) -/

/-- Some feed is LATCHED (R197). -/
def State.anyLatched (s : State) : Bool := s.feeds.any (fun f => decide (s.feedState f = .latched))

/-- Low while a condition holds. -/
def lowWhile (c : Bool) : Level := if c then .low else .high

/-- The level a function drives (R197); none for an input function (R196). -/
def State.lineOut (s : State) : LineFn → Option Level
  | .none => none
  | .eoffIn => none
  | .holdIn => none
  | .alertCopy => some s.alertN
  | .anyLatched => some (lowWhile s.anyLatched)
  | .shortfall => some (lowWhile (decide (s.budget < s.held)))
  | .outletOn p => some (lowWhile (s.outlet p).swEn)

/-- One line driven as its function and the conditions of the moment give. -/
def State.driven (s : State) (k : AuxId) : AuxLine := { s.auxLine k with out := s.lineOut (s.auxLine k).fn }

/-- Every auxiliary output takes the level its condition gives, in the event that changes the condition (R197). -/
def driveAux (s : State) : State := { s with aux := #v[s.driven 0, s.driven 1, s.driven 2, s.driven 3] }

/-- An event of the part: it is taken while no hard reset is in progress (R199), and the auxiliary outputs follow
within it (R197). -/
def event (act : State → State) (s : State) : State := if s.inReset then s else driveAux (act s)

end Sys2Proof.Machine
end

