-- ==== Sys2Proof/Machine/Admission.lean ====
section
/-! DEFINITION. The admission pass (R53 to R59), preemption (R72 to R75), the budget and its changes (R30, R38, R39),
shortfall shedding (R70) and the ends of a discharge, which each run a pass (R16, R17, R36, R125). -/

namespace Sys2Proof.Machine

/-! ## The pass -/

/-- The headroom a queued feed sees (R33); it can be negative. -/
def State.headroom (s : State) (f : Feed) : Int :=
  match s.claim with
  | some c => if c.feed = f then (s.budget : Int) - s.held else (s.budget : Int) - s.held - c.amount
  | none => (s.budget : Int) - s.held

/-- An entry fits when its request amount is at most the headroom that applies to it (R33). -/
def State.fits (s : State) (e : Entry) : Bool := decide ((e.amount : Int) ≤ s.headroom e.feed)

/-- A pass grants an entry (R59): it leaves the queue, a claim on it is dropped with the grant, and the feed is
granted. -/
def grantEntry (e : Entry) (s : State) : State :=
  grantFeed e.feed
    { s with queue := dropEntry e.feed s.queue, claim := if s.isClaimant e.feed then none else s.claim }

/-- The claimant stage (R55). -/
def claimantStage (s : State) : State :=
  match s.claim with
  | none => s
  | some c =>
    match s.entryOf c.feed with
    | none => s
    | some e => if s.fits e then grantEntry e s else s

/-- The walk (R56, R57) over the entries in queue order, with the blocked entry met so far: unfit entries and the
claimant are skipped, an entry that fits is granted, and the first that does not is the blocked entry, where STRICT
stops. -/
def walk (m : AdmissionMode) : List Entry → Option Entry → State → State × Option Entry
  | [], b, s => (s, b)
  | e :: es, b, s =>
    if e.unfit || s.isClaimant e.feed then walk m es b s
    else if s.fits e then walk m es b (grantEntry e s)
    else
      match m with
      | .strict => (s, b.orElse fun _ => some e)
      | .fitFirst => walk m es (b.orElse fun _ => some e) s

/-- The shortest run of feeds, taken from the front, whose allocations bring what is available to the need (R74);
none if all of them together do not. -/
def shortestRun (need : Int) : Int → List Running → Option (List Running)
  | have_, [] => if need ≤ have_ then some [] else none
  | have_, r :: rs =>
    if need ≤ have_ then some []
    else
      match shortestRun need (have_ + r.alloc) rs with
      | some l => some (r :: l)
      | none => none

/-- The running feeds a blocked entry may preempt, in victim order (R73). -/
def State.eligible (s : State) (e : Entry) : List Running :=
  s.victims.filter (fun r => decide (r.priority < e.eff))

/-- The preemption evaluation for a blocked entry (R72, R74, R75). -/
def preempt (e : Entry) (s : State) : State :=
  if s.policy.preemption && s.claim.isNone && !e.unfit && !s.hold then
    match shortestRun e.amount ((s.budget : Int) - s.held) (s.eligible e) with
    | none => s
    | some vs =>
      { vs.foldl (fun t r => stopVictim .preempt r.feed t) s with
        claim := some { feed := e.feed, amount := e.amount } }
  else s

/-- The admission pass (R54): nothing under HOLD; otherwise the claimant, the walk and the blocked entry. -/
def pass (s : State) : State :=
  if s.hold then s
  else
    let s1 := claimantStage s
    let r := walk s1.policy.mode s1.queue none s1
    match r.2 with
    | none => r.1
    | some e => preempt e r.1

/-- A pass, if the event holds a trigger of one (R53). -/
def passIf (b : Bool) (s : State) : State := if b then pass s else s

/-! ## The budget -/

/-- The capacity a supply brings in: its own while it is GOOD (R30). -/
def SupplyRec.brings (r : SupplyRec) : Nat := if r.good then r.capacity else 0

/-- The budget the supplies and the reserve give (R30). -/
def State.budgetNow (s : State) : Nat := (s.supply 0).brings + (s.supply 1).brings - s.reserve

/-- One step of shortfall shedding (R70): the next feed in victim order is stopped if the active total still exceeds
the budget. The second component counts the feeds stopped. -/
def shedStep (t : State × Nat) (r : Running) : State × Nat :=
  if t.1.active ≤ t.1.budget then t else (stopVictim .shed r.feed t.1, t.2 + 1)

/-- Shortfall shedding (R70). -/
def shedAll (s : State) : State × Nat := s.victims.foldl shedStep (s, 0)

/-- Recompute the budget (R30) and take the consequences of a decrease (R38) or an increase (R39). The second
component counts the feeds shed. -/
def recompute (s : State) : State × Nat :=
  let b := s.budgetNow
  if b < s.budget then
    let r := shedAll (refit { s with budget := b, claim := none })
    (passIf s.claim.isSome (raise .part .budget r.1), r.2)
  else if s.budget < b then (pass (raise .part .budget (refit { s with budget := b })), 0)
  else (s, 0)

/-! ## Discharge ends and discharge timeouts -/

/-- The discharge end of a solo feed (R16). -/
def soloDischarged (p : OutletId) (d : Dest) (s : State) : State :=
  pass (completeOp .powerOff .stopped (.solo p)
    (raise (.outlet p) .state (enterDest (.solo p) d (returnAlloc p s))))

/-- The discharge timeout of a solo feed (R17). -/
def soloTimeout (p : OutletId) (s : State) : State :=
  let s1 := updOutlet p (fun o => { o with lastCause := some .dischargeTimeout }) (returnAlloc p s)
  let s2 := raise (.outlet p) .state (setState (.solo p) .latched s1)
  let s3 := completeOp .powerOn .faulted (.solo p) (completeOp .powerOff .dischargeFault (.solo p) s2)
  pass (raise (.outlet p) .fault s3)

/-- The last member of a gang has become discharged: the gang leaves STOPPING for its destination (R125). -/
def gangLeaves (g : GangId) (s : State) : State :=
  match (s.gang g).own.state with
  | .stopping _ d =>
    let o : Completion := if (s.gang g).timedOut then .dischargeFault else .stopped
    raise (.gang g) .state (completeOp .powerOff o (.gang g) (enterDest (.gang g) d s))
  | _ => s

/-- Every member of the gang has become discharged (R125): none holds an allocation. -/
def State.allDischarged (s : State) (g : GangId) : Bool :=
  (s.outletsOf (.gang g)).all (fun q => decide ((s.outlet q).alloc = 0))

/-- A member has returned its allocation: the gang leaves STOPPING with its last member, and the return runs a pass
(R125, R36). -/
def memberReturned (g : GangId) (s : State) : State := pass (if s.allDischarged g then gangLeaves g s else s)

/-- The discharge end of a member (R125). -/
def memberDischarged (g : GangId) (p : OutletId) (s : State) : State := memberReturned g (returnAlloc p s)

/-- The discharge timeout of a member (R125): the destination becomes LATCHED. -/
def memberTimeout (g : GangId) (c : StopCause) (p : OutletId) (s : State) : State :=
  let s1 := updOutlet p (fun o => { o with lastCause := some .dischargeTimeout }) (returnAlloc p s)
  let s2 := updGang g (fun r => { r with lastMember := some p, timedOut := true }) (redirect (.gang g) c .latched s1)
  let s3 := completeOp .powerOn .faulted (.gang g) s2
  memberReturned g (raise (.outlet p) .fault (raise (.gang g) .fault s3))

/-! ## EOFF (R193, R195) -/

/-- What the EOFF assertion does to one feed, with its notices (R193). -/
def emergencyFeed (s : State) (f : Feed) : State :=
  match s.feedState f with
  | .starting => completeOp .powerOn .emergency f (raise (subjectOf f) .state (stopFeed f .emergency .off s))
  | .on => completeOp .powerOn .emergency f (raise (subjectOf f) .state (stopFeed f .emergency .off s))
  | .stopping c .queued => completeOp .powerOn .emergency f (redirect f c .off s)
  | .stopping c .retryWait => completeOp .powerOn .emergency f (redirect f c .off s)
  | .stopping _ .off => s
  | .stopping _ .latched => s
  | .queued => completeOp .powerOn .emergency f (raise (subjectOf f) .state (withdraw f s))
  | .retryWait => completeOp .powerOn .emergency f (raise (subjectOf f) .state (leaveRetry f s))
  | .off => s
  | .latched => s

/-- The EOFF assertion event (R193): EMERGENCY on the part, every feed in order, the claim dropped, one pass. -/
def assertEoff (s : State) : State :=
  pass (dropClaim (s.feeds.foldl emergencyFeed (raise .part .emergency s)))

/-- What the EOFF release does to one outlet (R195): an ON_PRESENCE solo feed in OFF with presence PRESENT enters
QUEUED with origin PRESENCE. -/
def releaseOutlet (s : State) (p : OutletId) : State :=
  if s.feedOf p = some (.solo p) ∧ (s.outlet p).profile.startMode = .onPresence ∧
      (s.outlet p).own.state = .off ∧ (s.outlet p).presence = true then
    raise (.outlet p) .state (enterQueued (.solo p) .presence s)
  else s

/-- The EOFF release event (R195) but for its pass. -/
def releaseEoff (s : State) : State := allOutlets.foldl releaseOutlet (raise .part .emergency s)

end Sys2Proof.Machine
end

