-- ==== Sys2Proof/Machine/Reset.lean ====
section
/-! DEFINITION. Hard reset (R199): the values every block takes, with the input pins as they are, and what the pins
found active at its end start (R25, R42, R200). -/

namespace Sys2Proof.Machine

/-- An outlet at hard reset (R25, R96, R118): its record and profile at their reset values, its input pins kept. -/
def resetOutlet (o : OutletRec) : OutletRec :=
  { OutletRec.reset with pres := o.pres, shortN := o.shortN, overcurrent := o.overcurrent }

/-- A supply at hard reset (R42), its SUPGOOD line kept. -/
def resetSupply (r : SupplyRec) : SupplyRec := { SupplyRec.reset with line := r.line }

/-- An auxiliary line at hard reset (R196, R200): NONE, with the level from outside kept. -/
def resetAux (l : AuxLine) : AuxLine :=
  { AuxLine.reset with input := { InputLine.reset with level := l.input.level } }

/-- Every block at its hard-reset value (R199 and the rules of its table). The input pins, the conditions that hold
the reset and the commands waiting stay as they are. -/
def blocksReset (s : State) : State :=
  { State.reset with
    outlets := #v[resetOutlet (s.outlet 0), resetOutlet (s.outlet 1), resetOutlet (s.outlet 2),
      resetOutlet (s.outlet 3), resetOutlet (s.outlet 4), resetOutlet (s.outlet 5), resetOutlet (s.outlet 6),
      resetOutlet (s.outlet 7), resetOutlet (s.outlet 8), resetOutlet (s.outlet 9), resetOutlet (s.outlet 10),
      resetOutlet (s.outlet 11)]
    supplies := #v[resetSupply (s.supply 0), resetSupply (s.supply 1)]
    eoffN := { InputLine.reset with level := s.eoffN.level }
    aux := #v[resetAux (s.auxLine 0), resetAux (s.auxLine 1), resetAux (s.auxLine 2), resetAux (s.auxLine 3)]
    link := { LinkRec.reset with baud := s.link.baud }
    resetBy := s.resetBy
    pending := s.pending }

/-- A hard reset begins or goes on (R199): switches off, the link stopped with TXD idle, the auxiliary lines inputs,
and ALERT_N released while it lasts (R6, R177, R191). DESIGN CHOICE (log entry 5), unsafe: the records take their reset
values at once. -/
def enterReset (s : State) : State := { blocksReset s with alertN := .high }

/-- PRES found active at the end of the reset starts the debounce timer (R25). -/
def wakeOutlet (s : State) (p : OutletId) : State :=
  if (s.outlet p).pres then updOutlet p (fun o => { o with debounce := some o.profile.debounce }) s else s

/-- A SUPGOOD line found active at the end of the reset starts its restoration timer (R42). -/
def wakeSupply (s : State) (k : SupplyId) : State :=
  if (s.supply k).line then s.setSupply k { s.supply k with restoration := some Config.restorationMs } else s

/-- EOFF_N found low at the end of the reset starts its filter (R200). -/
def wakeEoff (s : State) : State :=
  if s.eoffN.level = .low then { s with eoffN := { s.eoffN with filter := some Config.filterMs } } else s

/-- The bit rate the BAUD strap selects (R178). -/
def rateFor : Level → BitRate
  | .low => .r115200
  | .high => .r460800

/-- The end of a hard reset (R199): every block takes its reset value, the BAUD strap is sampled (R178), the active
pins start their timers, and ALERT_N is driven low for the RESTARTED notice (R177). -/
def finishReset (baud : Level) (s : State) : State :=
  let s0 := blocksReset s
  let s1 := { s0 with
    link := { s0.link with baud := baud, rate := rateFor baud }
    resetBy := { vdd := false, pin := false } }
  wakeEoff (wakeSupply (wakeSupply (allOutlets.foldl wakeOutlet s1) 0) 1)

end Sys2Proof.Machine
end

