-- ==== Sys2Proof/Machine/Operands.lean ====
section
/-! DEFINITION. The operands of requests: targets, feed bytes, field lists, and how a request event is taken
(R144, R146, R187, R201, R202). -/

namespace Sys2Proof.Machine

/-- The forms of a target byte (R146, appendix A.3). -/
inductive Target where
  | logical (n : Nat)
  | physical (p : OutletId)
  | gang (g : GangId)
  | all
  | bad
  deriving DecidableEq, Repr

/-- The target a byte names (appendix A.3). -/
def readTarget (b : Byte) : Target :=
  let n := b.toNat
  if 0x01 ≤ n ∧ n ≤ 0x0C then .logical n
  else if 0x41 ≤ n ∧ n ≤ 0x4C then .physical (Fin.ofNat 12 (n - 0x41))
  else if 0x81 ≤ n ∧ n ≤ 0x84 then .gang (Fin.ofNat 4 (n - 0x81))
  else if n = 0xFF then .all
  else .bad

/-- The outlet a target names for READ_OUTLET, READ_METER and SET_PROFILE (R146). -/
def State.outletTarget (s : State) (b : Byte) : Option OutletId :=
  match readTarget b with
  | .logical n => s.outletOfLogical n
  | .physical p => some p
  | .gang _ => none
  | .all => none
  | .bad => none

/-- The gang a target names for READ_GANG and SET_GANG_PROFILE, defined or not (R146). -/
def gangTarget (b : Byte) : Option GangId :=
  match readTarget b with
  | .gang g => some g
  | .logical _ => none
  | .physical _ => none
  | .all => none
  | .bad => none

/-- The feed a target names for POWER_ON, POWER_OFF with one target and CLEAR_FAULT, or the refusal (R146). -/
def State.feedTarget (s : State) (b : Byte) : Except Reason Feed :=
  match readTarget b with
  | .logical n =>
    match s.outletOfLogical n with
    | none => .error .badTarget
    | some p =>
      match s.gangOf p with
      | some _ => .error .inGang
      | none => .ok (.solo p)
  | .gang g => if (s.membersOf g).isSome then .ok (.gang g) else .error .badTarget
  | .physical _ => .error .badTarget
  | .all => .error .badTarget
  | .bad => .error .badTarget

/-- The byte that names a feed in a reply (appendix A.3). -/
def State.feedByte (s : State) : Feed → Byte
  | .solo p => byte ((s.logicalOf p).getD 0)
  | .gang g => byte (0x81 + g.val)

/-- The claimant's feed byte and the claim amount, 0 and 0 without a claim (R161, R65, R201). -/
def State.claimBytes (s : State) : List Byte :=
  match s.claim with
  | some c => s.feedByte c.feed :: be16 c.amount
  | none => [0#8, 0#8, 0#8]

/-- The EOFF and HOLD states as the line states byte (appendix A.5, A.6). -/
def State.lineStates (s : State) : Byte := flagByte s.eoff ||| (flagByte s.hold <<< 1)

/-- The three-byte pairs of field identifier and value (R155, R202); none if the bytes hold no whole number of
pairs. -/
def readPairs : List Byte → Option (List (Byte × Nat))
  | [] => some []
  | a :: hi :: lo :: rest =>
    match readPairs rest with
    | some l => some ((a, num16 hi lo) :: l)
    | none => none
  | _ => none

/-- The two-byte pairs of STAGE_MAP (R134, R202). -/
def readTwos : List Byte → Option (List (Byte × Byte))
  | [] => some []
  | a :: b :: rest =>
    match readTwos rest with
    | some l => some ((a, b) :: l)
    | none => none
  | _ => none

/-- An optional two-byte field (R202): absent, or taken from the front. -/
def takeWord (present : Bool) (l : List Byte) : Option Nat × List Byte :=
  match present, l with
  | true, hi :: lo :: rest => (some (num16 hi lo), rest)
  | _, l => (none, l)

/-- An optional one-byte field (R202). -/
def takeByte (present : Bool) (l : List Byte) : Option Nat × List Byte :=
  match present, l with
  | true, b :: rest => (some b.toNat, rest)
  | _, l => (none, l)

/-- The number of the three named mask bits that are set (R202). -/
def maskCount (m : Byte) : Nat := (m.getLsbD 0).toNat + (m.getLsbD 1).toNat + (m.getLsbD 2).toNat

/-- An optional value lies within its bounds. -/
def within (v : Option Nat) (hi : Nat) : Bool :=
  match v with
  | some x => decide (x ≤ hi)
  | none => true

/-- A physical index 1 to 12 in a byte. -/
def readPhysical (b : Byte) : Option OutletId :=
  if 1 ≤ b.toNat ∧ b.toNat ≤ 12 then some (Fin.ofNat 12 (b.toNat - 1)) else none

/-- A gang number 1 to 4 in a byte. -/
def readGangNumber (b : Byte) : Option GangId :=
  if 1 ≤ b.toNat ∧ b.toNat ≤ 4 then some (Fin.ofNat 4 (b.toNat - 1)) else none

/-- A request event (R144): the effect of the request, and the reply cache takes the frame and the reply (R187).
The second component is the complete reply frame (R186). -/
def takeRequest (eff : Frame → State → State × List Byte) (f : Frame) (s : State) : State × List Byte :=
  let r := eff f s
  let reply := frameBytes f.seq (replyKind f.kind) r.2
  ({ r.1 with link := { r.1.link with
      cache := some { seq := f.seq, kind := f.kind, crc := f.crc, reply := reply } } }, reply)

/-- The Request Handler takes requests: no hard reset is in progress (R199) and no RESTART has been taken (R159). -/
def State.takesRequests (s : State) : Bool := !s.inReset && !s.link.restarting

/-- A request command: the request event of one frame, if the Request Handler takes requests. -/
def asRequest (kind : Byte) (eff : Frame → State → State × List Byte) (seq : Byte) (payload : List Byte)
    (s : State) : State :=
  if s.takesRequests then driveAux (takeRequest eff (mkFrame seq kind payload) s).1 else s

end Sys2Proof.Machine
end

