-- ==== Sys2Proof/Machine/Lines.lean ====
section
/-! DEFINITION. The Line Unit (chapter 12): level changes and stability filters of EOFF_N and the auxiliary lines,
and SET_LINE; and the level of the BAUD strap (R178). -/

namespace Sys2Proof.Machine

/-- A line seen as an input: EOFF_N, an auxiliary line, or the BAUD strap, which is not filtered (R178). -/
def State.inputLine (s : State) : LineId → InputLine
  | .eoffN => s.eoffN
  | .aux k => (s.auxLine k).input
  | .baud => { level := s.link.baud, active := false, filter := none }

/-- Replace what the part holds of an input line; of the BAUD strap that is its level alone. -/
def setInput (l : LineId) (i : InputLine) (s : State) : State :=
  match l with
  | .eoffN => { s with eoffN := i }
  | .aux k => s.setAux k { s.auxLine k with input := i }
  | .baud => { s with link := { s.link with baud := i.level } }

/-- The functions that make an auxiliary line an input that is qualified (R196). -/
def LineFn.qualified : LineFn → Bool
  | .eoffIn => true
  | .holdIn => true
  | _ => false

/-- The line is a source of EOFF or HOLD (R192, R196). -/
def State.isSource (s : State) : LineId → Bool
  | .eoffN => true
  | .aux k => (s.auxLine k).fn.qualified
  | .baud => false

/-- A line's level changes (R192): a source's stability filter starts or restarts. A line that is no source has its
level followed and nothing more (R196), the BAUD strap among them: its change counts at the next hard reset (R178). -/
def lineChanged (l : LineId) (level : Level) (s : State) : State :=
  let i := s.inputLine l
  if i.level = level then s
  else if s.isSource l then setInput l { i with level := level, filter := some Config.filterMs } s
  else setInput l { i with level := level } s

/-- During a hard reset only the level of a line is followed; its end looks at it (R200). -/
def lineInReset (l : LineId) (level : Level) (s : State) : State :=
  setInput l { s.inputLine l with level := level } s

/-- What follows a change of the sets of active sources (R192, R196): the assertion event, the release event with its
pass, the pass of a HOLD release, or nothing. `s` is the state before, `t` the one after the change. -/
def sourcesChanged (s t : State) : State :=
  if t.eoff && !s.eoff then assertEoff t
  else if s.eoff && !t.eoff then pass (releaseEoff t)
  else if s.hold && !t.hold then pass t
  else t

/-- A stability filter expires (R192): the qualified level takes the input level. -/
def lineQualified (l : LineId) (s : State) : State :=
  let i := s.inputLine l
  if i.filter.isSome && s.isSource l then
    sourcesChanged s (setInput l { i with active := decide (i.level = .low), filter := none } s)
  else s

/-- The function a SET_LINE names by its code and outlet field (R198, R201); none when out of range. -/
def readLineFn (fn o : Byte) : Option LineFn :=
  if fn = 6#8 then (readPhysical o).map .outletOn
  else if o = 0#8 then
    if fn = 0#8 then some .none
    else if fn = 1#8 then some .eoffIn
    else if fn = 2#8 then some .holdIn
    else if fn = 3#8 then some .alertCopy
    else if fn = 4#8 then some .anyLatched
    else if fn = 5#8 then some .shortfall
    else none
  else none

/-- An auxiliary line number in a byte (R198). -/
def readLine (b : Byte) : Option AuxId := if b.toNat ≤ 3 then some (Fin.ofNat 4 b.toNat) else none

/-- The line as its new function finds it (R198): unqualified, its filter started when it is an input that is low. -/
def startLine (fn : LineFn) (old : AuxLine) : AuxLine :=
  { fn := fn
    input := { level := old.input.level, active := false,
               filter := if fn.qualified && decide (old.input.level = .low) then some Config.filterMs else none }
    out := none }

/-- A line's function changes (R198): the old function ends, which can release EOFF or HOLD, and the new begins. -/
def changeLine (k : AuxId) (fn : LineFn) (s : State) : State :=
  if (s.auxLine k).fn = fn then s else sourcesChanged s (s.setAux k (startLine fn (s.auxLine k)))

/-- SET_LINE (R198). -/
def reqSetLine (fr : Frame) (s : State) : State × List Byte :=
  match fr.payload with
  | [b, fn, o] =>
    match readLine b, readLineFn fn o with
    | some k, some f =>
      let s1 := changeLine k f s
      (s1, done [b, codeLineFn f, codeLineOutlet f, s1.lineStates])
    | _, _ => refuse s .badValue
  | _ => refuse s .badLength

/-- SET_LINE as a command. -/
def execSetLine (seq : Byte) (payload : List Byte) (s : State) : Host.Outcome State Fault Refusal :=
  .next (asRequest Config.kindSetLine reqSetLine seq payload s)

/-- LINE_LEVEL_CHANGE. -/
def execLineLevelChange (l : LineId) (level : Level) (s : State) : Host.Outcome State Fault Refusal :=
  .next (if s.inReset then lineInReset l level s else event (lineChanged l level) s)

/-- LINE_FILTER_EXPIRY. -/
def execLineFilterExpiry (l : LineId) (s : State) : Host.Outcome State Fault Refusal :=
  .next (event (lineQualified l) s)

end Sys2Proof.Machine
end

