-- ==== Sys2Proof/Machine/Queries.lean ====
section
/-! DEFINITION. The requests that report: IDENT, STATUS, READ_OUTLET, READ_GANG, READ_METER, READ_QUEUE. -/

namespace Sys2Proof.Machine

/-- IDENT (R160). -/
def reqIdent (f : Frame) (s : State) : State × List Byte :=
  match f.payload with
  | [] =>
    (s, done (be16 Config.vendorCode ++ be16 Config.partCode ++
      [byte Config.revision, byte Config.protocolVersion, 12#8, 4#8, 4#8]))
  | _ => refuse s .badLength

/-! ## Meter values -/

/-- The average is ready when the ring holds 8 samples (R88). -/
def OutletRec.ready (o : OutletRec) : Bool := decide (o.ring.length = Config.ringSize)

/-- The average: the mean of the ring's samples rounded down, absent when not ready (R88). -/
def OutletRec.average (o : OutletRec) : Option Nat :=
  if o.ready then some (o.ring.sum / Config.ringSize) else none

/-- The metered total and the metered count (R91). -/
def State.meteredTotal (s : State) : Nat := (allOutlets.map (fun p => ((s.outlet p).average).getD 0)).sum
def State.meteredCount (s : State) : Nat := (allOutlets.filter (fun p => (s.outlet p).ready)).length

/-- Slots PENDING and slots COMPLETE (R161). -/
def Slot.isPending : Slot → Bool
  | .pending _ _ => true
  | _ => false
def Slot.isComplete : Slot → Bool
  | .complete _ _ => true
  | _ => false
def State.slotsPending (s : State) : Nat := (allSlots.filter (fun n => (s.slot n).isPending)).length
def State.slotsComplete (s : State) : Nat := (allSlots.filter (fun n => (s.slot n).isComplete)).length

/-- The status record (R161, appendix A.6). -/
def State.statusRecord (s : State) : List Byte :=
  be16 s.budget ++ be16 s.held ++ be16 s.active ++ be16 s.reserve ++
  (flagByte (s.supply 0).good :: be16 (s.supply 0).capacity) ++
  (flagByte (s.supply 1).good :: be16 (s.supply 1).capacity) ++
  [s.lineStates, byte s.queue.length] ++ s.claimBytes ++
  [byte (openCount s.notices), byte s.slotsPending, byte s.slotsComplete] ++
  be16 s.meteredTotal ++ [byte s.meteredCount]

/-- STATUS (R161). -/
def reqStatus (f : Frame) (s : State) : State × List Byte :=
  match f.payload with
  | [] => (s, done s.statusRecord)
  | _ => refuse s .badLength

/-- The bytes of a profile (appendix A.6). -/
def Profile.bytes (r : Profile) : List Byte :=
  be16 r.request ++ [byte r.priority, codeStartMode r.startMode] ++ be16 r.debounce ++
  [byte r.ramp, byte r.blanking, codeTripMode r.tripMode, byte r.width, byte r.pairWindow, byte r.threshold,
   byte r.stability, codeShedPolicy r.shedPolicy, flagByte r.overdrawCheck, byte r.overdrawMargin] ++
  be16 r.overdrawWindow ++ be16 r.discharge

/-- The stop cause and destination bytes of an outlet's record. -/
def OutletState.causeByte : OutletState → Byte
  | .unmapped => 0#8
  | .mapped st => codeCauseOf st
def OutletState.destByte : OutletState → Byte
  | .unmapped => 0#8
  | .mapped st => codeDestOf st

/-- The count an outlet's record shows: a member's is held at 0 (R24). -/
def State.countOf (s : State) (p : OutletId) : Nat :=
  match s.feedOf p with
  | some (.solo q) => (s.outlet q).own.count
  | _ => 0

/-- The pending operation an outlet's record shows: a member's is absent (R24). -/
def State.opOf (s : State) (p : OutletId) : Option SlotId :=
  match s.feedOf p with
  | some (.solo q) => (s.outlet q).own.op
  | _ => none

/-- The outlet record and profile (R162, appendix A.6). -/
def State.outletRecord (s : State) (p : OutletId) : List Byte :=
  let o := s.outlet p
  [flagByte o.grantStamp.isSome, byte (p.val + 1), byte ((s.logicalOf p).getD 0), codeGang (s.gangOf p),
   codeOutletState (s.outletState p), (s.outletState p).causeByte, (s.outletState p).destByte] ++
  be16 o.alloc ++ [flagByte o.presence] ++ be16 (o.grantStamp.getD 0) ++
  [byte (s.countOf p), codeFaultCause o.lastCause, codeSlot (s.opOf p)] ++ o.profile.bytes

/-- READ_OUTLET (R162). -/
def reqReadOutlet (f : Frame) (s : State) : State × List Byte :=
  match f.payload with
  | [t] =>
    match s.outletTarget t with
    | some p => (s, done (s.outletRecord p))
    | none => refuse s .badTarget
  | _ => refuse s .badLength

/-- The member positions of a gang record or map record: a count and four positions (R201). -/
def memberBytes (ms : Option (List OutletId)) : List Byte :=
  let l := (ms.getD []).map (fun p => byte (p.val + 1))
  byte l.length :: (l ++ List.replicate (4 - l.length) 0#8)

/-- The gang record (R163, appendix A.6). State, cause and destination are 0 while the gang is not defined. -/
def State.gangRecord (s : State) (g : GangId) : List Byte :=
  let r := s.gang g
  let defined_ := (s.membersOf g).isSome
  [byte (g.val + 1)] ++ memberBytes (s.membersOf g) ++
  [if defined_ then codeFeedState r.own.state else 0#8, if defined_ then codeCauseOf r.own.state else 0#8,
   if defined_ then codeDestOf r.own.state else 0#8, byte r.own.count, codePhysical r.lastMember,
   codeSlot r.own.op] ++
  be16 (s.requestAmount (.gang g)) ++
  [byte r.profile.priority, byte r.profile.threshold, byte r.profile.stability, codeShedPolicy r.profile.shedPolicy]

/-- READ_GANG (R163). -/
def reqReadGang (f : Frame) (s : State) : State × List Byte :=
  match f.payload with
  | [t] =>
    match gangTarget t with
    | some g => (s, done (s.gangRecord g))
    | none => refuse s .badTarget
  | _ => refuse s .badLength

/-- The meter record (R90, appendix A.6). -/
def meterRecord (p : OutletId) (o : OutletRec) : List Byte :=
  [byte (p.val + 1), byte o.ring.length, flagByte o.ready ||| (flagByte o.latest.isSome <<< 1)] ++
  be16 (o.average.getD 0) ++
  (match o.latest with
   | some (x, l) => be16 x ++ [codeOutLevel l]
   | none => [0#8, 0#8, 0#8]) ++
  be16 o.peak

/-- The peak after a READ_METER: the latest sample, or 0 before the first scan (R89). -/
def peakAfterRead (o : OutletRec) : Nat :=
  match o.latest with
  | some (x, _) => x
  | none => 0

/-- READ_METER (R90): the values are reported, then the peak is reset (R89). -/
def reqReadMeter (f : Frame) (s : State) : State × List Byte :=
  match f.payload with
  | [t] =>
    match s.outletTarget t with
    | some p => (updOutlet p (fun o => { o with peak := peakAfterRead o }) s, done (meterRecord p (s.outlet p)))
    | none => refuse s .badTarget
  | _ => refuse s .badLength

/-- An entry of the READ_QUEUE reply (appendix A.6). -/
def State.entryBytes (s : State) (e : Entry) : List Byte :=
  [s.feedByte e.feed] ++ be16 e.amount ++
  [byte (e.base * 16 + e.eff), byte (codeOrigin e.origin + if e.unfit then 128 else 0)]

/-- The entries a READ_QUEUE reports: at most seven from the start position onward (R65). -/
def State.queuePage (s : State) (start : Nat) : List Entry := (s.queue.drop (start - 1)).take Config.pageSize

/-- READ_QUEUE (R65). -/
def reqReadQueue (f : Frame) (s : State) : State × List Byte :=
  match f.payload with
  | [b] =>
    if 1 ≤ b.toNat ∧ b.toNat ≤ 12 then
      (s, done ([byte s.queue.length] ++ s.claimBytes ++ [byte (s.queuePage b.toNat).length] ++
        (s.queuePage b.toNat).flatMap s.entryBytes))
    else refuse s .badValue
  | _ => refuse s .badLength

/-- IDENT as a command. -/
def execIdent (seq : Byte) (payload : List Byte) (s : State) : Host.Outcome State Fault Refusal :=
  .next (asRequest Config.kindIdent reqIdent seq payload s)

/-- STATUS as a command. -/
def execStatus (seq : Byte) (payload : List Byte) (s : State) : Host.Outcome State Fault Refusal :=
  .next (asRequest Config.kindStatus reqStatus seq payload s)

/-- READ_OUTLET as a command. -/
def execReadOutlet (seq : Byte) (payload : List Byte) (s : State) : Host.Outcome State Fault Refusal :=
  .next (asRequest Config.kindReadOutlet reqReadOutlet seq payload s)

/-- READ_GANG as a command. -/
def execReadGang (seq : Byte) (payload : List Byte) (s : State) : Host.Outcome State Fault Refusal :=
  .next (asRequest Config.kindReadGang reqReadGang seq payload s)

/-- READ_METER as a command. -/
def execReadMeter (seq : Byte) (payload : List Byte) (s : State) : Host.Outcome State Fault Refusal :=
  .next (asRequest Config.kindReadMeter reqReadMeter seq payload s)

/-- READ_QUEUE as a command. -/
def execReadQueue (seq : Byte) (payload : List Byte) (s : State) : Host.Outcome State Fault Refusal :=
  .next (asRequest Config.kindReadQueue reqReadQueue seq payload s)

end Sys2Proof.Machine
end

