-- ==== Sys2Proof/Machine/MapTable.lean ====
section
/-! DEFINITION. The Map Table (chapter 8): STAGE_MAP, STAGE_GANG, DISCARD_MAP, READ_MAP and APPLY_MAP. -/

namespace Sys2Proof.Machine

/-! ## Editing -/

/-- A staged number from its byte: 1 to 12, or 0 for DISABLED (R134, R202); none when out of range. -/
def readNumber (b : Byte) : Option (Option Nat) :=
  if b.toNat = 0 then some none else if b.toNat ≤ 12 then some (some b.toNat) else none

/-- The pairs of a STAGE_MAP, if all lie in range (R134). -/
def readMapPairs : List (Byte × Byte) → Option (List (OutletId × Option Nat))
  | [] => some []
  | (a, b) :: rest =>
    match readPhysical a, readNumber b, readMapPairs rest with
    | some p, some n, some l => some ((p, n) :: l)
    | _, _, _ => none

/-- Write one number into a map. -/
def MapRec.setNumber (m : MapRec) (x : OutletId × Option Nat) : MapRec := { m with numbers := tset m.numbers x.1 x.2 }

/-- The enabled outlets of a map in ascending physical index (R132). -/
def MapRec.enabled (m : MapRec) : List OutletId := allOutlets.filter (fun p => (tget m.numbers p).isSome)

/-- STAGE_MAP (R134). -/
def reqStageMap (fr : Frame) (s : State) : State × List Byte :=
  match readTwos fr.payload with
  | none => refuse s .badLength
  | some l =>
    if 1 ≤ l.length ∧ l.length ≤ 12 then
      match readMapPairs l with
      | none => refuse s .badValue
      | some ws =>
        let m := ws.foldl MapRec.setNumber s.stagedMap
        ({ s with stagedMap := m }, done [byte m.enabled.length])
    else refuse s .badLength

/-- The outlets a STAGE_GANG names, ascending and each once, if all lie in range (R135). -/
def readMembers (l : List Byte) : Option (List OutletId) :=
  if l.all (fun b => (readPhysical b).isSome) then
    some (allOutlets.filter (fun p => l.any (fun b => decide (readPhysical b = some p))))
  else none

/-- Replace one gang's list in a map. -/
def MapRec.setGangList (m : MapRec) (g : GangId) (l : Option (List OutletId)) : MapRec :=
  { m with gangs := tset m.gangs g l }

/-- STAGE_GANG (R135). -/
def reqStageGang (fr : Frame) (s : State) : State × List Byte :=
  match fr.payload with
  | [] => refuse s .badLength
  | b :: rest =>
    if rest.length ≤ 4 then
      match readGangNumber b, readMembers rest with
      | some g, some ms =>
        if rest.length = 1 then refuse s .badValue
        else
          ({ s with stagedMap := s.stagedMap.setGangList g (if ms = [] then none else some ms) },
            done ([byte (g.val + 1), byte ms.length] ++ ms.map (fun p => byte (p.val + 1))))
      | _, _ => refuse s .badValue
    else refuse s .badLength

/-- DISCARD_MAP (R136). -/
def reqDiscardMap (fr : Frame) (s : State) : State × List Byte :=
  match fr.payload with
  | [] => ({ s with stagedMap := s.activeMap }, done [])
  | _ => refuse s .badLength

/-- The map record (appendix A.6). -/
def MapRec.bytes (m : MapRec) : List Byte :=
  allOutlets.map (fun p => byte ((tget m.numbers p).getD 0)) ++ allGangs.flatMap (fun g => memberBytes (tget m.gangs g))

/-- READ_MAP (R137): selector 1 STAGED, 2 ACTIVE. -/
def reqReadMap (fr : Frame) (s : State) : State × List Byte :=
  match fr.payload with
  | [b] =>
    let differs := flagByte (decide (s.stagedMap ≠ s.activeMap))
    if b = 1#8 then (s, done ([b, differs] ++ s.stagedMap.bytes))
    else if b = 2#8 then (s, done ([b, differs] ++ s.activeMap.bytes))
    else refuse s .badValue
  | _ => refuse s .badLength

/-! ## Validation (R138, R139) -/

/-- A state in which a mapped outlet keeps an apply away (R138). -/
def FeedState.busy : FeedState → Bool
  | .off => false
  | .latched => false
  | _ => true

/-- An outlet that keeps an apply away (R138). -/
def State.outletBusy (s : State) (p : OutletId) : Bool :=
  match s.outletState p with
  | .unmapped => false
  | .mapped st => st.busy

/-- The part is quiet enough for an apply (R138). -/
def State.quiescent (s : State) : Bool :=
  allOutlets.all (fun p => !s.outletBusy p) && allSlots.all (fun n => !(s.slot n).isPending)

/-- Check 1 fails at an outlet: its number is above k, or another enabled outlet carries it (R139). -/
def MapRec.badNumber (m : MapRec) (p : OutletId) : Bool :=
  match tget m.numbers p with
  | none => false
  | some n =>
    decide (m.enabled.length < n) || allOutlets.any (fun q => decide (q ≠ p) && decide (tget m.numbers q = some n))

/-- Check 2 fails at a gang (R139): its list holds fewer than 2 distinct members. -/
def MapRec.badSize (m : MapRec) (g : GangId) : Bool :=
  match tget m.gangs g with
  | none => false
  | some ms => decide ((allOutlets.filter ms.contains).length < 2)

/-- Check 3 fails at a member of a gang (R139): it is DISABLED, or a lower-numbered gang names it. -/
def MapRec.badMember (m : MapRec) (g : GangId) (p : OutletId) : Bool :=
  m.hasMember p g &&
    ((tget m.numbers p).isNone || allGangs.any (fun h => decide (h < g) && m.hasMember p h))

/-- Check 4 fails at a member of a gang (R139): it is LATCHED in the active map and not a member of the same gang
there. -/
def State.badLatch (s : State) (g : GangId) (p : OutletId) : Bool :=
  s.stagedMap.hasMember p g && decide (s.outletState p = .mapped .latched) && !s.activeMap.hasMember p g

/-- The lowest gang, and in it the lowest outlet, at which a check fails. -/
def firstBad (bad : GangId → OutletId → Bool) : Option (GangId × OutletId) :=
  allGangs.findSome? (fun g => (allOutlets.find? (bad g)).map (fun p => (g, p)))

/-- The checks of R139 in order: none when all pass, else the check's code, the gang and the outlet reported. -/
def State.mapProblem (s : State) : Option (Byte × Option GangId × Option OutletId) :=
  match allOutlets.find? s.stagedMap.badNumber with
  | some p => some (1#8, none, some p)
  | none =>
    match allGangs.find? s.stagedMap.badSize with
    | some g => some (2#8, some g, none)
    | none =>
      match firstBad s.stagedMap.badMember with
      | some (g, p) => some (3#8, some g, some p)
      | none =>
        match firstBad s.badLatch with
        | some (g, p) => some (4#8, some g, some p)
        | none => none

/-! ## Apply (R140 to R142) -/

/-- A gang's membership changes with the apply (section 8.4). -/
def State.membershipChanges (s : State) (g : GangId) : Bool :=
  decide (tget s.stagedMap.gangs g ≠ tget s.activeMap.gangs g)

/-- Some new member of the gang was LATCHED before the apply (R141). -/
def State.bringsLatch (s : State) (g : GangId) : Bool :=
  allOutlets.any (fun p => s.stagedMap.hasMember p g && decide (s.outletState p = .mapped .latched))

/-- A gang's record after the apply (R141); `s` is the state before. -/
def State.gangAfter (s : State) (g : GangId) : GangRec :=
  let r := s.gang g
  if s.membershipChanges g then
    match tget s.stagedMap.gangs g with
    | none => { r with own := FeedRec.rest, lastMember := none, timedOut := false }
    | some ms =>
      if s.bringsLatch g then
        { r with
          own := { FeedRec.rest with state := .latched }
          lastMember := r.lastMember.bind (fun p => if ms.contains p then some p else none)
          timedOut := false }
      else { r with own := FeedRec.rest, lastMember := none, timedOut := false }
  else r

/-- The feed an outlet forms or joins under a map. -/
def MapRec.feedOf (m : MapRec) (p : OutletId) : Option Feed :=
  match tget m.numbers p with
  | none => none
  | some _ =>
    match m.gangOf p with
    | some g => some (.gang g)
    | none => some (.solo p)

/-- An outlet's record after the apply (R140); `s` is the state before. Solo before and after keeps its feed part; a
member that becomes solo keeps the state it had in the gang; in every other case the feed part is at rest. The last
fault cause is kept but for an outlet that is or becomes UNMAPPED. -/
def State.outletAfter (s : State) (p : OutletId) : OutletRec :=
  let o := s.outlet p
  match s.activeMap.feedOf p, s.stagedMap.feedOf p with
  | none, none => o
  | some _, none => { o with own := FeedRec.rest, lastCause := none }
  | none, some _ => { o with own := FeedRec.rest, lastCause := none }
  | some (.solo _), some (.solo _) => o
  | some (.gang g), some (.solo _) => { o with own := { FeedRec.rest with state := (s.gang g).own.state } }
  | some _, some (.gang _) => { o with own := FeedRec.rest }

/-- The outlet becomes UNMAPPED or leaves UNMAPPED (R142). -/
def State.mappingChanges (s : State) (p : OutletId) : Bool :=
  decide ((tget s.activeMap.numbers p).isSome ≠ (tget s.stagedMap.numbers p).isSome)

/-- The staged map becomes active (R139 to R141). -/
def applyStaged (s : State) : State :=
  { s with
    outlets := #v[s.outletAfter 0, s.outletAfter 1, s.outletAfter 2, s.outletAfter 3, s.outletAfter 4,
      s.outletAfter 5, s.outletAfter 6, s.outletAfter 7, s.outletAfter 8, s.outletAfter 9, s.outletAfter 10,
      s.outletAfter 11]
    gangs := #v[s.gangAfter 0, s.gangAfter 1, s.gangAfter 2, s.gangAfter 3]
    activeMap := s.stagedMap }

/-- The notices of an apply in their order (R142); `s` is the state before, `t` the one the raises act on. -/
def applyNotices (s t : State) : State :=
  let t1 := raise .part .map t
  let t2 := (allOutlets.filter s.mappingChanges).foldl (fun u p => raise (.outlet p) .state u) t1
  (allGangs.filter s.membershipChanges).foldl (fun u g => raise (.gang g) .state u) t2

/-- APPLY_MAP (R138, R139). -/
def reqApplyMap (fr : Frame) (s : State) : State × List Byte :=
  match fr.payload with
  | [] =>
    if s.quiescent then
      match s.mapProblem with
      | some (c, g, p) => (s, refusedWith .mapInvalid [c, codeGang g, codePhysical p])
      | none => (applyNotices s (applyStaged s), done [])
    else refuse s .outletsActive
  | _ => refuse s .badLength

/-- STAGE_MAP as a command. -/
def execStageMap (seq : Byte) (payload : List Byte) (s : State) : Host.Outcome State Fault Refusal :=
  .next (asRequest Config.kindStageMap reqStageMap seq payload s)

/-- STAGE_GANG as a command. -/
def execStageGang (seq : Byte) (payload : List Byte) (s : State) : Host.Outcome State Fault Refusal :=
  .next (asRequest Config.kindStageGang reqStageGang seq payload s)

/-- APPLY_MAP as a command. -/
def execApplyMap (seq : Byte) (payload : List Byte) (s : State) : Host.Outcome State Fault Refusal :=
  .next (asRequest Config.kindApplyMap reqApplyMap seq payload s)

/-- DISCARD_MAP as a command. -/
def execDiscardMap (seq : Byte) (payload : List Byte) (s : State) : Host.Outcome State Fault Refusal :=
  .next (asRequest Config.kindDiscardMap reqDiscardMap seq payload s)

/-- READ_MAP as a command. -/
def execReadMap (seq : Byte) (payload : List Byte) (s : State) : Host.Outcome State Fault Refusal :=
  .next (asRequest Config.kindReadMap reqReadMap seq payload s)

end Sys2Proof.Machine
end

