-- ==== Sys2Proof/Machine/NoticeList.lean ====
section
/-! DEFINITION. FETCH_NOTICES (R171 to R174): acknowledgement, delivery, snapshots and the reply. -/

namespace Sys2Proof.Machine

/-- The snapshot of a subject (R170). -/
def State.snapshot (s : State) : Subject → Snapshot
  | .outlet p =>
    .outlet (s.logicalOf p) (s.outletState p) (s.outlet p).presence (s.countOf p) (s.outlet p).lastCause
  | .gang g =>
    .gang (if (s.membersOf g).isSome then some (s.gang g).own.state else none) (s.gang g).own.count
      (s.gang g).lastMember
  | .supply k => .supply (s.supply k).good (s.supply k).capacity
  | .part => .part s.budget s.held s.eoff
  | .slot n =>
    match s.slot n with
    | .complete op o => .slot op o
    | _ => .emptySlot

/-- The five bytes of a snapshot (appendix A.6). -/
def Snapshot.bytes : Snapshot → List Byte
  | .outlet l st pr c k => [byte (l.getD 0), codeOutletState st, flagByte pr, byte c, codeFaultCause k]
  | .gang st c m =>
    [match st with
     | some x => codeFeedState x
     | none => 0#8, byte c, codePhysical m, 0#8, 0#8]
  | .supply g c => flagByte g :: be16 c ++ [0#8, 0#8]
  | .part b h e => be16 b ++ be16 h ++ [flagByte e]
  | .slot op o => [op.seq, codePowerKind op.kind, op.target, codeCompletion o, 0#8]
  | .emptySlot => [0#8, 0#8, 0#8, 0#8, 0#8]

/-! ## Acknowledgement (R172) -/

/-- How many deliveries ago a number was given, the latest being 1 (numbers run 1 to 65535 and wrap, R173). The
DELIVERED notices carry numbers of at most 23 consecutive deliveries (R172), so this ranks them by delivery. -/
def ageOf (next number : Nat) : Nat := (next + Config.numberMax - number - 1) % Config.numberMax + 1

/-- The number of a DELIVERED notice. -/
def Notice.number? (n : Notice) : Option Nat :=
  match n.status with
  | .delivered k _ => some k
  | .opened => none

/-- The notice is DELIVERED, and not later than the one numbered `ack`. -/
def ackedBy (next ack : Nat) (n : Notice) : Bool :=
  match n.number? with
  | some k => decide (ageOf next ack ≤ ageOf next k)
  | none => false

/-- The acknowledgement is taken: the number is that of a DELIVERED notice (R172). -/
def State.ackTaken (s : State) (ack : Nat) : Bool := s.notices.any (fun n => decide (n.number? = some ack))

/-- A removed notice on a slot subject frees the slot (R172). -/
def freeSlotOf (s : State) (n : Notice) : State :=
  match n.subject with
  | .slot k => s.setSlot k .free
  | _ => s

/-- The notices an acknowledgement removes (R172). -/
def State.acked (s : State) (ack : Nat) : List Notice :=
  if s.ackTaken ack then s.notices.filter (ackedBy s.nextNumber ack) else []

/-- The acknowledgement stage (R172). -/
def acknowledge (ack : Nat) (s : State) : State :=
  if s.ackTaken ack then
    (s.acked ack).foldl freeSlotOf { s with notices := s.notices.filter (fun n => !ackedBy s.nextNumber ack n) }
  else s

/-! ## Delivery (R173) -/

/-- The number after a delivery: 65535 is followed by 1 (R173). -/
def numberAfter (n : Nat) : Nat := if n = Config.numberMax then 1 else n + 1

/-- The subject has a DELIVERED notice in the list. -/
def heldBack (ns : List Notice) (subj : Subject) : Bool :=
  ns.any (fun n => decide (n.subject = subj) && !n.isOpen)

/-- The delivery walk (R173) in list order: `held` says which subjects have a DELIVERED notice, `limit` how many may
still be delivered, `next` the next number. Gives the list after the walk, the notices delivered and the next number. -/
def deliver (s : State) (held : Subject → Bool) : Nat → Nat → List Notice → List Notice × List Notice × Nat
  | _, next, [] => ([], [], next)
  | 0, next, n :: ns => (n :: ns, [], next)
  | limit + 1, next, n :: ns =>
    if n.isOpen && !held n.subject then
      let d : Notice := { n with status := .delivered next (s.snapshot n.subject) }
      let r := deliver s held limit (numberAfter next) ns
      (d :: r.1, d :: r.2.1, r.2.2)
    else
      let r := deliver s held (limit + 1) next ns
      (n :: r.1, r.2.1, r.2.2)

/-! ## The reply (R174) -/

/-- A notice entry of the reply (appendix A.6). -/
def Notice.bytes (n : Notice) : List Byte :=
  match n.status with
  | .delivered k sn => be16 k ++ [codeSubject n.subject] ++ be16 n.flags.toNat ++ sn.bytes
  | .opened => []

/-- The DELIVERED notices of a list. -/
def deliveredOf (ns : List Notice) : List Notice := ns.filter (fun n => !n.isOpen)

/-- The later of two deliveries, the first where neither is later. -/
def laterOf (next : Nat) (k : Nat) : Option Nat → Nat
  | some j => if ageOf next j < ageOf next k then j else k
  | none => k

/-- The number of the DELIVERED notice delivered last (R174). -/
def lastDelivered (next : Nat) : List Notice → Option Nat
  | [] => none
  | n :: ns =>
    match n.number? with
    | some k => some (laterOf next k (lastDelivered next ns))
    | none => lastDelivered next ns

/-- FETCH_NOTICES accepted (R171 to R174, R176). -/
def fetch (ack limit : Nat) (s : State) : State × List Byte :=
  let s1 := acknowledge ack s
  let r := deliver s1 (heldBack s1.notices) limit s1.nextNumber s1.notices
  let s2 := { s1 with notices := r.1, nextNumber := r.2.2, alertN := alertFor r.1 }
  (s2, done ([flagByte (!s.ackTaken ack), byte (s.acked ack).length, byte (openCount s2.notices),
    byte (deliveredOf s2.notices).length] ++ be16 ((lastDelivered s2.nextNumber s2.notices).getD 0) ++
    [byte r.2.1.length] ++ r.2.1.flatMap Notice.bytes))

/-- FETCH_NOTICES (R171). -/
def reqFetchNotices (fr : Frame) (s : State) : State × List Byte :=
  match fr.payload with
  | [hi, lo, limit] =>
    if limit.toNat ≤ Config.fetchMax then fetch (num16 hi lo) limit.toNat s else refuse s .badValue
  | _ => refuse s .badLength

/-- FETCH_NOTICES as a command. -/
def execFetchNotices (seq : Byte) (payload : List Byte) (s : State) : Host.Outcome State Fault Refusal :=
  .next (asRequest Config.kindFetchNotices reqFetchNotices seq payload s)

end Sys2Proof.Machine
end

