-- ==== Sys2Proof/Machine/Power.lean ====
section
/-! DEFINITION. The power requests: POWER_ON (R150, R151), POWER_OFF (R152), POWER_OFF with ALL (R153), CLEAR_FAULT
(R158) and RESTART (R159). -/

namespace Sys2Proof.Machine

/-- The reply of a POWER_ON or POWER_OFF with one target (R203): slot, indication and the feed's state after the
request. -/
def powerReply (slot : Option SlotId) (indication : Byte) (f : Feed) (s : State) : List Byte :=
  [codeSlot slot, indication, codeFeedState (s.feedState f)]

/-- The feed is an ON_PRESENCE solo feed without a load (R150 row 6). -/
def State.noLoad (s : State) : Feed → Bool
  | .solo p => decide ((s.outlet p).profile.startMode = .onPresence) && !(s.outlet p).presence
  | .gang _ => false

/-- The feed is STOPPING with destination OFF or LATCHED (R150 row 4). -/
def FeedState.endsOff : FeedState → Bool
  | .stopping _ .off => true
  | .stopping _ .latched => true
  | _ => false

/-- The effect of an accepted POWER_ON besides the binding (R151): from OFF the feed enters QUEUED with origin HOST,
and the entry runs a pass. -/
def powerOnEffect (f : Feed) (s : State) : State :=
  match s.feedState f with
  | .off => pass (raise (subjectOf f) .state (enterQueued f .host s))
  | _ => s

/-- POWER_ON on a feed (R150, R151): the rows of R150 in their order. -/
def powerOnFeed (fr : Frame) (t : Byte) (f : Feed) (s : State) : State × List Byte :=
  if s.eoff then refuse s .emergency
  else if s.feedState f = .latched then refuse s .latched
  else if (s.feedState f).endsOff then refuse s .busy
  else if (s.feedRec f).op.isSome then refuse s .busy
  else if s.noLoad f then refuse s .noLoad
  else if s.feedState f = .on then (s, done (powerReply none 1#8 f s))
  else
    match s.freeSlot with
    | none => refuse s .noSlot
    | some n =>
      let s1 := powerOnEffect f (bindSlot n { seq := fr.seq, kind := .powerOn, target := t } f s)
      (s1, accepted (powerReply (some n) 0#8 f s1))

/-- POWER_ON (R150). -/
def reqPowerOn (fr : Frame) (s : State) : State × List Byte :=
  match fr.payload with
  | [t] =>
    match s.feedTarget t with
    | .error r => refuse s r
    | .ok f => powerOnFeed fr t f s
  | _ => refuse s .badLength

/-- The destination a POWER_OFF leaves a stopping feed (R15). -/
def destAfterOff : Dest → Dest
  | .off => .off
  | .queued => .off
  | .retryWait => .off
  | .latched => .latched

/-- POWER_OFF on a feed (R152). -/
def powerOffFeed (fr : Frame) (t : Byte) (f : Feed) (s : State) : State × List Byte :=
  let op : SlotOp := { seq := fr.seq, kind := .powerOff, target := t }
  match s.feedState f with
  | .off => (s, done (powerReply none 2#8 f s))
  | .latched => (s, done (powerReply none 2#8 f s))
  | .queued =>
    let s1 := pass (completeOp .powerOn .cancelled f (raise (subjectOf f) .state (withdraw f s)))
    (s1, done (powerReply none 0#8 f s1))
  | .retryWait =>
    let s1 := completeOp .powerOn .cancelled f (raise (subjectOf f) .state (leaveRetry f s))
    (s1, done (powerReply none 0#8 f s1))
  | .starting =>
    match s.freeSlot with
    | none => refuse s .noSlot
    | some n =>
      let s1 := raise (subjectOf f) .state (stopFeed f .host .off (completeOp .powerOn .cancelled f s))
      let s2 := bindSlot n op f s1
      (s2, accepted (powerReply (some n) 0#8 f s2))
  | .on =>
    match s.freeSlot with
    | none => refuse s .noSlot
    | some n =>
      let s1 := raise (subjectOf f) .state (stopFeed f .host .off (completeOp .powerOn .cancelled f s))
      let s2 := bindSlot n op f s1
      (s2, accepted (powerReply (some n) 0#8 f s2))
  | .stopping c d =>
    if s.pendingKind f = some .powerOff then refuse s .busy
    else
      match s.freeSlot with
      | none => refuse s .noSlot
      | some n =>
        let s1 := completeOp .powerOn .cancelled f (redirect f c (destAfterOff d) s)
        let s2 := bindSlot n op f s1
        (s2, accepted (powerReply (some n) 0#8 f s2))

/-- What POWER_OFF with ALL does to one feed, and whether it counts (R153). -/
def offOne (t : State × Nat) (f : Feed) : State × Nat :=
  let s := t.1
  match s.feedState f with
  | .off => t
  | .latched => t
  | .queued => (completeOp .powerOn .cancelled f (raise (subjectOf f) .state (withdraw f s)), t.2 + 1)
  | .retryWait => (completeOp .powerOn .cancelled f (raise (subjectOf f) .state (leaveRetry f s)), t.2 + 1)
  | .starting => (completeOp .powerOn .cancelled f (raise (subjectOf f) .state (stopFeed f .host .off s)), t.2 + 1)
  | .on => (completeOp .powerOn .cancelled f (raise (subjectOf f) .state (stopFeed f .host .off s)), t.2 + 1)
  | .stopping c .queued => (completeOp .powerOn .cancelled f (redirect f c .off s), t.2 + 1)
  | .stopping c .retryWait => (completeOp .powerOn .cancelled f (redirect f c .off s), t.2 + 1)
  | .stopping _ .off => t
  | .stopping _ .latched => t

/-- POWER_OFF with target ALL (R153): every feed in order, then the one pass of the withdrawals. -/
def powerOffEvery (s : State) : State × List Byte :=
  let r := s.feeds.foldl offOne (s, 0)
  (passIf (!s.queue.isEmpty) r.1, done [byte r.2])

/-- POWER_OFF (R152, R153). -/
def reqPowerOff (fr : Frame) (s : State) : State × List Byte :=
  match fr.payload with
  | [t] =>
    if readTarget t = .all then powerOffEvery s
    else
      match s.feedTarget t with
      | .error r => refuse s r
      | .ok f => powerOffFeed fr t f s
  | _ => refuse s .badLength

/-- The count a CLEAR_FAULT leaves in a state other than LATCHED (R116, R128). -/
def countAfterClear : FeedState → Nat
  | .retryWait => 1
  | .stopping _ .retryWait => 1
  | _ => 0

/-- CLEAR_FAULT on a feed (R115, R116, R128). -/
def clearFeed (f : Feed) (s : State) : State :=
  match s.feedState f with
  | .latched => raise (subjectOf f) .state (updFeed f (fun r => { r with state := .off, count := 0 }) s)
  | st => updFeed f (fun r => { r with count := countAfterClear st }) s

/-- CLEAR_FAULT (R158). -/
def reqClearFault (fr : Frame) (s : State) : State × List Byte :=
  match fr.payload with
  | [t] =>
    match s.feedTarget t with
    | .error r => refuse s r
    | .ok f =>
      let s1 := clearFeed f s
      (s1, done [codeFeedState (s1.feedState f), byte (s1.feedRec f).count])
  | _ => refuse s .badLength

/-- RESTART (R159): answered DONE, and from here on no further request is taken (R159, R190). -/
def reqRestart (fr : Frame) (s : State) : State × List Byte :=
  match fr.payload with
  | [] => ({ s with link := { s.link with restarting := true } }, done [])
  | _ => refuse s .badLength

/-- POWER_ON as a command. -/
def execPowerOn (seq : Byte) (payload : List Byte) (s : State) : Host.Outcome State Fault Refusal :=
  .next (asRequest Config.kindPowerOn reqPowerOn seq payload s)

/-- POWER_OFF as a command. -/
def execPowerOff (seq : Byte) (payload : List Byte) (s : State) : Host.Outcome State Fault Refusal :=
  .next (asRequest Config.kindPowerOff reqPowerOff seq payload s)

/-- POWER_OFF with target ALL as a command. -/
def execPowerOffAll (seq : Byte) (s : State) : Host.Outcome State Fault Refusal :=
  .next (asRequest Config.kindPowerOff (fun _ => powerOffEvery) seq [0xFF#8] s)

/-- CLEAR_FAULT as a command. -/
def execClearFault (seq : Byte) (payload : List Byte) (s : State) : Host.Outcome State Fault Refusal :=
  .next (asRequest Config.kindClearFault reqClearFault seq payload s)

/-- A RESTART command: its reply is transmitted, and the end of that transmission takes the hard reset (R190). -/
def restartRequest (seq : Byte) (payload : List Byte) (s : State) : State :=
  if s.takesRequests then
    let r := takeRequest reqRestart (mkFrame seq Config.kindRestart payload) s
    if r.1.link.restarting then driveAux { r.1 with link := { r.1.link with tx := some r.2 } } else driveAux r.1
  else s

/-- RESTART as a command. -/
def execRestart (seq : Byte) (payload : List Byte) (s : State) : Host.Outcome State Fault Refusal :=
  .next (restartRequest seq payload s)

end Sys2Proof.Machine
end

