-- ==== Sys2Proof/Machine/Profiles.lean ====
section
/-! DEFINITION. SET_PROFILE (R3, R4, R155, R156) and SET_GANG_PROFILE (R120, R157). -/

namespace Sys2Proof.Machine

/-- The outlet profile fields in the order of their identifiers (appendix A.3). -/
inductive ProfileField where
  | request | priority | startMode | debounce | ramp | blanking | tripMode | width | pairWindow | threshold
  | stability | shedPolicy | overdrawCheck | overdrawMargin | overdrawWindow | discharge
  deriving DecidableEq, Repr

/-- The field an identifier names (appendix A.3). -/
def profileField (id : Byte) : Option ProfileField :=
  match id.toNat with
  | 1 => some .request
  | 2 => some .priority
  | 3 => some .startMode
  | 4 => some .debounce
  | 5 => some .ramp
  | 6 => some .blanking
  | 7 => some .tripMode
  | 8 => some .width
  | 9 => some .pairWindow
  | 10 => some .threshold
  | 11 => some .stability
  | 12 => some .shedPolicy
  | 13 => some .overdrawCheck
  | 14 => some .overdrawMargin
  | 15 => some .overdrawWindow
  | 16 => some .discharge
  | _ => none

/-- `v` lies in `lo` to `hi`, ends included. -/
def inRange (lo hi v : Nat) : Bool := decide (lo ≤ v) && decide (v ≤ hi)

/-- The value lies in the field's range (R3); a code is one of its field's (R201). -/
def fieldInRange (f : ProfileField) (v : Nat) : Bool :=
  match f with
  | .request => inRange 1 1000 v
  | .priority => inRange 0 7 v
  | .startMode => inRange 0 1 v
  | .debounce => inRange 10 500 v
  | .ramp => inRange 1 250 v
  | .blanking => inRange 0 255 v
  | .tripMode => inRange 0 1 v
  | .width => inRange 0 8 v
  | .pairWindow => inRange 1 250 v
  | .threshold => inRange 1 15 v
  | .stability => inRange 1 60 v
  | .shedPolicy => inRange 0 1 v
  | .overdrawCheck => inRange 0 1 v
  | .overdrawMargin => inRange 0 50 v
  | .overdrawWindow => inRange 100 5000 v
  | .discharge => inRange 10 1000 v

/-- RETRY_WAIT or STOPPING: the states in which a latch threshold may not change (R3, R120). -/
def FeedState.fixesThreshold : FeedState → Bool
  | .retryWait => true
  | .stopping _ _ => true
  | _ => false

/-- The field may change in the outlet's state (R3). For an UNMAPPED outlet every field may (R155). -/
def fieldAllowed (f : ProfileField) (st : OutletState) : Bool :=
  match st with
  | .unmapped => true
  | .mapped st =>
    match f with
    | .request => !st.holding
    | .ramp => !st.holding
    | .blanking => !st.holding
    | .discharge => !st.holding
    | .threshold => !st.fixesThreshold
    | _ => true

/-- A start mode, trip mode and shed policy from their codes (appendix A.3). -/
def startModeOfCode (v : Nat) : StartMode := if v = 1 then .onPresence else .manual
def tripModeOfCode (v : Nat) : TripMode := if v = 1 then .pair else .single
def shedPolicyOfCode (v : Nat) : ShedPolicy := if v = 1 then .drop else .requeue

/-- The profile with one field written. -/
def writeField (f : ProfileField) (v : Nat) (r : Profile) : Profile :=
  match f with
  | .request => { r with request := v }
  | .priority => { r with priority := v }
  | .startMode => { r with startMode := startModeOfCode v }
  | .debounce => { r with debounce := v }
  | .ramp => { r with ramp := v }
  | .blanking => { r with blanking := v }
  | .tripMode => { r with tripMode := tripModeOfCode v }
  | .width => { r with width := v }
  | .pairWindow => { r with pairWindow := v }
  | .threshold => { r with threshold := v }
  | .stability => { r with stability := v }
  | .shedPolicy => { r with shedPolicy := shedPolicyOfCode v }
  | .overdrawCheck => { r with overdrawCheck := decide (v = 1) }
  | .overdrawMargin => { r with overdrawMargin := v }
  | .overdrawWindow => { r with overdrawWindow := v }
  | .discharge => { r with discharge := v }

/-- The request of a queued feed's outlet has been written (R4, R48): the entry takes the new amount and is tested for
fit; a claim on it follows the amount, or is dropped when the entry has become unfit, which triggers a pass. The
second component says whether a pass has been triggered. -/
def amountWritten (f : Feed) (s : State) : State × Bool :=
  let a := s.requestAmount f
  let bad := decide (s.budget < a)
  let s1 := updEntry f (fun e => { e with amount := a, unfit := bad }) s
  if s.isClaimant f then
    if bad then (dropClaim s1, true)
    else ({ s1 with claim := some { feed := f, amount := a } }, false)
  else (s1, false)

/-- A base-priority write on the entry of a queued feed (R49), which triggers a pass. -/
def priorityWritten (f : Feed) (v : Nat) (s : State) : State × Bool :=
  match s.feedState f with
  | .queued => (updEntry f (fun e => { e with base := v, eff := v, aging := s.agingFor v }) s, true)
  | _ => (s, false)

/-- One pair of SET_PROFILE is written, with the effect R4 gives for its field. The second component says whether a
pass has been triggered. -/
def writePair (p : OutletId) (f : ProfileField) (v : Nat) (s : State) : State × Bool :=
  let s1 := updOutlet p (fun o => { o with profile := writeField f v o.profile }) s
  match f with
  | .request =>
    match s.feedOf p with
    | some fd => if s.feedState fd = .queued then amountWritten fd s1 else (s1, false)
    | none => (s1, false)
  | .priority =>
    match s.feedOf p with
    | some (.solo q) => priorityWritten (.solo q) v s1
    | _ => (s1, false)
  | .tripMode => (updOutlet p (fun o => { o with pairWindow := none }) s1, false)
  | .overdrawCheck =>
    if v = 1 then (s1, false) else (updOutlet p (fun o => { o with overdrawWindow := none }) s1, false)
  | .overdrawWindow => (updOutlet p (fun o => { o with overdrawWindow := o.overdrawWindow.map (fun _ => v) }) s1, false)
  | _ => (s1, false)

/-- All pairs of a request in list order (R156). DESIGN CHOICE (log entry 29), unsafe: each pair is written and has the
effect of R4 before the next one, a pair that a later one of the same field overrides included. -/
def writePairs (p : OutletId) (l : List (ProfileField × Nat)) (s : State) : State × Bool :=
  l.foldl (fun t x => let r := writePair p x.1 x.2 t.1; (r.1, t.2 || r.2)) (s, false)

/-- The first round (R155): every identifier names a field and every value lies in range; else the identifier of the
first offending pair. -/
def checkPairs : List (Byte × Nat) → Except Byte (List (Byte × ProfileField × Nat))
  | [] => .ok []
  | (id, v) :: rest =>
    match profileField id with
    | none => .error id
    | some f =>
      if fieldInRange f v then
        match checkPairs rest with
        | .ok l => .ok ((id, f, v) :: l)
        | .error e => .error e
      else .error id

/-- The pairs a payload may carry: 1 to `n` (R202). -/
def pairCount (n : Nat) (l : List (Byte × Nat)) : Bool := decide (1 ≤ l.length) && decide (l.length ≤ n)

/-- SET_PROFILE on an outlet (R155, R156). -/
def setProfileOf (p : OutletId) (l : List (Byte × Nat)) (s : State) : State × List Byte :=
  match checkPairs l with
  | .error id => (s, refusedWith .badValue [id])
  | .ok ws =>
    match ws.find? (fun x => !fieldAllowed x.2.1 (s.outletState p)) with
    | some x => (s, refusedWith .state [x.1])
    | none =>
      let r := writePairs p (ws.map (fun x => (x.2.1, x.2.2))) s
      (passIf r.2 r.1, done [byte (p.val + 1), byte l.length])

/-- SET_PROFILE (R155). -/
def reqSetProfile (fr : Frame) (s : State) : State × List Byte :=
  match fr.payload with
  | [] => refuse s .badLength
  | t :: rest =>
    match readPairs rest with
    | none => refuse s .badLength
    | some l =>
      if pairCount 8 l then
        match s.outletTarget t with
        | none => refuse s .badTarget
        | some p => setProfileOf p l s
      else refuse s .badLength

/-! ## Gang profiles -/

/-- The gang profile fields in the order of their identifiers (appendix A.3). -/
inductive GangField where
  | priority | threshold | stability | shedPolicy
  deriving DecidableEq, Repr

def gangField (id : Byte) : Option GangField :=
  match id.toNat with
  | 1 => some .priority
  | 2 => some .threshold
  | 3 => some .stability
  | 4 => some .shedPolicy
  | _ => none

/-- The value lies in the field's range (R120). -/
def gangFieldInRange (f : GangField) (v : Nat) : Bool :=
  match f with
  | .priority => inRange 0 7 v
  | .threshold => inRange 1 15 v
  | .stability => inRange 1 60 v
  | .shedPolicy => inRange 0 1 v

/-- The field may change now (R120, R157): a latch threshold not while the gang is RETRY_WAIT or STOPPING. -/
def State.gangFieldAllowed (s : State) (g : GangId) (f : GangField) : Bool :=
  match f with
  | .threshold => !((s.membersOf g).isSome && (s.gang g).own.state.fixesThreshold)
  | _ => true

/-- The gang profile with one field written. -/
def writeGangField (f : GangField) (v : Nat) (r : GangProfile) : GangProfile :=
  match f with
  | .priority => { r with priority := v }
  | .threshold => { r with threshold := v }
  | .stability => { r with stability := v }
  | .shedPolicy => { r with shedPolicy := shedPolicyOfCode v }

/-- One pair of SET_GANG_PROFILE is written (R120, R157). -/
def writeGangPair (g : GangId) (f : GangField) (v : Nat) (s : State) : State × Bool :=
  let s1 := updGang g (fun r => { r with profile := writeGangField f v r.profile }) s
  match f with
  | .priority => if (s.membersOf g).isSome then priorityWritten (.gang g) v s1 else (s1, false)
  | _ => (s1, false)

/-- All pairs in list order (R157), each with its effect before the next. DESIGN CHOICE (log entry 29), unsafe. -/
def writeGangPairs (g : GangId) (l : List (GangField × Nat)) (s : State) : State × Bool :=
  l.foldl (fun t x => let r := writeGangPair g x.1 x.2 t.1; (r.1, t.2 || r.2)) (s, false)

/-- The first round for a gang's pairs (R157). -/
def checkGangPairs : List (Byte × Nat) → Except Byte (List (Byte × GangField × Nat))
  | [] => .ok []
  | (id, v) :: rest =>
    match gangField id with
    | none => .error id
    | some f =>
      if gangFieldInRange f v then
        match checkGangPairs rest with
        | .ok l => .ok ((id, f, v) :: l)
        | .error e => .error e
      else .error id

/-- SET_GANG_PROFILE on a gang (R157). -/
def setGangProfileOf (g : GangId) (l : List (Byte × Nat)) (s : State) : State × List Byte :=
  match checkGangPairs l with
  | .error id => (s, refusedWith .badValue [id])
  | .ok ws =>
    match ws.find? (fun x => !s.gangFieldAllowed g x.2.1) with
    | some x => (s, refusedWith .state [x.1])
    | none =>
      let r := writeGangPairs g (ws.map (fun x => (x.2.1, x.2.2))) s
      (passIf r.2 r.1, done [byte (g.val + 1), byte l.length])

/-- SET_GANG_PROFILE (R157). -/
def reqSetGangProfile (fr : Frame) (s : State) : State × List Byte :=
  match fr.payload with
  | [] => refuse s .badLength
  | t :: rest =>
    match readPairs rest with
    | none => refuse s .badLength
    | some l =>
      if pairCount 4 l then
        match gangTarget t with
        | none => refuse s .badTarget
        | some g => setGangProfileOf g l s
      else refuse s .badLength

/-- SET_PROFILE as a command. -/
def execSetProfile (seq : Byte) (payload : List Byte) (s : State) : Host.Outcome State Fault Refusal :=
  .next (asRequest Config.kindSetProfile reqSetProfile seq payload s)

/-- SET_GANG_PROFILE as a command. -/
def execSetGangProfile (seq : Byte) (payload : List Byte) (s : State) : Host.Outcome State Fault Refusal :=
  .next (asRequest Config.kindSetGangProfile reqSetGangProfile seq payload s)

end Sys2Proof.Machine
end

