-- ==== Sys2Proof/Machine/Supply.lean ====
section
/-! DEFINITION. Supplies and policy: SET_SUPPLY (R37), SET_POLICY (R63, R64), the SUPGOOD lines (R27, R28) and the
aging step (R50, R51). -/

namespace Sys2Proof.Machine

/-- Write a capacity that a SET_SUPPLY carries; a value different from the old one raises SUPPLY (R37). -/
def writeCapacity (k : SupplyId) (v : Option Nat) (s : State) : State :=
  match v with
  | none => s
  | some c =>
    if (s.supply k).capacity = c then s
    else raise (.supply k) .supply (s.setSupply k { s.supply k with capacity := c })

/-- Write the reserve that a SET_SUPPLY carries (R37). -/
def writeReserve (v : Option Nat) (s : State) : State :=
  match v with
  | none => s
  | some r => { s with reserve := r }

/-- The three fields of a SET_SUPPLY written and the budget recomputed once (R37). -/
def setSupplyTo (c1 c2 r : Option Nat) (s : State) : State × List Byte :=
  let t := recompute (writeReserve r (writeCapacity 1 c2 (writeCapacity 0 c1 s)))
  (t.1, done (be16 t.1.budget ++ [byte t.2]))

/-- SET_SUPPLY (R37, R202). -/
def reqSetSupply (fr : Frame) (s : State) : State × List Byte :=
  match fr.payload with
  | [] => refuse s .badLength
  | m :: rest =>
    if rest.length = 2 * maskCount m then
      let a := takeWord (m.getLsbD 0) rest
      let b := takeWord (m.getLsbD 1) a.2
      let c := takeWord (m.getLsbD 2) b.2
      if m &&& 0xF8#8 = 0#8 ∧ within a.1 Config.capacityMax ∧ within b.1 Config.capacityMax ∧
          within c.1 Config.reserveMax then
        setSupplyTo a.1 b.1 c.1 s
      else refuse s .badValue
    else refuse s .badLength

/-! ## Policy -/

/-- An admission mode from its code. -/
def modeOfCode (v : Nat) : AdmissionMode := if v = 1 then .fitFirst else .strict

/-- The policy with the fields present written (R63). -/
def newPolicy (m p a : Option Nat) (old : Policy) : Policy where
  mode := match m with
    | some v => modeOfCode v
    | none => old.mode
  preemption := match p with
    | some v => decide (v = 1)
    | none => old.preemption
  aging := a.getD old.aging

/-- A change of the aging period (R64): every timer of an entry below 7 restarts with the new period, or every timer
stops. -/
def retime (period : Nat) (e : Entry) : Entry :=
  if 0 < period then (if e.eff < 7 then { e with aging := some period } else e) else { e with aging := none }

/-- The policy is written with its consequences (R64), and a pass ends the event if a value changed (R63). -/
def writePolicy (n : Policy) (s : State) : State :=
  let s1 := { s with
    policy := n
    queue := if n.aging = s.policy.aging then s.queue else s.queue.map (retime n.aging)
    claim := if s.policy.preemption && !n.preemption then none else s.claim }
  passIf (decide (n ≠ s.policy)) s1

/-- The bytes of the policy in force (R63, R203). -/
def Policy.bytes (p : Policy) : List Byte := [codeMode p.mode, flagByte p.preemption, byte p.aging]

/-- SET_POLICY (R63, R202). -/
def reqSetPolicy (fr : Frame) (s : State) : State × List Byte :=
  match fr.payload with
  | [] => refuse s .badLength
  | m :: rest =>
    if rest.length = maskCount m then
      let a := takeByte (m.getLsbD 0) rest
      let b := takeByte (m.getLsbD 1) a.2
      let c := takeByte (m.getLsbD 2) b.2
      if m &&& 0xF8#8 = 0#8 ∧ within a.1 1 ∧ within b.1 1 ∧ within c.1 Config.agingMax then
        let s1 := writePolicy (newPolicy a.1 b.1 c.1 s.policy) s
        (s1, done s1.policy.bytes)
      else refuse s .badValue
    else refuse s .badLength

/-! ## SUPGOOD -/

/-- A supply's good status, line or timer changes. -/
def updSupply (k : SupplyId) (h : SupplyRec → SupplyRec) (s : State) : State := s.setSupply k (h (s.supply k))

/-- A SUPGOOD line goes inactive (R27). -/
def supgoodLost (k : SupplyId) (s : State) : State :=
  if (s.supply k).good then
    (recompute (raise (.supply k) .supply (updSupply k (fun r => { r with good := false, line := false }) s))).1
  else updSupply k (fun r => { r with line := false, restoration := none }) s

/-- A SUPGOOD line goes active (R28): the restoration timer starts. A line that is active already has no edge, and a
GOOD supply's line cannot go active. -/
def supgoodFound (k : SupplyId) (s : State) : State :=
  if (s.supply k).line || (s.supply k).good then s
  else updSupply k (fun r => { r with line := true, restoration := some Config.restorationMs }) s

/-- The restoration timer expires (R28). -/
def supplyRestored (k : SupplyId) (s : State) : State :=
  if (s.supply k).restoration.isSome then
    (recompute (raise (.supply k) .supply
      (updSupply k (fun r => { r with good := true, restoration := none }) s))).1
  else s

/-- During a hard reset only the level of a SUPGOOD line is followed; its end looks at it (R42). -/
def supgoodInReset (k : SupplyId) (l : Bool) (s : State) : State := updSupply k (fun r => { r with line := l }) s

/-! ## Aging -/

/-- The aging step moves the entry past another (R51). -/
def reorders (e : Entry) (q : List Entry) : Bool :=
  q.any (fun x => decide (x.feed ≠ e.feed) &&
    ((decide (x.eff = e.eff) && decide (x.stamp < e.stamp)) ||
     (decide (x.eff = e.eff + 1) && decide (e.stamp < x.stamp))))

/-- The aging step of a feed's entry (R50), with the pass of an aging reorder (R51). -/
def ageEntry (f : Feed) (s : State) : State :=
  match s.entryOf f with
  | none => s
  | some e =>
    if e.aging.isSome then
      passIf (reorders e s.queue)
        (updEntry f (fun x => { x with eff := x.eff + 1, aging := s.agingFor (x.eff + 1) }) s)
    else s

/-- SET_SUPPLY as a command. -/
def execSetSupply (seq : Byte) (payload : List Byte) (s : State) : Host.Outcome State Fault Refusal :=
  .next (asRequest Config.kindSetSupply reqSetSupply seq payload s)

/-- SET_POLICY as a command. -/
def execSetPolicy (seq : Byte) (payload : List Byte) (s : State) : Host.Outcome State Fault Refusal :=
  .next (asRequest Config.kindSetPolicy reqSetPolicy seq payload s)

/-- SUPGOOD_INACTIVE. -/
def execSupgoodInactive (k : SupplyId) (s : State) : Host.Outcome State Fault Refusal :=
  .next (if s.inReset then supgoodInReset k false s else event (supgoodLost k) s)

/-- SUPGOOD_ACTIVE. -/
def execSupgoodActive (k : SupplyId) (s : State) : Host.Outcome State Fault Refusal :=
  .next (if s.inReset then supgoodInReset k true s else event (supgoodFound k) s)

/-- RESTORATION_TIMER_EXPIRY. -/
def execRestorationTimerExpiry (k : SupplyId) (s : State) : Host.Outcome State Fault Refusal :=
  .next (event (supplyRestored k) s)

/-- AGING_STEP. -/
def execAgingStep (f : Feed) (s : State) : Host.Outcome State Fault Refusal := .next (event (ageEntry f) s)

end Sys2Proof.Machine
end

