-- ==== Sys2Proof/Machine/Handler.lean ====
section
/-! DEFINITION. The Request Handler's catalogue (section 9.2, R145, R202): which request a frame's KIND names. -/

namespace Sys2Proof.Machine

/-- Add one kind to a catalogue. -/
def withKind (k : Byte) (eff : Frame → State → State × List Byte)
    (rest : Frame → State → State × List Byte) (f : Frame) (s : State) : State × List Byte :=
  if f.kind = k then eff f s else rest f s

/-- A KIND outside the catalogue is refused with UNKNOWN_KIND, whatever its payload (R145). -/
def reqUnknown (_ : Frame) (s : State) : State × List Byte := refuse s .unknownKind

/-- The request a frame names, taken (R144, R145, R202). -/
def handle : Frame → State → State × List Byte :=
  withKind Config.kindIdent reqIdent <|
  withKind Config.kindStatus reqStatus <|
  withKind Config.kindReadOutlet reqReadOutlet <|
  withKind Config.kindReadGang reqReadGang <|
  withKind Config.kindReadMeter reqReadMeter <|
  withKind Config.kindReadQueue reqReadQueue <|
  withKind Config.kindPowerOn reqPowerOn <|
  withKind Config.kindPowerOff reqPowerOff <|
  withKind Config.kindClearFault reqClearFault <|
  withKind Config.kindSetProfile reqSetProfile <|
  withKind Config.kindSetGangProfile reqSetGangProfile <|
  withKind Config.kindSetSupply reqSetSupply <|
  withKind Config.kindSetPolicy reqSetPolicy <|
  withKind Config.kindSetLine reqSetLine <|
  withKind Config.kindStageMap reqStageMap <|
  withKind Config.kindStageGang reqStageGang <|
  withKind Config.kindApplyMap reqApplyMap <|
  withKind Config.kindDiscardMap reqDiscardMap <|
  withKind Config.kindReadMap reqReadMap <|
  withKind Config.kindFetchNotices reqFetchNotices <|
  withKind Config.kindRestart reqRestart reqUnknown

/-- UNKNOWN_KIND as a command. DESIGN CHOICE (log entry 24), safe: a kind of the catalogue, which no well-formed
command of this row carries, is taken as the command of that kind is. -/
def execUnknownKind (seq kind : Byte) (payload : List Byte) (s : State) : Host.Outcome State Fault Refusal :=
  .next (if kind = Config.kindRestart then restartRequest seq payload s else asRequest kind handle seq payload s)

end Sys2Proof.Machine
end

