-- ==== Sys2Proof/Machine/Link.lean ====
section
/-! DEFINITION. The Host Link (chapter 11): the receiver and its stages, the inter-byte timer, the receive buffer, the
answer queue, the duplicate check and the transmitter. -/

namespace Sys2Proof.Machine

/-- Change the Host Link's record. -/
def updLink (h : LinkRec → LinkRec) (s : State) : State := { s with link := h s.link }

/-! ## The answer queue (R182, R184) -/

/-- The element is a NAK. -/
def Answer.isNak : Answer → Bool
  | .nak _ _ => true
  | .frame _ _ => false

/-- The NAK elements in the answer queue. -/
def LinkRec.nakCount (l : LinkRec) : Nat := (l.answers.filter Answer.isNak).length

/-- A NAK is appended when fewer than two NAK elements are in the queue (R184). -/
def addNak (r : NakReason) (seq : Byte) (l : LinkRec) : LinkRec :=
  if l.nakCount < Config.nakMax then { l with answers := l.answers ++ [.nak r seq] } else l

/-- The lowest free place of the receive buffer (R183). -/
def LinkRec.freePlace (l : LinkRec) : Option (Fin 2) :=
  if (tget l.places 0).isNone then some 0 else if (tget l.places 1).isNone then some 1 else none

/-- A frame ends complete and is examined (R183). -/
def examineFrame (f : Frame) (l : LinkRec) : LinkRec :=
  if f.crc = frameCrc f.seq f.kind f.payload then
    match l.freePlace with
    | some i => { l with places := tset l.places i (some f), answers := l.answers ++ [.frame i false] }
    | none => addNak .overrun f.seq l
  else addNak .crc f.seq l

/-! ## The receiver (R180, R181) -/

/-- The receiver goes on with its frame; the inter-byte timer restarts (R181). -/
def goOn (st : RxStage) (l : LinkRec) : LinkRec := { l with rx := st, rxTimer := some Config.interByteMs }

/-- The receiver is back in HUNTING with the inter-byte timer stopped (R180, R181). -/
def hunt (l : LinkRec) : LinkRec := { l with rx := .hunting, rxTimer := none }

/-- The stage after KIND: PAYLOAD, or CHECK for LEN 0 (R180). -/
def afterKind (len seq kind : Byte) : RxStage :=
  if len.toNat = 0 then .checkHigh len seq kind [] else .payload len seq kind []

/-- The stage after one more payload byte (R180). -/
def afterPayload (len seq kind : Byte) (got : List Byte) : RxStage :=
  if got.length < len.toNat then .payload len seq kind got else .checkHigh len seq kind got

/-- One byte is received (R180). -/
def receive (b : Byte) (l : LinkRec) : LinkRec :=
  match l.rx with
  | .hunting => if b = Config.sync then goOn .headerLen l else l
  | .headerLen => if Config.payloadMax < b.toNat then addNak .length 0#8 (hunt l) else goOn (.headerSeq b) l
  | .headerSeq len => goOn (.headerKind len b) l
  | .headerKind len seq => goOn (afterKind len seq b) l
  | .payload len seq kind got => goOn (afterPayload len seq kind (got ++ [b])) l
  | .checkHigh len seq kind got => goOn (.checkLow len seq kind got b) l
  | .checkLow _ seq kind got high =>
    examineFrame { seq := seq, kind := kind, payload := got, crc := high ++ b } (hunt l)

/-- The SEQ a TIMEOUT NAK carries: the frame's if its SEQ byte was received, 0 otherwise (R181). -/
def RxStage.seqSoFar : RxStage → Byte
  | .hunting => 0#8
  | .headerLen => 0#8
  | .headerSeq _ => 0#8
  | .headerKind _ seq => seq
  | .payload _ seq _ _ => seq
  | .checkHigh _ seq _ _ => seq
  | .checkLow _ seq _ _ _ => seq

/-! ## The transmitter (R185, R189) -/

/-- The frame is a duplicate of the request taken last (R189). -/
def isDuplicate (f : Frame) (c : CacheRec) : Bool :=
  decide (c.seq = f.seq) && decide (c.kind = f.kind) && decide (c.crc = f.crc)

/-- A frame is answered (R185, R189): from the cache when it is a duplicate, else by the Request Handler. -/
def answerFrame (f : Frame) (s : State) : State :=
  match s.link.cache with
  | some c =>
    if isDuplicate f c then updLink (fun l => { l with tx := some c.reply }) s
    else
      let r := takeRequest handle f s
      updLink (fun l => { l with tx := some r.2 }) r.1
  | none =>
    let r := takeRequest handle f s
    updLink (fun l => { l with tx := some r.2 }) r.1

/-- The head of the answer queue is taken (R185): a NAK is transmitted, and a frame becomes ANSWERING and is
answered. -/
def takeHead (a : Answer) (rest : List Answer) (s : State) : State :=
  match a with
  | .nak r seq => updLink (fun l => { l with tx := some (nakBytes r seq) }) s
  | .frame i _ =>
    match tget s.link.places i with
    | some f => answerFrame f (updLink (fun l => { l with answers := .frame i true :: rest }) s)
    | none => s

/-- The transmitter serves the answer queue when it is idle (R185); after a RESTART nothing more is taken (R190). -/
def serve (s : State) : State :=
  if s.link.tx.isSome || s.link.restarting then s
  else
    match s.link.answers with
    | [] => s
    | a :: rest => takeHead a rest s

/-- An answer's last byte has left (R185): its element leaves the queue and a frame's place becomes free. -/
def endAnswer (l : LinkRec) : LinkRec :=
  match l.answers with
  | [] => { l with tx := none }
  | .nak _ _ :: rest => { l with tx := none, answers := rest }
  | .frame i _ :: rest => { l with tx := none, answers := rest, places := tset l.places i none }

/-- A byte event at the receiver (R178, R180, R190): a byte with a framing error and every byte after a RESTART are
discarded. -/
def rxEvent (b : Byte) (stopHigh : Bool) (s : State) : State :=
  if stopHigh && !s.link.restarting then serve (updLink (receive b) s) else s

/-- The inter-byte timer expires (R181). DEDUCED (log entry 25), safe: no NAK is produced after a RESTART
(R190), and the receiver hunts. -/
def interByteEvent (s : State) : State :=
  if s.link.rxTimer.isSome then
    if s.link.restarting then updLink hunt s
    else serve (updLink (fun l => addNak .timeout l.rx.seqSoFar (hunt l)) s)
  else s

/-- RX_BYTE. -/
def execRxByte (b : Byte) (stopHigh : Bool) (s : State) : Host.Outcome State Fault Refusal :=
  .next (event (rxEvent b stopHigh) s)

/-- INTER_BYTE_TIMEOUT. -/
def execInterByteTimeout (s : State) : Host.Outcome State Fault Refusal := .next (event interByteEvent s)

/-- ANSWER_TRANSMITTED (R185): the end of a RESTART's reply is a hard reset (R190), which nothing holds, so that it
ends in the same event, and the BAUD strap is sampled there at its level of the moment (R178, R191, R199). -/
def execAnswerTransmitted (s : State) : Host.Outcome State Fault Refusal :=
  .next
    (if s.inReset || s.link.tx.isNone then s
     else if s.link.restarting then finishReset s.link.baud s
     else driveAux (serve (updLink endAnswer s)))

end Sys2Proof.Machine
end

