-- ==== Sys2Proof/Machine/Outlets.lean ====
section
/-! DEFINITION. The events of outlets and gangs: the Meter's scan (chapter 5), ramps, discharges, stability, backoff
and presence (chapter 1), the overcurrent and short inputs and the overdraw window (chapters 5 and 6), and what chapter
7 changes for gang members. An expiry whose timer does not run has no effect (log entry 11). -/

namespace Sys2Proof.Machine

/-! ## The scan (R86, R87, R89) -/

/-- The power sample of a scan in dW from VSENSE and ISENSE in microvolts (R86). -/
def sampleOf (vsense isense : Nat) : Nat :=
  min Config.sampleMax (Config.sampleMax * vsense * isense / (Config.nominalUv * Config.referenceUv))

/-- The output level of a scan (R86). -/
def levelOf (vsense : Nat) : OutLevel :=
  if Config.nominalUv * 9 ≤ vsense * 10 then .up else if Config.nominalUv ≤ vsense * 10 then .mid else .down

/-- The ring with a sample appended, the oldest removed when it was full (R87). -/
def pushSample (ring : List Nat) (x : Nat) : List Nat :=
  if ring.length < Config.ringSize then ring ++ [x] else ring.drop 1 ++ [x]

/-- The meter part of a scan (R86 to R89). -/
def measured (vsense isense : Nat) (o : OutletRec) : OutletRec :=
  let x := sampleOf vsense isense
  { o with ring := pushSample o.ring x, peak := max o.peak x, latest := some (x, levelOf vsense) }

/-- The overdraw limit (R94). -/
def OutletRec.overdrawLimit (o : OutletRec) : Nat := o.alloc * (100 + o.profile.overdrawMargin) / 100

/-- The overdraw comparison (R94) on a record. -/
def compareDraw (o : OutletRec) : OutletRec :=
  match o.average with
  | none => o
  | some a =>
    if o.profile.overdrawCheck then
      if o.overdrawLimit < a then
        match o.overdrawWindow with
        | none => { o with overdrawWindow := some o.profile.overdrawWindow }
        | some _ => o
      else { o with overdrawWindow := none }
    else o

/-- A scan that finds the output DOWN ends the discharge of an outlet in STOPPING (R16, R93, R125); a member that has
become discharged is not reported to again. -/
def reportDown (p : OutletId) (s : State) : State :=
  match s.feedOf p with
  | none => s
  | some (.solo q) =>
    match s.feedState (.solo q) with
    | .stopping _ d => soloDischarged q d s
    | _ => s
  | some (.gang g) =>
    match s.feedState (.gang g) with
    | .stopping _ _ => if (s.outlet p).alloc = 0 then s else memberDischarged g p s
    | _ => s

/-- The outlet is in ON. -/
def State.outletOn (s : State) (p : OutletId) : Bool := decide (s.outletState p = .mapped .on)

/-- One scan of an outlet (R86). -/
def scan (p : OutletId) (vsense isense : Nat) (s : State) : State :=
  let s1 := updOutlet p (measured vsense isense) s
  if s1.outletOn p then updOutlet p compareDraw s1
  else if levelOf vsense = .down then reportDown p s1
  else s1

/-- METER_SCAN. -/
def execMeterScan (p : OutletId) (vsense isense : Nat) (s : State) : Host.Outcome State Fault Refusal :=
  .next (event (scan p vsense isense) s)

/-! ## Discharge timeouts -/

/-- The discharge timer of a solo feed expires (R17). -/
def dischargeExpired (p : OutletId) (s : State) : State :=
  if s.feedOf p = some (.solo p) ∧ (s.outlet p).discharge.isSome then
    match s.feedState (.solo p) with
    | .stopping _ _ => soloTimeout p s
    | _ => s
  else s

/-- DISCHARGE_TIMEOUT. -/
def execDischargeTimeout (p : OutletId) (s : State) : Host.Outcome State Fault Refusal :=
  .next (event (dischargeExpired p) s)

/-- The discharge timer of a gang member expires (R125). -/
def memberDischargeExpired (p : OutletId) (s : State) : State :=
  if (s.outlet p).discharge.isSome then
    match s.feedOf p with
    | some (.gang g) =>
      match s.feedState (.gang g) with
      | .stopping c _ => memberTimeout g c p s
      | _ => s
    | _ => s
  else s

/-- MEMBER_DISCHARGE_TIMEOUT. -/
def execMemberDischargeTimeout (p : OutletId) (s : State) : Host.Outcome State Fault Refusal :=
  .next (event (memberDischargeExpired p) s)

/-! ## Ramps (R12, R92, R123) -/

/-- The output-good condition (R92): a scan since the grant, and the latest level UP. -/
def OutletRec.outputGood (o : OutletRec) : Bool :=
  !o.ring.isEmpty &&
    (match o.latest with
     | some (_, l) => decide (l = .up)
     | none => false)

/-- A feed enters ON and its stability timer starts (R12, R113, R123). -/
def enterOn (f : Feed) (s : State) : State :=
  updFeed f (fun r => { r with state := .on, stability := some (s.stabilityOf f) }) s

/-- The ramp timer of a solo feed expires (R12, R105). -/
def rampExpired (p : OutletId) (s : State) : State :=
  if s.feedOf p = some (.solo p) ∧ (s.outlet p).ramp.isSome ∧ s.feedState (.solo p) = .starting then
    let s1 := updOutlet p (fun o => { o with ramp := none }) s
    if (s1.outlet p).outputGood then
      completeOp .powerOn .powered (.solo p) (raise (.outlet p) .state (enterOn (.solo p) s1))
    else takeFault p .startFail s1
  else s

/-- RAMP_EXPIRY. -/
def execRampExpiry (p : OutletId) (s : State) : Host.Outcome State Fault Refusal := .next (event (rampExpired p) s)

/-- Every member's ramp has ended (R123). -/
def State.rampsEnded (s : State) (g : GangId) : Bool :=
  (s.outletsOf (.gang g)).all (fun q => (s.outlet q).ramp.isNone)

/-- The ramp timer of a member of a STARTING gang expires (R123). -/
def memberRampIn (g : GangId) (p : OutletId) (s : State) : State :=
  let s1 := updOutlet p (fun o => { o with ramp := none }) s
  if (s1.outlet p).outputGood then
    if s1.rampsEnded g then
      raise (.gang g) .state (completeOp .powerOn .powered (.gang g) (enterOn (.gang g) s1))
    else s1
  else takeFault p .startFail s1

/-- The ramp timer of a member expires. -/
def memberRampExpired (p : OutletId) (s : State) : State :=
  match s.feedOf p with
  | some (.gang g) =>
    if (s.outlet p).ramp.isSome ∧ s.feedState (.gang g) = .starting then memberRampIn g p s else s
  | _ => s

/-- MEMBER_RAMP_EXPIRY. -/
def execMemberRampExpiry (p : OutletId) (s : State) : Host.Outcome State Fault Refusal :=
  .next (event (memberRampExpired p) s)

/-! ## Blanking, stability and backoff -/

/-- The blanking timer expires (R99): a condition that is present is taken as beginning now. -/
def blankingExpired (p : OutletId) (s : State) : State :=
  if (s.outlet p).blanking.isSome ∧ s.outletPowered p then
    let s1 := updOutlet p (fun o => { o with blanking := none }) s
    if (s1.outlet p).overcurrent then examine p s1 else s1
  else s

/-- BLANKING_EXPIRY. -/
def execBlankingExpiry (p : OutletId) (s : State) : Host.Outcome State Fault Refusal :=
  .next (event (blankingExpired p) s)

/-- The stability timer of a feed expires (R113, R123): the consecutive count becomes 0. -/
def stabilityExpired (f : Feed) (s : State) : State :=
  if (s.feedRec f).stability.isSome ∧ s.feedState f = .on then
    updFeed f (fun r => { r with count := 0, stability := none }) s
  else s

/-- STABILITY_EXPIRY. -/
def execStabilityExpiry (p : OutletId) (s : State) : Host.Outcome State Fault Refusal :=
  .next (event (fun t => if t.feedOf p = some (.solo p) then stabilityExpired (.solo p) t else t) s)

/-- GANG_STABILITY_EXPIRY. -/
def execGangStabilityExpiry (g : GangId) (s : State) : Host.Outcome State Fault Refusal :=
  .next (event (fun t => if (t.membersOf g).isSome then stabilityExpired (.gang g) t else t) s)

/-- The backoff timer of a feed expires (R112, R127): an entry of origin RETRY, and its pass. -/
def backoffExpired (f : Feed) (s : State) : State :=
  if (s.feedRec f).backoff.isSome ∧ s.feedState f = .retryWait then
    pass (raise (subjectOf f) .state (enterQueued f .retry s))
  else s

/-- BACKOFF_EXPIRY. -/
def execBackoffExpiry (p : OutletId) (s : State) : Host.Outcome State Fault Refusal :=
  .next (event (fun t => if t.feedOf p = some (.solo p) then backoffExpired (.solo p) t else t) s)

/-- GANG_BACKOFF_EXPIRY. -/
def execGangBackoffExpiry (g : GangId) (s : State) : Host.Outcome State Fault Refusal :=
  .next (event (fun t => if (t.membersOf g).isSome then backoffExpired (.gang g) t else t) s)

/-! ## Presence (R18 to R21) -/

/-- PRES changes (R18): the debounce timer starts, or restarts, with the debounce in force. -/
def presChanged (p : OutletId) (active : Bool) (s : State) : State :=
  if (s.outlet p).pres = active then s
  else updOutlet p (fun o => { o with pres := active, debounce := some o.profile.debounce }) s

/-- During a hard reset only the level is followed; the end of the reset looks at it (R25). -/
def presInReset (p : OutletId) (active : Bool) (s : State) : State := updOutlet p (fun o => { o with pres := active }) s

/-- PRES_LEVEL_CHANGE. -/
def execPresLevelChange (p : OutletId) (active : Bool) (s : State) : Host.Outcome State Fault Refusal :=
  .next (if s.inReset then presInReset p active s else event (presChanged p active) s)

/-- A presence arrival at a solo feed with start mode ON_PRESENCE (R20). -/
def arrived (f : Feed) (s : State) : State :=
  if s.feedState f = .off ∧ s.eoff = false then pass (raise (subjectOf f) .state (enterQueued f .presence s)) else s

/-- A presence loss at a solo feed with start mode ON_PRESENCE (R21). -/
def departed (f : Feed) (s : State) : State :=
  match s.feedState f with
  | .off => s
  | .latched => s
  | .queued => pass (completeOp .powerOn .removed f (raise (subjectOf f) .state (withdraw f s)))
  | .starting => completeOp .powerOn .removed f (raise (subjectOf f) .state (stopFeed f .removal .off s))
  | .on => completeOp .powerOn .removed f (raise (subjectOf f) .state (stopFeed f .removal .off s))
  | .stopping c .queued => completeOp .powerOn .removed f (redirect f c .off s)
  | .stopping c .retryWait => completeOp .powerOn .removed f (redirect f c .off s)
  | .stopping _ .off => s
  | .stopping _ .latched => s
  | .retryWait => completeOp .powerOn .removed f (raise (subjectOf f) .state (leaveRetry f s))

/-- What a change of presence does to the feed (R20, R21): nothing but for a solo feed with start mode ON_PRESENCE. -/
def presenceActs (p : OutletId) (present : Bool) (s : State) : State :=
  if s.feedOf p = some (.solo p) ∧ (s.outlet p).profile.startMode = .onPresence then
    if present then arrived (.solo p) s else departed (.solo p) s
  else s

/-- The debounce timer expires (R18, R19). -/
def debounced (p : OutletId) (s : State) : State :=
  if (s.outlet p).debounce.isSome then
    let s1 := updOutlet p (fun o => { o with debounce := none }) s
    if (s.outlet p).pres = (s.outlet p).presence then s1
    else
      presenceActs p (s.outlet p).pres
        (raise (.outlet p) .presence (updOutlet p (fun o => { o with presence := o.pres }) s1))
  else s

/-- PRESENCE_DEBOUNCE_EXPIRY. -/
def execPresenceDebounceExpiry (p : OutletId) (s : State) : Host.Outcome State Fault Refusal :=
  .next (event (debounced p) s)

/-! ## The overcurrent condition and SHORT_N -/

/-- ISENSE reaches the overcurrent reference (R98). -/
def overcurrentBegins (p : OutletId) (s : State) : State :=
  if (s.outlet p).overcurrent then s
  else
    let s1 := updOutlet p (fun o => { o with overcurrent := true }) s
    if s1.examined p then examine p s1 else s1

/-- ISENSE falls below the reference (R98, R100): a width measurement that runs is discarded. -/
def overcurrentEnds (p : OutletId) (s : State) : State :=
  updOutlet p (fun o => { o with overcurrent := false, width := none }) s

/-- During a hard reset only the level of the condition is followed. -/
def overcurrentInReset (p : OutletId) (present : Bool) (s : State) : State :=
  updOutlet p (fun o => { o with overcurrent := present }) s

/-- OVERCURRENT_BEGIN. -/
def execOvercurrentBegin (p : OutletId) (s : State) : Host.Outcome State Fault Refusal :=
  .next (if s.inReset then overcurrentInReset p true s else event (overcurrentBegins p) s)

/-- OVERCURRENT_END. -/
def execOvercurrentEnd (p : OutletId) (s : State) : Host.Outcome State Fault Refusal :=
  .next (if s.inReset then overcurrentInReset p false s else event (overcurrentEnds p) s)

/-- The condition has lasted its width (R100). -/
def widthReached (p : OutletId) (s : State) : State :=
  if (s.outlet p).width.isSome ∧ s.outletPowered p then qualify p s else s

/-- QUALIFIED_PULSE. -/
def execQualifiedPulse (p : OutletId) (s : State) : Host.Outcome State Fault Refusal := .next (event (widthReached p) s)

/-- The pair window expires: it closes, and the first pulse is discarded (R102). -/
def pairWindowExpired (p : OutletId) (s : State) : State := updOutlet p (fun o => { o with pairWindow := none }) s

/-- PAIR_WINDOW_EXPIRY. -/
def execPairWindowExpiry (p : OutletId) (s : State) : Host.Outcome State Fault Refusal :=
  .next (event (pairWindowExpired p) s)

/-- SHORT_N becomes active, which trips a powered outlet at once, or is released (R104). -/
def shortChanged (p : OutletId) (active : Bool) (s : State) : State :=
  if (s.outlet p).shortN = active then s
  else
    let s1 := updOutlet p (fun o => { o with shortN := active }) s
    if active then takeFault p .short s1 else s1

/-- During a hard reset only the level of SHORT_N is followed (R118). -/
def shortInReset (p : OutletId) (active : Bool) (s : State) : State :=
  updOutlet p (fun o => { o with shortN := active }) s

/-- SHORT_N_ACTIVE. -/
def execShortNActive (p : OutletId) (active : Bool) (s : State) : Host.Outcome State Fault Refusal :=
  .next (if s.inReset then shortInReset p active s else event (shortChanged p active) s)

/-- The overdraw window expires (R95): it is stopped, and the outlet takes an OVERDRAW fault. -/
def overdrawExpired (p : OutletId) (s : State) : State :=
  if (s.outlet p).overdrawWindow.isSome ∧ s.outletOn p then
    takeFault p .overdraw (updOutlet p (fun o => { o with overdrawWindow := none }) s)
  else s

/-- OVERDRAW_WINDOW_EXPIRY. -/
def execOverdrawWindowExpiry (p : OutletId) (s : State) : Host.Outcome State Fault Refusal :=
  .next (event (overdrawExpired p) s)

end Sys2Proof.Machine
end

