-- ==== Sys2Proof/Machine/ResetEvents.lean ====
section
/-! DEFINITION. The pins of a hard reset (R199): power-on, RESET_N, and the end of the reset. -/

namespace Sys2Proof.Machine

/-- VDD is applied (R199): a hard reset until VDD has been in range for 2 ms. -/
def execVddPowerOn (s : State) : Host.Outcome State Fault Refusal :=
  .next (enterReset { s with resetBy := { s.resetBy with vdd := true } })

/-- RESET_N is held low (R199): a hard reset until it goes high. -/
def execResetNLow (s : State) : Host.Outcome State Fault Refusal :=
  .next (enterReset { s with resetBy := { s.resetBy with pin := true } })

/-- The cause holds the reset. -/
def ResetRec.holds (r : ResetRec) : ResetCause → Bool
  | .vdd => r.vdd
  | .pin => r.pin

/-- The causes without one that has ended. -/
def ResetRec.without (r : ResetRec) : ResetCause → ResetRec
  | .vdd => { r with vdd := false }
  | .pin => { r with pin := false }

/-- A cause of the reset ends (R199): with the last one the reset ends and BAUD is sampled. A cause that does not hold
the reset cannot end. -/
def resetEnds (c : ResetCause) (baud : Level) (s : State) : State :=
  if s.resetBy.holds c then
    let s1 := { s with resetBy := s.resetBy.without c }
    if s1.inReset then s1 else finishReset baud s1
  else s

/-- RESET_END. -/
def execResetEnd (c : ResetCause) (baud : Level) (s : State) : Host.Outcome State Fault Refusal :=
  .next (resetEnds c baud s)

end Sys2Proof.Machine
end

