-- ==== Sys2Proof/Machine/Dispatch.lean ====
section
/-! DEFINITION. The meaning of every command: one arm for each constructor of Instr. -/

namespace Sys2Proof.Machine

def exec (i : Instr) (s : State) : Host.Outcome State Fault Refusal :=
  match i with
  | .ident seq d => Sys2Proof.Machine.execIdent seq d s
  | .status seq d => Sys2Proof.Machine.execStatus seq d s
  | .readOutlet seq d => Sys2Proof.Machine.execReadOutlet seq d s
  | .readGang seq d => Sys2Proof.Machine.execReadGang seq d s
  | .readMeter seq d => Sys2Proof.Machine.execReadMeter seq d s
  | .readQueue seq d => Sys2Proof.Machine.execReadQueue seq d s
  | .powerOn seq d => Sys2Proof.Machine.execPowerOn seq d s
  | .powerOff seq d => Sys2Proof.Machine.execPowerOff seq d s
  | .powerOffAll seq => Sys2Proof.Machine.execPowerOffAll seq s
  | .clearFault seq d => Sys2Proof.Machine.execClearFault seq d s
  | .setProfile seq d => Sys2Proof.Machine.execSetProfile seq d s
  | .setGangProfile seq d => Sys2Proof.Machine.execSetGangProfile seq d s
  | .setSupply seq d => Sys2Proof.Machine.execSetSupply seq d s
  | .setPolicy seq d => Sys2Proof.Machine.execSetPolicy seq d s
  | .setLine seq d => Sys2Proof.Machine.execSetLine seq d s
  | .stageMap seq d => Sys2Proof.Machine.execStageMap seq d s
  | .stageGang seq d => Sys2Proof.Machine.execStageGang seq d s
  | .applyMap seq d => Sys2Proof.Machine.execApplyMap seq d s
  | .discardMap seq d => Sys2Proof.Machine.execDiscardMap seq d s
  | .readMap seq d => Sys2Proof.Machine.execReadMap seq d s
  | .fetchNotices seq d => Sys2Proof.Machine.execFetchNotices seq d s
  | .restart seq d => Sys2Proof.Machine.execRestart seq d s
  | .unknownKind seq k d => Sys2Proof.Machine.execUnknownKind seq k d s
  | .rxByte b h => Sys2Proof.Machine.execRxByte b h s
  | .interByteTimeout => Sys2Proof.Machine.execInterByteTimeout s
  | .answerTransmitted => Sys2Proof.Machine.execAnswerTransmitted s
  | .vddPowerOn => Sys2Proof.Machine.execVddPowerOn s
  | .resetNLow => Sys2Proof.Machine.execResetNLow s
  | .resetEnd c v => Sys2Proof.Machine.execResetEnd c v s
  | .supgoodInactive k => Sys2Proof.Machine.execSupgoodInactive k s
  | .supgoodActive k => Sys2Proof.Machine.execSupgoodActive k s
  | .restorationTimerExpiry k => Sys2Proof.Machine.execRestorationTimerExpiry k s
  | .agingStep f => Sys2Proof.Machine.execAgingStep f s
  | .meterScan p v w => Sys2Proof.Machine.execMeterScan p v w s
  | .dischargeTimeout p => Sys2Proof.Machine.execDischargeTimeout p s
  | .memberDischargeTimeout p => Sys2Proof.Machine.execMemberDischargeTimeout p s
  | .rampExpiry p => Sys2Proof.Machine.execRampExpiry p s
  | .memberRampExpiry p => Sys2Proof.Machine.execMemberRampExpiry p s
  | .blankingExpiry p => Sys2Proof.Machine.execBlankingExpiry p s
  | .stabilityExpiry p => Sys2Proof.Machine.execStabilityExpiry p s
  | .gangStabilityExpiry g => Sys2Proof.Machine.execGangStabilityExpiry g s
  | .backoffExpiry p => Sys2Proof.Machine.execBackoffExpiry p s
  | .gangBackoffExpiry g => Sys2Proof.Machine.execGangBackoffExpiry g s
  | .presLevelChange p a => Sys2Proof.Machine.execPresLevelChange p a s
  | .presenceDebounceExpiry p => Sys2Proof.Machine.execPresenceDebounceExpiry p s
  | .overcurrentBegin p => Sys2Proof.Machine.execOvercurrentBegin p s
  | .overcurrentEnd p => Sys2Proof.Machine.execOvercurrentEnd p s
  | .qualifiedPulse p => Sys2Proof.Machine.execQualifiedPulse p s
  | .pairWindowExpiry p => Sys2Proof.Machine.execPairWindowExpiry p s
  | .shortNActive p a => Sys2Proof.Machine.execShortNActive p a s
  | .overdrawWindowExpiry p => Sys2Proof.Machine.execOverdrawWindowExpiry p s
  | .lineLevelChange l v => Sys2Proof.Machine.execLineLevelChange l v s
  | .lineFilterExpiry l => Sys2Proof.Machine.execLineFilterExpiry l s

end Sys2Proof.Machine
end

