-- ==== Sys2Proof/Safety.lean ====
section
/-! DEFINITION. What a sound state of the part is: the invariants that claims use, rule by rule, and the end of a
request event in one function. -/

namespace Sys2Proof.Safety

open Sys2Proof.Machine

/-! ## Maps (R132, R133, R139) -/

/-- A gang list as R133 stores it: 1 to 4 outlets in ascending physical index. -/
def listOk (ms : List OutletId) : Prop := ms.Pairwise (· < ·) ∧ 1 ≤ ms.length ∧ ms.length ≤ 4

/-- Every number of the map lies in 1 to 12, and every gang list is stored as R133 says. -/
def mapStored (m : MapRec) : Prop :=
  (∀ p, ∀ n ∈ tget m.numbers p, 1 ≤ n ∧ n ≤ 12) ∧ (∀ g, ∀ ms ∈ tget m.gangs g, listOk ms)

/-- The enabled outlets carry the numbers 1 to k, each once, k being how many they are (R132). -/
def numbersOk (m : MapRec) : Prop :=
  (∀ p, ∀ n ∈ tget m.numbers p, 1 ≤ n ∧ n ≤ m.enabled.length) ∧
  (∀ p q, (tget m.numbers p).isSome → tget m.numbers p = tget m.numbers q → p = q)

/-- Every gang of the map has 2 to 4 members, all enabled, and no outlet is a member of two gangs (R119, R132). -/
def gangsOk (m : MapRec) : Prop :=
  (∀ g, ∀ ms ∈ tget m.gangs g, listOk ms ∧ 2 ≤ ms.length ∧ ∀ p ∈ ms, (tget m.numbers p).isSome) ∧
  (∀ p g h, m.hasMember p g = true → m.hasMember p h = true → g = h)

/-- The active map is one that an apply accepts, and the staged map holds only what editing stores (R132 to R139). -/
def mapsOk (s : State) : Prop := numbersOk s.activeMap ∧ gangsOk s.activeMap ∧ mapStored s.stagedMap

/-! ## Power and the budget law (R5, R6, R7, R9, R31, R32) -/

/-- The feed exists under the active map (R1). -/
def isFeed (s : State) : Feed → Prop
  | .solo p => s.feedOf p = some (.solo p)
  | .gang g => (s.membersOf g).isSome

/-- The outlet's state holds allocation (R5). -/
def outletHolding (s : State) (p : OutletId) : Bool :=
  match s.outletState p with
  | .unmapped => false
  | .mapped st => st.holding

/-- An outlet's switch and allocation go with its state (R5, R6, R7): SW_EN is active exactly in STARTING and ON, where
the allocation is the request; outside STARTING, ON and STOPPING it is 0; in STOPPING it is the request, or 0 for a gang
member whose own discharge has ended. No ramp, blanking, pair window, overdraw window or width measurement runs outside
STARTING and ON (R8, R100). -/
def outletOk (s : State) (p : OutletId) : Prop :=
  (s.outlet p).swEn = s.outletPowered p ∧
  (s.outletPowered p = true → (s.outlet p).alloc = (s.outlet p).profile.request) ∧
  (outletHolding s p = false → (s.outlet p).alloc = 0) ∧
  (outletHolding s p = true → (s.outlet p).alloc ≠ 0 ∨ s.feedOf p = some (.solo p) →
    (s.outlet p).alloc = (s.outlet p).profile.request) ∧
  (s.outletPowered p = false →
    (s.outlet p).ramp = none ∧ (s.outlet p).blanking = none ∧ (s.outlet p).pairWindow = none ∧
    (s.outlet p).overdrawWindow = none ∧ (s.outlet p).width = none)

/-- The queue holds one entry for each feed in QUEUED and no other (R5, R9, R45); each carries the feed's request amount
and is unfit exactly when that exceeds the budget (R52). -/
def queueOk (s : State) : Prop :=
  (∀ e ∈ s.queue, isFeed s e.feed ∧ s.feedState e.feed = .queued ∧ e.amount = s.requestAmount e.feed ∧
    e.unfit = decide (s.budget < e.amount)) ∧
  (s.queue.map Entry.feed).Nodup ∧
  (∀ f, isFeed s f → s.feedState f = .queued → f ∈ s.queue.map Entry.feed)

/-- A claim belongs to a queued feed that is not unfit and follows its entry's request amount (R76, R78). -/
def claimOk (s : State) : Prop :=
  ∀ c ∈ s.claim, ∃ e ∈ s.queue, e.feed = c.feed ∧ e.amount = c.amount ∧ e.unfit = false

/-- The sum of the allocations of the outlets that satisfy a test. -/
def allocSum (s : State) (sel : OutletId → Bool) : Nat :=
  (allOutlets.map (fun p => if sel p then (s.outlet p).alloc else 0)).sum

/-- The totals are the sums R31 names, and the active total is at most the budget (R32). -/
def totalsOk (s : State) : Prop :=
  s.held = allocSum s (outletHolding s) ∧ s.active = allocSum s s.outletPowered ∧ s.active ≤ s.budget

/-- The power side of the part is sound. -/
def powerOk (s : State) : Prop :=
  mapsOk s ∧ (∀ p, outletOk s p) ∧ queueOk s ∧ claimOk s ∧ totalsOk s

/-! ## Emergency off (R193, R194) -/

/-- A state a feed may have while EOFF is asserted: OFF, LATCHED, or STOPPING on its way to one of them. -/
def offBound : FeedState → Bool
  | .off => true
  | .latched => true
  | .stopping _ .off => true
  | .stopping _ .latched => true
  | _ => false

/-- While EOFF is asserted no feed is QUEUED, STARTING, ON or RETRY_WAIT, and no stop leads back to power (R193,
R194). -/
def emergencyOk (s : State) : Prop := s.eoff = true → ∀ f, isFeed s f → offBound (s.feedState f) = true

/-! ## The order of the queue (R44, R46) -/

/-- The queue is in its order, with distinct entry stamps, none above the counter. -/
def orderOk (s : State) : Prop :=
  s.queue.Pairwise (fun a b => entryBefore a b = true) ∧ (s.queue.map Entry.stamp).Nodup ∧
  ∀ e ∈ s.queue, e.stamp ≤ s.entryStamps

/-! ## The budget (R30) -/

/-- The budget is the capacities of the GOOD supplies less the reserve, or 0 (R30). -/
def budgetOk (s : State) : Prop :=
  s.budget = (if (s.supply 0).good then (s.supply 0).capacity else 0) +
    (if (s.supply 1).good then (s.supply 1).capacity else 0) - s.reserve

/-! ## Lines the part drives (R176, R177, R197) -/

/-- ALERT_N is low exactly while a notice is OPEN, and released while a hard reset lasts (R176, R177). -/
def alertOk (s : State) : Prop :=
  s.alertN = if s.inReset = true then .high else if s.notices.any Notice.isOpen = true then .low else .high

/-- Every auxiliary line drives what its function gives (R197). -/
def auxOk (s : State) : Prop := ∀ k, (s.auxLine k).out = s.lineOut (s.auxLine k).fn

/-! ## Profiles (R3, R120) -/

/-- Every field of an outlet profile lies in its range (R3). -/
def profileOk (r : Profile) : Prop :=
  (1 ≤ r.request ∧ r.request ≤ 1000) ∧ r.priority ≤ 7 ∧ (10 ≤ r.debounce ∧ r.debounce ≤ 500) ∧
  (1 ≤ r.ramp ∧ r.ramp ≤ 250) ∧ r.blanking ≤ 255 ∧ r.width ≤ 8 ∧ (1 ≤ r.pairWindow ∧ r.pairWindow ≤ 250) ∧
  (1 ≤ r.threshold ∧ r.threshold ≤ 15) ∧ (1 ≤ r.stability ∧ r.stability ≤ 60) ∧ r.overdrawMargin ≤ 50 ∧
  (100 ≤ r.overdrawWindow ∧ r.overdrawWindow ≤ 5000) ∧ (10 ≤ r.discharge ∧ r.discharge ≤ 1000)

/-- Every field of a gang profile lies in its range (R120). -/
def gangProfileOk (r : GangProfile) : Prop :=
  r.priority ≤ 7 ∧ (1 ≤ r.threshold ∧ r.threshold ≤ 15) ∧ (1 ≤ r.stability ∧ r.stability ≤ 60)

/-- All profiles lie in their ranges. -/
def profilesOk (s : State) : Prop :=
  (∀ p, profileOk (s.outlet p).profile) ∧ ∀ g, gangProfileOk (s.gang g).profile

/-! ## The Meter (R86, R87, R89) -/

/-- A ring holds at most 8 samples of at most 2000 dW, the peak is at most 2000 dW and never below the latest sample
(R86, R87, R89). -/
def meterOk (o : OutletRec) : Prop :=
  o.ring.length ≤ 8 ∧ (∀ x ∈ o.ring, x ≤ 2000) ∧ o.peak ≤ 2000 ∧ ∀ x ∈ o.latest, x.1 ≤ o.peak

def metersOk (s : State) : Prop := ∀ p, meterOk (s.outlet p)

/-! ## The Host Link (R180, R181, R183, R184, R185) -/

/-- The receiver's stage holds what R180 collects in it. -/
def stageOk : RxStage → Prop
  | .hunting => True
  | .headerLen => True
  | .headerSeq len => len.toNat ≤ 48
  | .headerKind len _ => len.toNat ≤ 48
  | .payload len _ _ got => len.toNat ≤ 48 ∧ got.length < len.toNat
  | .checkHigh len _ _ got => len.toNat ≤ 48 ∧ got.length = len.toNat
  | .checkLow len _ _ got _ => len.toNat ≤ 48 ∧ got.length = len.toNat

/-- The places the frame elements of an answer queue refer to. -/
def placesOf : List Answer → List (Fin 2)
  | [] => []
  | .frame i _ :: l => i :: placesOf l
  | .nak _ _ :: l => placesOf l

/-- The inter-byte timer runs exactly outside HUNTING (R181); a place is occupied exactly while a frame element refers
to it, and no two refer to one (R183, R184); at most two NAKs wait (R184); the transmitter is idle exactly when the
answer queue is empty, a RESTART apart (R185); buffered frames are valid (R183). -/
def linkOk (l : LinkRec) : Prop :=
  stageOk l.rx ∧ (l.rxTimer = if l.rx = .hunting then none else some 5) ∧
  (placesOf l.answers).Nodup ∧ (∀ i, (tget l.places i).isSome = true ↔ i ∈ placesOf l.answers) ∧
  l.nakCount ≤ 2 ∧
  (∀ i, ∀ f ∈ tget l.places i, f.crc = frameCrc f.seq f.kind f.payload ∧ f.payload.length ≤ 48) ∧
  (l.restarting = false → (l.tx.isNone = true ↔ l.answers = []))

/-! ## Slots and notices (R147, R148, R149, R169) -/

/-- A feed with a pending POWER_ON is in one of these states (R148). -/
def onBound : FeedState → Bool
  | .queued => true
  | .starting => true
  | .retryWait => true
  | .stopping _ .queued => true
  | .stopping _ .retryWait => true
  | _ => false

/-- A feed with a pending POWER_OFF is in one of these states (R148). -/
def offStopping : FeedState → Bool
  | .stopping _ .off => true
  | .stopping _ .latched => true
  | _ => false

/-- PENDING slots and pending operations go together, and the feed's state fits the operation (R148). -/
def slotsOk (s : State) : Prop :=
  (∀ n op f, s.slot n = .pending op f →
    isFeed s f ∧ (s.feedRec f).op = some n ∧ (op.kind = .powerOn → onBound (s.feedState f) = true) ∧
      (op.kind = .powerOff → offStopping (s.feedState f) = true)) ∧
  (∀ f n, isFeed s f → (s.feedRec f).op = some n → ∃ op, s.slot n = .pending op f)

/-- The notices on a subject. -/
def noticesOn (s : State) (subj : Subject) : List Notice := s.notices.filter (fun n => decide (n.subject = subj))

/-- At most one OPEN and one DELIVERED notice stand on a subject (R169); a slot has its one notice exactly while it is
COMPLETE (R149). -/
def noticesOk (s : State) : Prop :=
  (∀ subj, ((noticesOn s subj).filter Notice.isOpen).length ≤ 1 ∧
    ((noticesOn s subj).filter (fun n => !n.isOpen)).length ≤ 1) ∧
  ∀ n, (noticesOn s (.slot n)).length = if (s.slot n).isComplete = true then 1 else 0

/-! ## Counts (R107, R110, R111) -/

/-- RETRY_WAIT, or a stop on its way there. -/
def retryBound : FeedState → Bool
  | .retryWait => true
  | .stopping _ .retryWait => true
  | _ => false

/-- No count exceeds 15; a feed that waits to retry, or is on its way there, has a count of at least 1 and below its
latch threshold, and in RETRY_WAIT its backoff runs (R107, R110, R111). -/
def retryOk (s : State) : Prop :=
  ∀ f, isFeed s f →
    (s.feedRec f).count ≤ 15 ∧
    (retryBound (s.feedState f) = true → 1 ≤ (s.feedRec f).count ∧ (s.feedRec f).count < s.thresholdOf f) ∧
    (s.feedState f = .retryWait → (s.feedRec f).backoff.isSome = true)

/-! ## Hard reset (R199) -/

/-- While a hard reset lasts every SW_EN is inactive, ALERT_N is released, TXD is idle and no auxiliary line is driven
(R199). -/
def resetQuiet (s : State) : Prop :=
  s.inReset = true →
    (∀ p, (s.outlet p).swEn = false) ∧ s.alertN = .high ∧ s.link.tx = none ∧ ∀ k, (s.auxLine k).out = none

/-- The commands that act during a hard reset: the reset's own pins, and the input pins whose level is followed. -/
def actsInReset : Instr → Bool
  | .vddPowerOn => true
  | .resetNLow => true
  | .resetEnd _ _ => true
  | .supgoodInactive _ => true
  | .supgoodActive _ => true
  | .presLevelChange _ _ => true
  | .overcurrentBegin _ => true
  | .overcurrentEnd _ => true
  | .shortNActive _ _ => true
  | .lineLevelChange _ _ => true
  | _ => false

/-- The values after a hard reset (R25, R42, R67, R96, R131, R143, R165, R177, R191, R200), `s` being the state the
reset finds, of which it keeps the levels of the input pins, and `baud` the level of the strap. -/
def afterReset (s t : State) (baud : Level) : Prop :=
  (∀ p, t.outlet p =
    { own := { state := .off, count := 0, op := none, stability := none, backoff := none }
      alloc := 0, presence := false, grantStamp := none, lastCause := none, ramp := none, blanking := none
      discharge := none, pairWindow := none, overdrawWindow := none
      debounce := if (s.outlet p).pres = true then some 100 else none
      width := none, ring := [], peak := 0, latest := none, swEn := false
      pres := (s.outlet p).pres, shortN := (s.outlet p).shortN, overcurrent := (s.outlet p).overcurrent
      profile :=
        { request := 100, priority := 3, startMode := .manual, debounce := 100, ramp := 20, blanking := 15
          tripMode := .pair, width := 2, pairWindow := 40, threshold := 3, stability := 5, shedPolicy := .requeue
          overdrawCheck := false, overdrawMargin := 10, overdrawWindow := 1000, discharge := 200 } }) ∧
  (∀ g, t.gang g =
    { own := { state := .off, count := 0, op := none, stability := none, backoff := none }
      lastMember := none, timedOut := false
      profile := { priority := 3, threshold := 3, stability := 5, shedPolicy := .requeue } }) ∧
  (∀ p : OutletId, t.logicalOf p = some (p.val + 1)) ∧ (∀ g, t.membersOf g = none) ∧ t.stagedMap = t.activeMap ∧
  (∀ k, t.supply k =
    { capacity := 0, good := false, line := (s.supply k).line
      restoration := if (s.supply k).line = true then some 100 else none }) ∧
  t.reserve = 0 ∧ t.budget = 0 ∧ t.held = 0 ∧ t.active = 0 ∧ t.queue = [] ∧ t.entryStamps = 0 ∧ t.grantStamps = 0 ∧
  t.claim = none ∧ t.policy = { mode := .strict, preemption := false, aging := 0 } ∧ (∀ n, t.slot n = .free) ∧
  t.notices = [{ subject := .part, flags := 0x0100#16, status := .opened }] ∧ t.nextNumber = 1 ∧ t.alertN = .low ∧
  t.link =
    { rx := .hunting, rxTimer := none, places := #v[none, none], answers := [], tx := none, cache := none
      rate := if baud = .high then .r460800 else .r115200
      baud := baud, restarting := false } ∧
  t.eoffN =
    { level := s.eoffN.level, active := false, filter := if s.eoffN.level = .low then some 1 else none } ∧
  (∀ k, t.auxLine k =
    { fn := .none, input := { level := (s.auxLine k).input.level, active := false, filter := none }, out := none }) ∧
  t.resetBy = { vdd := false, pin := false } ∧ t.pending = s.pending

/-! ## Targets (R146, appendix A.3) -/

/-- The byte names the outlet: by physical index, or by the logical number it alone carries (R146). -/
def namesOutlet (s : State) (b : Byte) (p : OutletId) : Prop :=
  b.toNat = 0x41 + p.val ∨
    (1 ≤ b.toNat ∧ b.toNat ≤ 12 ∧ s.logicalOf p = some b.toNat ∧ ∀ q, s.logicalOf q = some b.toNat → q = p)

/-- The byte names no outlet: it is no logical number that the active map assigns and no physical index (R146). -/
def namesNoOutlet (s : State) (b : Byte) : Prop :=
  ¬ (0x41 ≤ b.toNat ∧ b.toNat ≤ 0x4C) ∧ (1 ≤ b.toNat ∧ b.toNat ≤ 12 → ∀ q, s.logicalOf q ≠ some b.toNat)

/-- The byte names the feed: a solo feed by the logical number of its outlet, a defined gang by its number (R146). -/
def namesFeed (s : State) (b : Byte) : Feed → Prop
  | .solo p =>
    1 ≤ b.toNat ∧ b.toNat ≤ 12 ∧ s.logicalOf p = some b.toNat ∧ (∀ q, s.logicalOf q = some b.toNat → q = p) ∧
      s.gangOf p = none
  | .gang g => b.toNat = 0x81 + g.val ∧ (s.membersOf g).isSome = true

/-! ## Profile fields by identifier (R3, R120, appendix A.3) -/

/-- The value of the outlet profile field with an identifier, an enumerated field by its code. -/
def profileValue (id : Nat) (r : Profile) : Nat :=
  if id = 1 then r.request else if id = 2 then r.priority
  else if id = 3 then (if r.startMode = .onPresence then 1 else 0)
  else if id = 4 then r.debounce else if id = 5 then r.ramp else if id = 6 then r.blanking
  else if id = 7 then (if r.tripMode = .pair then 1 else 0)
  else if id = 8 then r.width else if id = 9 then r.pairWindow else if id = 10 then r.threshold
  else if id = 11 then r.stability else if id = 12 then (if r.shedPolicy = .drop then 1 else 0)
  else if id = 13 then (if r.overdrawCheck = true then 1 else 0)
  else if id = 14 then r.overdrawMargin else if id = 15 then r.overdrawWindow else r.discharge

/-- The range of the outlet profile field with an identifier (R3). -/
def valueInRange (id v : Nat) : Prop :=
  (id = 1 ∧ 1 ≤ v ∧ v ≤ 1000) ∨ (id = 2 ∧ v ≤ 7) ∨ (id = 3 ∧ v ≤ 1) ∨ (id = 4 ∧ 10 ≤ v ∧ v ≤ 500) ∨
  (id = 5 ∧ 1 ≤ v ∧ v ≤ 250) ∨ (id = 6 ∧ v ≤ 255) ∨ (id = 7 ∧ v ≤ 1) ∨ (id = 8 ∧ v ≤ 8) ∨
  (id = 9 ∧ 1 ≤ v ∧ v ≤ 250) ∨ (id = 10 ∧ 1 ≤ v ∧ v ≤ 15) ∨ (id = 11 ∧ 1 ≤ v ∧ v ≤ 60) ∨ (id = 12 ∧ v ≤ 1) ∨
  (id = 13 ∧ v ≤ 1) ∨ (id = 14 ∧ v ≤ 50) ∨ (id = 15 ∧ 100 ≤ v ∧ v ≤ 5000) ∨ (id = 16 ∧ 10 ≤ v ∧ v ≤ 1000)

/-- The field may change in the outlet's state (R3, R155). -/
def valueAllowed (s : State) (p : OutletId) (id : Nat) : Prop :=
  (id = 1 ∨ id = 5 ∨ id = 6 ∨ id = 16 → outletHolding s p = false) ∧
  (id = 10 → s.outletState p ≠ .mapped .retryWait ∧ ∀ c d, s.outletState p ≠ .mapped (.stopping c d))

/-- The value of the gang profile field with an identifier. -/
def gangValue (id : Nat) (r : GangProfile) : Nat :=
  if id = 1 then r.priority else if id = 2 then r.threshold else if id = 3 then r.stability
  else (if r.shedPolicy = .drop then 1 else 0)

/-- The range of the gang profile field with an identifier (R120). -/
def gangValueInRange (id v : Nat) : Prop :=
  (id = 1 ∧ v ≤ 7) ∨ (id = 2 ∧ 1 ≤ v ∧ v ≤ 15) ∨ (id = 3 ∧ 1 ≤ v ∧ v ≤ 60) ∨ (id = 4 ∧ v ≤ 1)

/-! ## Request events -/

/-- The slot is the lowest-numbered FREE slot (R148). -/
def lowestFree (s : State) (n : SlotId) : Prop := s.slot n = .free ∧ ∀ m, m < n → s.slot m ≠ .free

/-- The end of a request event (R186, R187, R197): the reply frame is in the cache with the frame it answers, and the
auxiliary outputs follow. -/
def answered (seq kind : Byte) (payload reply : List Byte) (s : State) : State :=
  driveAux { s with link := { s.link with
    cache := some { seq := seq, kind := kind, crc := frameCrc seq kind payload,
                    reply := frameBytes seq (replyKind kind) reply } } }

/-! ## Requests as commands (R144, R145, R202) -/

/-- The frame a request command carries: SEQ, KIND and payload (R202). -/
def requestOf : Instr → Option (Byte × Byte × List Byte)
  | .ident seq d => some (seq, 0x01#8, d)
  | .status seq d => some (seq, 0x02#8, d)
  | .readOutlet seq d => some (seq, 0x03#8, d)
  | .readGang seq d => some (seq, 0x04#8, d)
  | .readMeter seq d => some (seq, 0x05#8, d)
  | .readQueue seq d => some (seq, 0x06#8, d)
  | .powerOn seq d => some (seq, 0x10#8, d)
  | .powerOff seq d => some (seq, 0x11#8, d)
  | .powerOffAll seq => some (seq, 0x11#8, [0xFF#8])
  | .clearFault seq d => some (seq, 0x12#8, d)
  | .setProfile seq d => some (seq, 0x20#8, d)
  | .setGangProfile seq d => some (seq, 0x21#8, d)
  | .setSupply seq d => some (seq, 0x22#8, d)
  | .setPolicy seq d => some (seq, 0x23#8, d)
  | .setLine seq d => some (seq, 0x24#8, d)
  | .stageMap seq d => some (seq, 0x30#8, d)
  | .stageGang seq d => some (seq, 0x31#8, d)
  | .applyMap seq d => some (seq, 0x32#8, d)
  | .discardMap seq d => some (seq, 0x33#8, d)
  | .readMap seq d => some (seq, 0x34#8, d)
  | .fetchNotices seq d => some (seq, 0x40#8, d)
  | .restart seq d => some (seq, 0x50#8, d)
  | .unknownKind seq k d => some (seq, k, d)
  | _ => none

/-- The named bits of a mask that are set. -/
def bitsSet (m : Byte) : Nat :=
  (if m.getLsbD 0 then 1 else 0) + (if m.getLsbD 1 then 1 else 0) + (if m.getLsbD 2 then 1 else 0)

/-- The payload lengths a kind accepts (R202); none for a kind the catalogue does not list. -/
def lengthFits (kind : Byte) (d : List Byte) : Option Bool :=
  let k := kind.toNat
  if k = 0x01 ∨ k = 0x02 ∨ k = 0x32 ∨ k = 0x33 ∨ k = 0x50 then some (decide (d.length = 0))
  else if k = 0x03 ∨ k = 0x04 ∨ k = 0x05 ∨ k = 0x06 ∨ k = 0x10 ∨ k = 0x11 ∨ k = 0x12 ∨ k = 0x34 then
    some (decide (d.length = 1))
  else if k = 0x20 then some (decide (4 ≤ d.length ∧ d.length ≤ 25 ∧ d.length % 3 = 1))
  else if k = 0x21 then some (decide (4 ≤ d.length ∧ d.length ≤ 13 ∧ d.length % 3 = 1))
  else if k = 0x22 then some (decide (1 ≤ d.length ∧ d.length = 1 + 2 * bitsSet (d.headD 0#8)))
  else if k = 0x23 then some (decide (1 ≤ d.length ∧ d.length = 1 + bitsSet (d.headD 0#8)))
  else if k = 0x24 ∨ k = 0x40 then some (decide (d.length = 3))
  else if k = 0x30 then some (decide (2 ≤ d.length ∧ d.length ≤ 24 ∧ d.length % 2 = 0))
  else if k = 0x31 then some (decide (1 ≤ d.length ∧ d.length ≤ 5))
  else none

/-! ## Power transitions of an outlet and a feed (R11, R13, R16, R122, R124) -/

/-- An outlet at the grant of its feed (R11). -/
def granted (stamp : Nat) (o : OutletRec) : OutletRec :=
  { o with
    alloc := o.profile.request, grantStamp := some stamp, swEn := true, ramp := some o.profile.ramp
    blanking := if o.profile.blanking = 0 then none else some o.profile.blanking, ring := [] }

/-- An outlet at the stop of its feed (R13). -/
def stopped (o : OutletRec) : OutletRec :=
  { o with
    swEn := false, ramp := none, blanking := none, pairWindow := none, overdrawWindow := none, width := none
    discharge := some o.profile.discharge }

/-- An outlet that returns its allocation (R16, R17). -/
def returned (o : OutletRec) : OutletRec := { o with alloc := 0, grantStamp := none, discharge := none }

/-- The feed part of a record at a stop (R13). -/
def stoppedFeed (c : StopCause) (d : Dest) (r : FeedRec) : FeedRec :=
  { r with state := .stopping c d, stability := none }

/-- `t` is `s` after the stop of a feed (R13, R124): every outlet of the feed stops, the feed is in STOPPING with the
cause and the destination, the allocations leave the active total, and nothing else changes. -/
def afterStop (f : Feed) (c : StopCause) (d : Dest) (s t : State) : Prop :=
  (∀ q, t.outlet q =
    if f = .solo q then { stopped (s.outlet q) with own := stoppedFeed c d (s.outlet q).own }
    else if q ∈ s.outletsOf f then stopped (s.outlet q) else s.outlet q) ∧
  (∀ g, t.gang g =
    if f = .gang g then { s.gang g with own := stoppedFeed c d (s.gang g).own, timedOut := false } else s.gang g) ∧
  t = { s with outlets := t.outlets, gangs := t.gangs, active := s.active - s.allocOf f }

/-- `t` is `s` after the grant of a feed (R11, R34, R122), its notice apart: every outlet of the feed takes its
allocation with one new stamp, the feed is in STARTING, both totals rise by the request amount, and nothing else
changes. -/
def afterGrantOf (f : Feed) (s t : State) : Prop :=
  (∀ q, t.outlet q =
    if f = .solo q then
      { granted (s.grantStamps + 1) (s.outlet q) with own := { (s.outlet q).own with state := .starting } }
    else if q ∈ s.outletsOf f then granted (s.grantStamps + 1) (s.outlet q) else s.outlet q) ∧
  (∀ g, t.gang g =
    if f = .gang g then { s.gang g with own := { (s.gang g).own with state := .starting } } else s.gang g) ∧
  t = { s with
    outlets := t.outlets, gangs := t.gangs, held := s.held + s.requestAmount f
    active := s.active + s.requestAmount f, grantStamps := s.grantStamps + 1 }

/-- A slot bound to a feed's operation (R148). -/
def bound (f : Feed) (n : SlotId) (op : SlotOp) (s : State) : State :=
  updFeed f (fun r => { r with op := some n }) (s.setSlot n (.pending op f))

/-- The feed's entry leaves the queue and the feed enters OFF (R60); a claim of the feed is dropped (R78). -/
def withdrawn (f : Feed) (s : State) : State :=
  updFeed f (fun r => { r with state := .off })
    { s with
      queue := s.queue.filter (fun e => decide (e.feed ≠ f))
      claim := if s.claim.map Claim.feed = some f then none else s.claim }

/-- The destination of a stop after a POWER_OFF, an EOFF assertion or a presence loss (R15). -/
def destOffBound : Dest → Dest
  | .latched => .latched
  | _ => .off

/-- The state in which POWER_OFF with ALL or an EOFF assertion leaves a feed (R153, R193). -/
def offState (c : StopCause) : FeedState → FeedState
  | .off => .off
  | .queued => .off
  | .starting => .stopping c .off
  | .on => .stopping c .off
  | .stopping k d => .stopping k (destOffBound d)
  | .retryWait => .off
  | .latched => .latched

/-- POWER_OFF with ALL and an EOFF assertion change the feed (R153, R193). -/
def offChanges : FeedState → Bool
  | .off => false
  | .latched => false
  | .stopping _ .off => false
  | .stopping _ .latched => false
  | _ => true

/-- The feed part of a record after POWER_OFF with ALL or an EOFF assertion, `done` saying whether the feed had a pending
POWER_ON (R153, R193): the state, the pending operation, and the timers of the state left; the count is kept. -/
def offRec (c : StopCause) (done : Bool) (r : FeedRec) : FeedRec :=
  { r with
    state := offState c r.state
    op := if done then none else r.op
    backoff := if r.state = .retryWait then none else r.backoff
    stability := if r.state.powered then none else r.stability }

/-- The feed has a pending POWER_ON (R147). -/
def poweringOn (s : State) (f : Feed) : Bool := decide (s.pendingKind f = some .powerOn)

/-- What POWER_OFF with ALL or an EOFF assertion leaves, its notices apart (R153, R193), `c` being the stop cause and `o`
the completion outcome: every running feed is stopped, the queue is empty, the claim is gone, every pending POWER_ON has
completed, and nothing else changes. -/
def allOff (c : StopCause) (o : Completion) (s t : State) : Prop :=
  (∀ q, t.outlet q =
    { (if s.outletPowered q = true then stopped (s.outlet q) else s.outlet q) with
      own := if s.feedOf q = some (.solo q) then offRec c (poweringOn s (.solo q)) (s.outlet q).own
        else (s.outlet q).own }) ∧
  (∀ g, t.gang g =
    if (s.membersOf g).isSome = true then
      { s.gang g with
        own := offRec c (poweringOn s (.gang g)) (s.gang g).own
        timedOut := if (s.gang g).own.state.powered = true then false else (s.gang g).timedOut }
    else s.gang g) ∧
  (∀ n, t.slot n =
    match s.slot n with
    | .pending op f => if op.kind = .powerOn then .complete op o else .pending op f
    | x => x) ∧
  t = { s with
    outlets := t.outlets, gangs := t.gangs, slots := t.slots, queue := [], claim := none, active := 0
    notices := t.notices, alertN := t.alertN }

/-- A list of all feeds in ascending order of the lowest physical index among their outlets (R153, R193). -/
def feedsInOrder (s : State) (l : List Feed) : Prop :=
  (∀ f, f ∈ l ↔ isFeed s f) ∧
  l.Pairwise (fun f g => ∃ p ∈ s.outletsOf f, ∀ q ∈ s.outletsOf g, p < q)

/-- The notices one feed raises at POWER_OFF with ALL or an EOFF assertion, in order (R153, R193): STATE if its state
changes (a change of destination is none, R22), then COMPLETION of its slot if its POWER_ON completes. -/
def offNotices (s : State) (f : Feed) : List (Subject × NoticeFlag) :=
  (match s.feedState f with
    | .off => []
    | .latched => []
    | .stopping _ _ => []
    | _ => [(subjectOf f, .state)]) ++
  if poweringOn s f = true then ((s.feedRec f).op.toList).map (fun n => (Subject.slot n, NoticeFlag.completion)) else []

/-- The state after a list of raises, first to last (R168). -/
def raised (l : List (Subject × NoticeFlag)) (s : State) : State := l.foldl (fun t x => raise x.1 x.2 t) s

end Sys2Proof.Safety
end

