-- ==== Sys2Proof/WellFormed.lean ====
section
/-! DEFINITION. Which commands a sender can give: the bounds of a frame (R179), the split of POWER_OFF into its two
rows, the kinds that are unknown (R145), and the range of the analog inputs (section 12.5). -/

namespace Sys2Proof

/-- A frame carries at most 48 payload bytes (R179). -/
def payloadFits (payload : List Byte) : Bool := payload.length ≤ Config.payloadMax

/-- The command is one that the outside of the part can give. -/
def Instr.wellFormed : Instr → Bool
  | .ident _ d => payloadFits d
  | .status _ d => payloadFits d
  | .readOutlet _ d => payloadFits d
  | .readGang _ d => payloadFits d
  | .readMeter _ d => payloadFits d
  | .readQueue _ d => payloadFits d
  | .powerOn _ d => payloadFits d
  | .powerOff _ d => payloadFits d && decide (d ≠ [0xFF#8])
  | .powerOffAll _ => true
  | .clearFault _ d => payloadFits d
  | .setProfile _ d => payloadFits d
  | .setGangProfile _ d => payloadFits d
  | .setSupply _ d => payloadFits d
  | .setPolicy _ d => payloadFits d
  | .setLine _ d => payloadFits d
  | .stageMap _ d => payloadFits d
  | .stageGang _ d => payloadFits d
  | .applyMap _ d => payloadFits d
  | .discardMap _ d => payloadFits d
  | .readMap _ d => payloadFits d
  | .fetchNotices _ d => payloadFits d
  | .restart _ d => payloadFits d
  | .unknownKind _ k d => payloadFits d && !Config.catalogue.contains k
  | .rxByte _ _ => true
  | .interByteTimeout => true
  | .answerTransmitted => true
  | .vddPowerOn => true
  | .resetNLow => true
  | .resetEnd _ _ => true
  | .supgoodInactive _ => true
  | .supgoodActive _ => true
  | .restorationTimerExpiry _ => true
  | .agingStep _ => true
  | .meterScan _ v i => decide (v ≤ Config.analogMaxUv) && decide (i ≤ Config.analogMaxUv)
  | .dischargeTimeout _ => true
  | .memberDischargeTimeout _ => true
  | .rampExpiry _ => true
  | .memberRampExpiry _ => true
  | .blankingExpiry _ => true
  | .stabilityExpiry _ => true
  | .gangStabilityExpiry _ => true
  | .backoffExpiry _ => true
  | .gangBackoffExpiry _ => true
  | .presLevelChange _ _ => true
  | .presenceDebounceExpiry _ => true
  | .overcurrentBegin _ => true
  | .overcurrentEnd _ => true
  | .qualifiedPulse _ => true
  | .pairWindowExpiry _ => true
  | .shortNActive _ _ => true
  | .overdrawWindowExpiry _ => true
  | .lineLevelChange _ _ => true
  | .lineFilterExpiry _ => true

end Sys2Proof
end

