-- ==== Sys2Proof/Certificates/Slice0/Obligations.lean ====
section
/-! DEFINITION. The statements for the provers, as propositions: what a step, a command and the shared operations do,
by the numbered rules, and the invariants every step keeps. `raise`, `completeOp`, `enterQueued`, `pass`, `recompute`,
`takeFault` and `driveAux` name the same operations here as in the meanings; each has statements of its own. -/

section
open Sys2Proof Sys2Proof.Machine Sys2Proof.Safety

/-! ## The machine as a whole -/

/-- A step is the command at the front of the queue on the state with the rest of the queue; on an empty queue the part
idles. The queue is the model's own (log entries 3 and 4). -/
def Obligations.StepTakesFrontCommand : Prop :=
  (∀ (c : Instr) (rest : List Instr) (s : State),
    step { s with pending := c :: rest } = exec c { s with pending := rest }) ∧
  ∀ s : State, s.pending = [] → step s = .next s

/-- Every command completes in every state and leaves the waiting commands alone: the manual gives every event of the
part an effect (log entry 22). -/
def Obligations.EveryCommandCompletes : Prop :=
  ∀ (c : Instr) (s : State), ∃ t, exec c s = .next t ∧ t.pending = s.pending

/-- State.reset has the values of a hard reset (R25, R42, R67, R96, R131, R143, R165, R177, R191, R200) for the input
pins that log entry 8 chooses, and meets every invariant stated below. -/
def Obligations.ResetMeetsInvariants : Prop :=
  afterReset State.reset State.reset .low ∧ mapsOk State.reset ∧ powerOk State.reset ∧ emergencyOk State.reset ∧
  orderOk State.reset ∧ budgetOk State.reset ∧ alertOk State.reset ∧ auxOk State.reset ∧ profilesOk State.reset ∧
  metersOk State.reset ∧ linkOk State.reset.link ∧ slotsOk State.reset ∧ noticesOk State.reset ∧ retryOk State.reset ∧
  resetQuiet State.reset

/-- While a hard reset lasts, a command other than the reset's own pins and the input pins has no effect, and a level
command of an input pin changes that pin's level and nothing else: no timer starts and no fault or supply loss is taken
(R199, R25, R42, R200; the model's choice of log entry 5). -/
def Obligations.ResetIgnoresCommands : Prop :=
  (∀ (c : Instr) (s : State), s.inReset = true → actsInReset c = false → exec c s = .next s) ∧
  (∀ (p : OutletId) (a : Bool) (s : State), s.inReset = true →
    exec (.presLevelChange p a) s = .next (s.setOutlet p { s.outlet p with pres := a }) ∧
    exec (.shortNActive p a) s = .next (s.setOutlet p { s.outlet p with shortN := a }) ∧
    exec (.overcurrentBegin p) s = .next (s.setOutlet p { s.outlet p with overcurrent := true }) ∧
    exec (.overcurrentEnd p) s = .next (s.setOutlet p { s.outlet p with overcurrent := false })) ∧
  (∀ (k : SupplyId) (s : State), s.inReset = true →
    exec (.supgoodActive k) s = .next (s.setSupply k { s.supply k with line := true }) ∧
    exec (.supgoodInactive k) s = .next (s.setSupply k { s.supply k with line := false })) ∧
  ∀ (l : LineId) (level : Level) (s : State), s.inReset = true →
    exec (.lineLevelChange l level) s = .next (setInput l { s.inputLine l with level := level } s)

/-- A request command is the request event of its frame (R144): the Request Handler's effect and reply, the reply frame
in the cache (R186, R187), and the auxiliary outputs; RESTART has a statement of its own. A refused request leaves every
block as it was; the cache takes the exchange. That the command goes round the line and its duplicate check is the
model's choice (log entry 1). -/
def Obligations.RequestCommandsAreRequestEvents : Prop :=
  (∀ (c : Instr) (s : State) (seq kind : Byte) (payload : List Byte),
    requestOf c = some (seq, kind, payload) → c.wellFormed = true → kind ≠ 0x50#8 → s.takesRequests = true →
    exec c s =
      .next (answered seq kind payload (handle (mkFrame seq kind payload) s).2
        (handle (mkFrame seq kind payload) s).1)) ∧
  ∀ (c : Instr) (s : State) (seq kind : Byte) (payload : List Byte),
    requestOf c = some (seq, kind, payload) → c.wellFormed = true → s.takesRequests = true →
    (handle (mkFrame seq kind payload) s).2.head? = some 0x02#8 →
    exec c s = .next (answered seq kind payload (handle (mkFrame seq kind payload) s).2 s)

/-- Every reply begins with DONE, ACCEPTED or REFUSED and fits a frame; a REFUSED reply is 2, 3 or 5 bytes long, and a
reply to a kind outside the catalogue is 2 (R203). -/
def Obligations.RepliesFitTheFrame : Prop :=
  ∀ (f : Frame) (s : State), mapsOk s →
    ((handle f s).2.head? = some 0x00#8 ∨ (handle f s).2.head? = some 0x01#8 ∨
      (handle f s).2.head? = some 0x02#8) ∧
    (handle f s).2.length ≤ 48 ∧
    ((handle f s).2.head? = some 0x02#8 →
      (handle f s).2.length = 2 ∨ (handle f s).2.length = 3 ∨ (handle f s).2.length = 5) ∧
    (lengthFits f.kind f.payload = none → (handle f s).2.length = 2)

/-- A kind outside the catalogue is refused with UNKNOWN_KIND, whatever its payload; a known kind with a payload of
another length than it accepts is refused with BAD_LENGTH, and with an accepted one never is (R145, R202). -/
def Obligations.KindAndLengthChecks : Prop :=
  (∀ (seq kind : Byte) (payload : List Byte) (s : State),
    s.takesRequests = true → lengthFits kind payload = none →
    exec (.unknownKind seq kind payload) s = .next (answered seq kind payload [0x02#8, 0x01#8] s)) ∧
  (∀ (f : Frame) (s : State), lengthFits f.kind f.payload = none → handle f s = (s, [0x02#8, 0x01#8])) ∧
  (∀ (f : Frame) (s : State), lengthFits f.kind f.payload = some false → handle f s = (s, [0x02#8, 0x02#8])) ∧
  ∀ (f : Frame) (s : State), lengthFits f.kind f.payload = some true →
    (handle f s).2 ≠ [0x02#8, 0x01#8] ∧ (handle f s).2 ≠ [0x02#8, 0x02#8]

/-! ## Shared operations -/

/-- A raise (R168) merges its flag into the subject's OPEN notice, which keeps its place, or appends a new OPEN notice
with the flag alone; an OPEN notice is then in the list, so ALERT_N is low (R176). -/
def Obligations.RaiseMergesOrAppends : Prop :=
  (∀ (subj : Subject) (fl : NoticeFlag) (s : State) (front back : List Notice) (n : Notice),
    s.notices = front ++ n :: back → n.subject = subj → n.status = .opened →
    (∀ m ∈ front, m.subject = subj → m.status ≠ .opened) →
    raise subj fl s =
      { s with
        notices := front ++ { subject := subj, flags := n.flags ||| flagBit fl, status := .opened } :: back
        alertN := .low }) ∧
  ∀ (subj : Subject) (fl : NoticeFlag) (s : State), (∀ m ∈ s.notices, m.subject = subj → m.status ≠ .opened) →
    raise subj fl s =
      { s with
        notices := s.notices ++ [{ subject := subj, flags := flagBit fl, status := .opened }]
        alertN := .low }

/-- A completion (R149): the slot of the feed's pending operation becomes COMPLETE with the outcome, the pending
operation becomes absent and COMPLETION is raised on the slot; without a pending operation of the kind nothing
happens. -/
def Obligations.CompletionFillsItsSlot : Prop :=
  (∀ (k : PowerKind) (o : Completion) (f : Feed) (s : State) (n : SlotId) (op : SlotOp) (g : Feed),
    (s.feedRec f).op = some n → s.slot n = .pending op g → op.kind = k →
    (completeOp k o f s).slot n = .complete op o ∧ (∀ m, m ≠ n → (completeOp k o f s).slot m = s.slot m) ∧
    ((completeOp k o f s).feedRec f) = { s.feedRec f with op := none } ∧
    (∀ h, h ≠ f → (completeOp k o f s).feedRec h = s.feedRec h) ∧
    completeOp k o f s =
      { s with
        outlets := (completeOp k o f s).outlets, gangs := (completeOp k o f s).gangs
        slots := (completeOp k o f s).slots, notices := raiseIn (.slot n) .completion s.notices, alertN := .low }) ∧
  (∀ (k : PowerKind) (o : Completion) (f : Feed) (s : State), (s.feedRec f).op = none → completeOp k o f s = s) ∧
  ∀ (k : PowerKind) (o : Completion) (f : Feed) (s : State) (n : SlotId) (op : SlotOp) (g : Feed),
    (s.feedRec f).op = some n → s.slot n = .pending op g → op.kind ≠ k → completeOp k o f s = s

/-- A feed that enters QUEUED gets its entry (R47): its request amount and priority of the moment, the next stamp, the
unfit flag and the aging timer (R52, R50), in the place the order gives it (R46). -/
def Obligations.EntryIsMadeInOrder : Prop :=
  ∀ (f : Feed) (o : Origin) (s : State), ∃ front back,
    s.queue = front ++ back ∧
    (∀ e ∈ front, ¬ (e.eff < s.priorityOf f ∨ (e.eff = s.priorityOf f ∧ s.entryStamps + 1 < e.stamp))) ∧
    (∀ e ∈ back.head?, e.eff < s.priorityOf f ∨ (e.eff = s.priorityOf f ∧ s.entryStamps + 1 < e.stamp)) ∧
    enterQueued f o s =
      { updFeed f (fun r => { r with state := .queued, backoff := none }) s with
        queue := front ++
          { feed := f, amount := s.requestAmount f, base := s.priorityOf f, eff := s.priorityOf f
            stamp := s.entryStamps + 1, origin := o, unfit := decide (s.budget < s.requestAmount f)
            aging := if 0 < s.policy.aging ∧ s.priorityOf f < 7 then some s.policy.aging else none } :: back
        entryStamps := s.entryStamps + 1 }

/-- A pass under HOLD does nothing (R54). Otherwise the claimant is tested first (R55): one whose amount is at most budget
less held total is granted (R59), its claim goes with the grant, and the pass goes on from there with no claim amount
deducted. One that does not fit stays queued with the claim, and the walk (R56, R57) goes on beside it: unfit entries and
the claimant are skipped, every other is tested against budget less held total less claim amount (R33, R77), one that
fits is granted and the pass goes on, and the first that does not fit, where STRICT stops and FIT_FIRST has nothing more
to grant, is handed to the preemption evaluation (R58). What a grant does is the next statement; `afterGrant` is what the
fault inputs do at it (log entry 21). -/
def Obligations.ClaimantIsTestedFirst : Prop :=
  (∀ s : State, s.hold = true → pass s = s) ∧
  ∀ s : State, powerOk s → s.hold = false →
    let without := fun (f : Feed) => s.queue.filter (fun e => decide (e.feed ≠ f))
    let goesOn := fun (f : Feed) (t : State) =>
      pass s = pass (afterGrant (s.outletsOf f) (raise (subjectOf f) .state t))
    (∀ c, s.claim = some c → s.held + c.amount ≤ s.budget →
      ∃ t, afterGrantOf c.feed { s with queue := without c.feed, claim := none } t ∧ goesOn c.feed t) ∧
    ((∀ c, s.claim = some c → s.budget < s.held + c.amount) →
      let kept := (s.claim.map Claim.amount).getD 0
      let skipped := fun (e : Entry) => e.unfit = true ∨ s.claim.map Claim.feed = some e.feed
      let fits := fun (e : Entry) => s.held + kept + e.amount ≤ s.budget
      (∀ c, s.claim = some c →
        (pass s).feedState c.feed = .queued ∧ (pass s).claim = some c ∧ ∃ e ∈ (pass s).queue, e.feed = c.feed) ∧
      ((∀ x ∈ s.queue, skipped x) → pass s = s) ∧
      ∀ front e back, s.queue = front ++ e :: back → ¬ skipped e →
        (fits e → (∀ x ∈ front, skipped x ∨ (s.policy.mode = .fitFirst ∧ ¬ fits x)) →
          ∃ t, afterGrantOf e.feed { s with queue := front ++ back } t ∧ goesOn e.feed t) ∧
        (¬ fits e → (∀ x ∈ front, skipped x) → (s.policy.mode = .strict ∨ ∀ x ∈ back, skipped x ∨ ¬ fits x) →
          pass s = preempt e s))

/-- An entry alone in the queue that fits is granted by the pass (R56, R57, R59): it leaves the queue, its feed enters
STARTING with its STATE notice, and the fault inputs of its outlets act at that entry, the lowest outlet that has a fault
there first (R104, R122, log entry 21). SHORT_N active is a SHORT fault; with SHORT_N inactive, blanking 0, minimum pulse
width 0 and trip mode SINGLE a condition present is an OVERCURRENT fault. Without a fault a condition present is examined
from the grant when blanking is 0 (R99, R100): its width is measured, or a width of 0 opens the pair window (R102). -/
def Obligations.PassGrantsTheLoneEntry : Prop :=
  ∀ (s : State) (e : Entry), powerOk s → s.hold = false → s.claim = none → s.queue = [e] →
    s.held + e.amount ≤ s.budget →
    let short := fun (p : OutletId) => (s.outlet p).shortN = true
    let examined := fun (p : OutletId) => (s.outlet p).overcurrent = true ∧ (s.outlet p).profile.blanking = 0
    let trips := fun (p : OutletId) =>
      examined p ∧ (s.outlet p).profile.width = 0 ∧ (s.outlet p).profile.tripMode = .single
    let noFault := fun (p : OutletId) => ¬ short p ∧ ¬ trips p
    ∃ t, afterGrantOf e.feed { s with queue := [] } t ∧
      let u := raise (subjectOf e.feed) .state t
      (∀ p ∈ s.outletsOf e.feed, (∀ q ∈ s.outletsOf e.feed, q < p → noFault q) →
        (short p → pass s = takeFault p .short u) ∧
        (¬ short p → trips p → pass s = takeFault p .overcurrent u)) ∧
      ((∀ p ∈ s.outletsOf e.feed, noFault p) →
        ((∀ p ∈ s.outletsOf e.feed, ¬ examined p) → pass s = u) ∧
        pass s = { u with outlets := (pass s).outlets } ∧
        ∀ p, (pass s).outlet p =
          if p ∈ s.outletsOf e.feed ∧ examined p then
            (if (s.outlet p).profile.width = 0 then
              { u.outlet p with width := none, pairWindow := some (s.outlet p).profile.pairWindow }
            else { u.outlet p with width := some (s.outlet p).profile.width })
          else u.outlet p)

/-- What a pass leaves when preemption is OFF and no claim exists (R56, R57): entries leave the queue only by a grant
that fitted; in STRICT mode the first entry that is not unfit does not fit, in FIT_FIRST mode no entry that is not
unfit does. -/
def Obligations.PassExhaustsTheHeadroom : Prop :=
  ∀ s : State, powerOk s → s.hold = false → s.claim = none → s.policy.preemption = false →
    (pass s).queue.Sublist s.queue ∧
    (∀ e ∈ s.queue, e ∉ (pass s).queue → e.unfit = false ∧ (pass s).feedState e.feed ≠ .queued) ∧
    (s.held ≤ s.budget → (pass s).held ≤ s.budget) ∧
    (∀ front e back, s.policy.mode = .strict → (pass s).queue = front ++ e :: back → (∀ x ∈ front, x.unfit = true) →
      e.unfit = false → s.budget < (pass s).held + e.amount) ∧
    (s.policy.mode = .fitFirst → ∀ e ∈ (pass s).queue, e.unfit = false → s.budget < (pass s).held + e.amount)

/-- Victim order (R68) holds each running feed once, with its priority, grant stamp and allocation of the moment, in
ascending priority and, within one priority, with the later stamp first. A victim's stop (R69, R82) gives it the cause
and the destination of its shed policy, raises SHED and STATE, and under DROP completes its pending POWER_ON SHED. -/
def Obligations.VictimsAreRankedAndStopped : Prop :=
  (∀ s : State, mapsOk s →
    (∀ r ∈ s.victims, isFeed s r.feed ∧ (s.feedState r.feed).powered = true ∧ r.priority = s.priorityOf r.feed ∧
      r.stamp = s.stampOf r.feed ∧ r.alloc = s.allocOf r.feed) ∧
    (∀ f, isFeed s f → (s.feedState f).powered = true → f ∈ s.victims.map Running.feed) ∧
    (s.victims.map Running.feed).Nodup ∧
    s.victims.Pairwise (fun a b => a.priority < b.priority ∨ (a.priority = b.priority ∧ b.stamp ≤ a.stamp))) ∧
  ∀ (c : StopCause) (f : Feed) (s : State), mapsOk s → isFeed s f →
    (s.shedPolicyOf f = .requeue → ∃ t, afterStop f c .queued s t ∧
      stopVictim c f s = raise (subjectOf f) .state (raise (subjectOf f) .shed t)) ∧
    (s.shedPolicyOf f = .drop → ∃ t, afterStop f c .off s t ∧
      stopVictim c f s = completeOp .powerOn .shed f (raise (subjectOf f) .state (raise (subjectOf f) .shed t)))

/-- Preemption for a blocked entry (R72 to R75) stops the shortest prefix of the running feeds of lower priority, in
victim order, whose allocations cover what the entry lacks, and claims for it; when no prefix does, or a condition of
R72 fails, nothing happens. -/
def Obligations.PreemptionStopsShortestPrefix : Prop :=
  ∀ (e : Entry) (s : State),
    let eligible := s.victims.filter (fun r => decide (r.priority < e.eff))
    let covers := fun k => e.amount + s.held ≤ s.budget + ((eligible.take k).map Running.alloc).sum
    (s.policy.preemption = true ∧ s.claim = none ∧ e.unfit = false ∧ s.hold = false →
      (∀ k, k ≤ eligible.length → covers k → (∀ j, j < k → ¬ covers j) →
        preempt e s =
          { (eligible.take k).foldl (fun t r => stopVictim .preempt r.feed t) s with
            claim := some { feed := e.feed, amount := e.amount } }) ∧
      ((∀ k, k ≤ eligible.length → ¬ covers k) → preempt e s = s)) ∧
    (¬ (s.policy.preemption = true ∧ s.claim = none ∧ e.unfit = false ∧ s.hold = false) → preempt e s = s)

/-- Shortfall shedding (R70) stops feeds strictly in victim order, and only as long as the active total exceeds the
budget: the feeds it stops are a prefix of the order, the active total ends at or below the budget, and before each stop
it was above. -/
def Obligations.SheddingStopsPrefixInOrder : Prop :=
  ∀ s : State, mapsOk s → (∀ p, outletOk s p) → s.active = allocSum s s.outletPowered →
    ∃ k, k ≤ s.victims.length ∧
      shedAll s = ((s.victims.take k).foldl (fun t r => stopVictim .shed r.feed t) s, k) ∧
      (shedAll s).1.active ≤ s.budget ∧ (shedAll s).1.held = s.held ∧
      ∀ j, j < k → s.budget < ((s.victims.take j).foldl (fun t r => stopVictim .shed r.feed t) s).active

/-- Recomputing the budget (R30, R38, R39): the budget becomes the capacities of the GOOD supplies less the reserve. An
unchanged budget has no consequence. A decrease drops the claim, sets the unfit flags, sheds, raises BUDGET and runs a
pass if it dropped a claim; an increase sets the flags, raises BUDGET and runs a pass. -/
def Obligations.BudgetChangesHaveConsequences : Prop :=
  ∀ s : State,
    let b := (if (s.supply 0).good then (s.supply 0).capacity else 0) +
      (if (s.supply 1).good then (s.supply 1).capacity else 0) - s.reserve
    let flagged := s.queue.map (fun e => { e with unfit := decide (b < e.amount) })
    (b = s.budget → recompute s = (s, 0)) ∧
    (b < s.budget →
      let u := shedAll { s with budget := b, claim := none, queue := flagged }
      (s.claim = none → recompute s = (raise .part .budget u.1, u.2)) ∧
      (s.claim ≠ none → recompute s = (pass (raise .part .budget u.1), u.2))) ∧
    (s.budget < b → recompute s = (pass (raise .part .budget { s with budget := b, queue := flagged }), 0))

/-- A counted fault at an outlet (R97, R107, R126): outside STARTING and ON it has no effect. Otherwise the count rises
by 1 up to 15, the cause is recorded, and the feed stops with cause FAULT: for RETRY_WAIT below the latch threshold, for
LATCHED from it on, where a pending POWER_ON completes FAULTED first. FAULT and STATE are raised, for a gang FAULT on
the member too. -/
def Obligations.FaultsCountAndStop : Prop :=
  ∀ (p : OutletId) (c : FaultCause) (s : State), mapsOk s →
    (s.outletPowered p = false → takeFault p c s = s) ∧
    (∀ f, s.outletPowered p = true → s.feedOf p = some f →
      let n := if (s.feedRec f).count < 15 then (s.feedRec f).count + 1 else (s.feedRec f).count
      let u := updOutlet p (fun o => { o with lastCause := some c }) (updFeed f (fun r => { r with count := n }) s)
      let v := match f with
        | .solo _ => u
        | .gang g => updGang g (fun r => { r with lastMember := some p }) u
      let told := fun t => match f with
        | .solo _ => raise (.outlet p) .state (raise (.outlet p) .fault t)
        | .gang g => raise (.gang g) .state (raise (.outlet p) .fault (raise (.gang g) .fault t))
      (n < s.thresholdOf f → ∃ t, afterStop f .fault .retryWait v t ∧ takeFault p c s = told t) ∧
      (s.thresholdOf f ≤ n → ∃ t, afterStop f .fault .latched (completeOp .powerOn .faulted f v) t ∧
        takeFault p c s = told t))

/-! ## Requests that report -/

/-- IDENT (R160) answers the identity of the part, and STATUS (R161) the part-wide values of the moment with the metered
total and count (R91); both change nothing. -/
def Obligations.IdentAndStatusReport : Prop :=
  (∀ (seq : Byte) (s : State), s.takesRequests = true →
    exec (.ident seq []) s =
      .next (answered seq 0x01#8 []
        [0x00#8, 0x5A#8, 0x31#8, 0x12#8, 0x40#8, 0x01#8, 0x01#8, 0x0C#8, 0x04#8, 0x04#8] s)) ∧
  ∀ (seq : Byte) (s : State), s.takesRequests = true →
    let good := fun k => if (s.supply k).good = true then 0x01#8 else 0x00#8
    let lines := if s.eoff = true then (if s.hold = true then 0x03#8 else 0x01#8)
      else (if s.hold = true then 0x02#8 else 0x00#8)
    let claim := match s.claim with
      | none => [0x00#8, 0x00#8, 0x00#8]
      | some { feed := .solo p, amount := a } => byte ((s.logicalOf p).getD 0) :: be16 a
      | some { feed := .gang g, amount := a } => byte (0x81 + g.val) :: be16 a
    let ready := allOutlets.filter (fun p => decide ((s.outlet p).ring.length = 8))
    let count := fun (q : Slot → Bool) => (allSlots.filter (fun n => q (s.slot n))).length
    exec (.status seq []) s =
      .next (answered seq 0x02#8 []
        (0x00#8 :: be16 s.budget ++ be16 s.held ++ be16 s.active ++ be16 s.reserve ++
          [good 0] ++ be16 (s.supply 0).capacity ++ [good 1] ++ be16 (s.supply 1).capacity ++
          [lines, byte s.queue.length] ++ claim ++
          [byte (s.notices.filter (fun n => decide (n.status = .opened))).length,
           byte (count Slot.isPending), byte (count Slot.isComplete)] ++
          be16 (ready.map (fun p => (s.outlet p).ring.sum / 8)).sum ++ [byte ready.length]) s)

/-- READ_OUTLET (R162) and READ_GANG (R163) answer the record and the profile of the outlet or the gang they name, an
absent field as 0 (R201), and change nothing; a member's record shows the gang's state, a count of 0 and no pending
operation (R24). READ_METER (R90) answers the outlet's meter values, and then the peak becomes the latest sample, or 0
before the first scan (R89). -/
def Obligations.RecordsAndMetersAreRead : Prop :=
  ((∀ (seq b : Byte) (p : OutletId) (s : State), s.takesRequests = true → namesOutlet s b p →
    let o := s.outlet p
    let solo := decide (s.feedOf p = some (.solo p))
    let shown := match s.outletState p with
      | .unmapped => [0x01#8, 0x00#8, 0x00#8]
      | .mapped st => [codeFeedState st, codeCauseOf st, codeDestOf st]
    exec (.readOutlet seq [b]) s =
      .next (answered seq 0x03#8 [b]
        (0x00#8 :: [flagByte o.grantStamp.isSome, byte (p.val + 1), byte ((s.logicalOf p).getD 0),
          codeGang (s.gangOf p)] ++ shown ++ be16 o.alloc ++ [flagByte o.presence] ++
          be16 (o.grantStamp.getD 0) ++
          [if solo = true then byte o.own.count else 0x00#8, codeFaultCause o.lastCause,
           if solo = true then codeSlot o.own.op else 0x00#8] ++
          be16 (profileValue 1 o.profile) ++
          [byte (profileValue 2 o.profile), byte (profileValue 3 o.profile)] ++ be16 (profileValue 4 o.profile) ++
          ([5, 6, 7, 8, 9, 10, 11, 12, 13, 14].map (fun id => byte (profileValue id o.profile))) ++
          be16 (profileValue 15 o.profile) ++ be16 (profileValue 16 o.profile)) s)) ∧
  ∀ (seq : Byte) (g : GangId) (s : State), s.takesRequests = true →
    let r := s.gang g
    let ms := (s.membersOf g).getD []
    let here := (s.membersOf g).isSome
    exec (.readGang seq [byte (0x81 + g.val)]) s =
      .next (answered seq 0x04#8 [byte (0x81 + g.val)]
        (0x00#8 :: [byte (g.val + 1), byte ms.length] ++ ms.map (fun p => byte (p.val + 1)) ++
          List.replicate (4 - ms.length) 0x00#8 ++
          (if here = true then [codeFeedState r.own.state, codeCauseOf r.own.state, codeDestOf r.own.state]
            else [0x00#8, 0x00#8, 0x00#8]) ++
          [byte r.own.count, codePhysical r.lastMember, codeSlot r.own.op] ++
          be16 (ms.map (fun p => (s.outlet p).profile.request)).sum ++
          ([1, 2, 3, 4].map (fun id => byte (gangValue id r.profile)))) s)) ∧
  ∀ (seq b : Byte) (p : OutletId) (s : State), s.takesRequests = true → namesOutlet s b p →
    let o := s.outlet p
    let ready := decide (o.ring.length = 8)
    let flags := if ready = true then (if o.latest.isSome = true then 0x03#8 else 0x01#8)
      else (if o.latest.isSome = true then 0x02#8 else 0x00#8)
    let latest := match o.latest with
      | some (x, .up) => be16 x ++ [0x01#8]
      | some (x, .mid) => be16 x ++ [0x02#8]
      | some (x, .down) => be16 x ++ [0x03#8]
      | none => [0x00#8, 0x00#8, 0x00#8]
    exec (.readMeter seq [b]) s =
      .next (answered seq 0x05#8 [b]
        ([0x00#8, byte (p.val + 1), byte o.ring.length, flags] ++
          be16 (if ready = true then o.ring.sum / 8 else 0) ++ latest ++ be16 o.peak)
        (s.setOutlet p { o with peak := (o.latest.map Prod.fst).getD 0 }))

/-- READ_QUEUE (R65) answers the queue length, the claim and at most seven entries from the start position on; a start
position outside 1 to 12 is refused with BAD_VALUE. READ_MAP (R137) answers the chosen map with the differs flag;
another selector is refused with BAD_VALUE. Both change nothing. -/
def Obligations.QueueAndMapsAreRead : Prop :=
  (∀ (seq b : Byte) (s : State), s.takesRequests = true →
    let feedByte := fun f => match f with
      | .solo p => byte ((s.logicalOf p).getD 0)
      | .gang g => byte (0x81 + g.val)
    let claim := match s.claim with
      | none => [0x00#8, 0x00#8, 0x00#8]
      | some c => feedByte c.feed :: be16 c.amount
    let page := (s.queue.drop (b.toNat - 1)).take 7
    exec (.readQueue seq [b]) s =
      .next (answered seq 0x06#8 [b]
        (if 1 ≤ b.toNat ∧ b.toNat ≤ 12 then
          0x00#8 :: [byte s.queue.length] ++ claim ++ [byte page.length] ++
            page.flatMap (fun e => feedByte e.feed :: be16 e.amount ++
              [byte (16 * e.base + e.eff), byte (codeOrigin e.origin + (if e.unfit = true then 0x80 else 0))])
        else [0x02#8, 0x05#8]) s)) ∧
  ∀ (seq b : Byte) (s : State), s.takesRequests = true →
    let differs := if s.stagedMap = s.activeMap then 0x00#8 else 0x01#8
    let record := fun (m : MapRec) =>
      allOutlets.map (fun p => byte ((tget m.numbers p).getD 0)) ++
        allGangs.flatMap (fun g =>
          byte ((tget m.gangs g).getD []).length :: ((tget m.gangs g).getD []).map (fun p => byte (p.val + 1)) ++
            List.replicate (4 - ((tget m.gangs g).getD []).length) 0x00#8)
    exec (.readMap seq [b]) s =
      .next (answered seq 0x34#8 [b]
        (if b.toNat = 1 then [0x00#8, b, differs] ++ record s.stagedMap
          else if b.toNat = 2 then [0x00#8, b, differs] ++ record s.activeMap
          else [0x02#8, 0x05#8]) s)

/-! ## Targets and profile checks -/

/-- What the target checks refuse (R146): an outlet request whose byte names no outlet, and a gang request whose byte is
no gang number, with BAD_TARGET; a power request or CLEAR_FAULT with IN_GANG for the logical number of a gang member,
and with BAD_TARGET for a physical index, an undefined gang, ALL or a byte that is no target. -/
def Obligations.TargetsAreChecked : Prop :=
  (∀ (seq b : Byte) (s : State), s.takesRequests = true → namesNoOutlet s b →
    exec (.readOutlet seq [b]) s = .next (answered seq 0x03#8 [b] [0x02#8, 0x03#8] s) ∧
    exec (.readMeter seq [b]) s = .next (answered seq 0x05#8 [b] [0x02#8, 0x03#8] s) ∧
    ∀ id hi lo, exec (.setProfile seq [b, id, hi, lo]) s =
      .next (answered seq 0x20#8 [b, id, hi, lo] [0x02#8, 0x03#8] s)) ∧
  (∀ (seq b : Byte) (s : State), s.takesRequests = true → ¬ (0x81 ≤ b.toNat ∧ b.toNat ≤ 0x84) →
    exec (.readGang seq [b]) s = .next (answered seq 0x04#8 [b] [0x02#8, 0x03#8] s) ∧
    ∀ id hi lo, exec (.setGangProfile seq [b, id, hi, lo]) s =
      .next (answered seq 0x21#8 [b, id, hi, lo] [0x02#8, 0x03#8] s)) ∧
  (∀ (seq b : Byte) (s : State) (p : OutletId), s.takesRequests = true → 1 ≤ b.toNat → b.toNat ≤ 12 →
    s.logicalOf p = some b.toNat → (∀ q, s.logicalOf q = some b.toNat → q = p) → (s.gangOf p).isSome = true →
    exec (.powerOn seq [b]) s = .next (answered seq 0x10#8 [b] [0x02#8, 0x04#8] s) ∧
    exec (.powerOff seq [b]) s = .next (answered seq 0x11#8 [b] [0x02#8, 0x04#8] s) ∧
    exec (.clearFault seq [b]) s = .next (answered seq 0x12#8 [b] [0x02#8, 0x04#8] s)) ∧
  (∀ (seq b : Byte) (s : State), s.takesRequests = true →
    ((1 ≤ b.toNat ∧ b.toNat ≤ 12 ∧ ∀ q, s.logicalOf q ≠ some b.toNat) ∨
      (∃ g : GangId, b.toNat = 0x81 + g.val ∧ s.membersOf g = none) ∨
      ¬ ((1 ≤ b.toNat ∧ b.toNat ≤ 12) ∨ (0x81 ≤ b.toNat ∧ b.toNat ≤ 0x84))) →
    exec (.powerOn seq [b]) s = .next (answered seq 0x10#8 [b] [0x02#8, 0x03#8] s) ∧
    (b.toNat ≠ 0xFF →
      exec (.powerOff seq [b]) s = .next (answered seq 0x11#8 [b] [0x02#8, 0x03#8] s)) ∧
    exec (.clearFault seq [b]) s = .next (answered seq 0x12#8 [b] [0x02#8, 0x03#8] s))

/-- SET_PROFILE and SET_GANG_PROFILE check their pairs in two rounds (R155, R157): the first pair with an identifier of
no field or a value out of range refuses the request with BAD_VALUE; if there is none, the first pair whose field may
not change now refuses it with STATE. The reply carries that pair's identifier, and no pair is written. -/
def Obligations.PairsAreCheckedInRounds : Prop :=
  (∀ (seq b : Byte) (p : OutletId) (s : State) (front back : List (Byte × Nat)) (id : Byte) (v : Nat),
    let l := front ++ (id, v) :: back
    let payload := b :: l.flatMap (fun x => x.1 :: be16 x.2)
    s.takesRequests = true → namesOutlet s b p → l.length ≤ 8 → (∀ x ∈ l, x.2 < 65536) →
    ((∀ x ∈ front, valueInRange x.1.toNat x.2) → ¬ valueInRange id.toNat v →
      exec (.setProfile seq payload) s = .next (answered seq 0x20#8 payload [0x02#8, 0x05#8, id] s)) ∧
    ((∀ x ∈ l, valueInRange x.1.toNat x.2) → (∀ x ∈ front, valueAllowed s p x.1.toNat) →
      ¬ valueAllowed s p id.toNat →
      exec (.setProfile seq payload) s = .next (answered seq 0x20#8 payload [0x02#8, 0x06#8, id] s))) ∧
  ∀ (seq : Byte) (g : GangId) (s : State) (front back : List (Byte × Nat)) (id : Byte) (v : Nat),
    let l := front ++ (id, v) :: back
    let payload := byte (0x81 + g.val) :: l.flatMap (fun x => x.1 :: be16 x.2)
    let fixed := (s.membersOf g).isSome = true ∧
      ((s.gang g).own.state = .retryWait ∨ ∃ c d, (s.gang g).own.state = .stopping c d)
    s.takesRequests = true → l.length ≤ 4 → (∀ x ∈ l, x.2 < 65536) →
    ((∀ x ∈ front, gangValueInRange x.1.toNat x.2) → ¬ gangValueInRange id.toNat v →
      exec (.setGangProfile seq payload) s = .next (answered seq 0x21#8 payload [0x02#8, 0x05#8, id] s)) ∧
    ((∀ x ∈ l, gangValueInRange x.1.toNat x.2) → (∀ x ∈ front, x.1.toNat ≠ 2) → id.toNat = 2 → fixed →
      exec (.setGangProfile seq payload) s = .next (answered seq 0x21#8 payload [0x02#8, 0x06#8, id] s))

/-- An accepted SET_PROFILE or SET_GANG_PROFILE writes all its pairs, a later pair of a field over an earlier one, and
leaves every other field (R156, R157). A trip mode pair closes the pair window; an overdraw check set OFF cancels the
overdraw window, and an overdraw window pair restarts a running one (R4). That a check set OFF by a pair which a later pair
overrides cancels the window all the same is the model's choice (log entry 29). A request or a priority that stands in a
queue entry is left to the next statement. -/
def Obligations.ProfilePairsAreWritten : Prop :=
  (∀ (seq b : Byte) (p : OutletId) (s : State) (l : List (Byte × Nat)),
    let payload := b :: l.flatMap (fun x => x.1 :: be16 x.2)
    let last := fun (id : Nat) => (l.reverse.find? (fun x => decide (x.1.toNat = id))).map Prod.snd
    s.takesRequests = true → namesOutlet s b p → 1 ≤ l.length → l.length ≤ 8 →
    (∀ x ∈ l, valueInRange x.1.toNat x.2 ∧ valueAllowed s p x.1.toNat) →
    (s.outletState p = .mapped .queued →
      ∀ x ∈ l, x.1.toNat ≠ 1 ∧ (s.feedOf p = some (.solo p) → x.1.toNat ≠ 2)) →
    ∃ r : Profile,
      (∀ id, 1 ≤ id → id ≤ 16 → profileValue id r = (last id).getD (profileValue id (s.outlet p).profile)) ∧
      exec (.setProfile seq payload) s =
        .next (answered seq 0x20#8 payload [0x00#8, byte (p.val + 1), byte l.length]
          (s.setOutlet p
            { s.outlet p with
              profile := r
              pairWindow := if (last 7).isSome = true then none else (s.outlet p).pairWindow
              overdrawWindow :=
                if ∃ x ∈ l, x.1.toNat = 13 ∧ x.2 = 0 then none
                else (s.outlet p).overdrawWindow.map (fun w => (last 15).getD w) }))) ∧
  ∀ (seq : Byte) (g : GangId) (s : State) (l : List (Byte × Nat)),
    let payload := byte (0x81 + g.val) :: l.flatMap (fun x => x.1 :: be16 x.2)
    let last := fun (id : Nat) => (l.reverse.find? (fun x => decide (x.1.toNat = id))).map Prod.snd
    s.takesRequests = true → 1 ≤ l.length → l.length ≤ 4 → (∀ x ∈ l, gangValueInRange x.1.toNat x.2) →
    ((s.membersOf g).isSome = true → ∀ x ∈ l,
      (x.1.toNat = 2 → (s.gang g).own.state ≠ .retryWait ∧ ∀ c d, (s.gang g).own.state ≠ .stopping c d) ∧
      (x.1.toNat = 1 → (s.gang g).own.state ≠ .queued)) →
    ∃ r : GangProfile,
      (∀ id, 1 ≤ id → id ≤ 4 → gangValue id r = (last id).getD (gangValue id (s.gang g).profile)) ∧
      exec (.setGangProfile seq payload) s =
        .next (answered seq 0x21#8 payload [0x00#8, byte (g.val + 1), byte l.length]
          (s.setGang g { s.gang g with profile := r }))

/-- A write to the request of an outlet of a queued feed (R48) changes its entry's amount to the feed's new request
amount and sets its unfit flag; a claim follows the amount, or is dropped when the entry has become unfit, which alone
runs a pass. A priority written on a queued solo feed or gang (R49) becomes the entry's base and effective priority,
restarts or stops its aging timer, moves the entry to the place the order gives it and runs a pass. -/
def Obligations.QueuedEntriesFollowProfileWrites : Prop :=
  (∀ (seq b : Byte) (p : OutletId) (f : Feed) (v : Nat) (s : State) (front back : List Entry) (e : Entry),
    s.takesRequests = true → powerOk s → orderOk s → namesOutlet s b p → s.feedOf p = some f → 1 ≤ v → v ≤ 1000 →
    s.queue = front ++ e :: back → e.feed = f →
    let amount := s.requestAmount f - (s.outlet p).profile.request + v
    let unfit := decide (s.budget < amount)
    let u := { s.setOutlet p { s.outlet p with profile := { (s.outlet p).profile with request := v } } with
      queue := front ++ { e with amount := amount, unfit := unfit } :: back }
    let t := if s.claim.map Claim.feed = some f then
        (if s.budget < amount then pass { u with claim := none }
          else { u with claim := some { feed := f, amount := amount } })
      else u
    exec (.setProfile seq (b :: 0x01#8 :: be16 v)) s =
      .next (answered seq 0x20#8 (b :: 0x01#8 :: be16 v) [0x00#8, byte (p.val + 1), 0x01#8] t)) ∧
  (∀ (seq b : Byte) (p : OutletId) (v : Nat) (s : State) (e : Entry),
    s.takesRequests = true → powerOk s → namesOutlet s b p → s.feedOf p = some (.solo p) → v ≤ 7 →
    e ∈ s.queue → e.feed = .solo p →
    let u := s.setOutlet p { s.outlet p with profile := { (s.outlet p).profile with priority := v } }
    let e' := { e with
      base := v, eff := v, aging := if 0 < s.policy.aging ∧ v < 7 then some s.policy.aging else none }
    exec (.setProfile seq (b :: 0x02#8 :: be16 v)) s =
      .next (answered seq 0x20#8 (b :: 0x02#8 :: be16 v) [0x00#8, byte (p.val + 1), 0x01#8]
        (pass { u with queue := insertBy entryBefore e' (s.queue.filter (fun x => decide (x.feed ≠ .solo p))) }))) ∧
  ∀ (seq : Byte) (g : GangId) (v : Nat) (s : State) (e : Entry),
    s.takesRequests = true → powerOk s → v ≤ 7 → e ∈ s.queue → e.feed = .gang g →
    let u := s.setGang g { s.gang g with profile := { (s.gang g).profile with priority := v } }
    let e' := { e with
      base := v, eff := v, aging := if 0 < s.policy.aging ∧ v < 7 then some s.policy.aging else none }
    exec (.setGangProfile seq (byte (0x81 + g.val) :: 0x01#8 :: be16 v)) s =
      .next (answered seq 0x21#8 (byte (0x81 + g.val) :: 0x01#8 :: be16 v) [0x00#8, byte (g.val + 1), 0x01#8]
        (pass { u with queue := insertBy entryBefore e' (s.queue.filter (fun x => decide (x.feed ≠ .gang g))) }))

/-! ## Power requests -/

/-- POWER_ON on a feed (R150, R151): the first row of R150 that holds gives the answer. Accepted, it binds the lowest
FREE slot (R148); from OFF the feed enters QUEUED with a HOST entry, its STATE notice and a pass, and from any other
state nothing else happens. The reply carries the feed's state after the request. -/
def Obligations.PowerOnAnswersByRow : Prop :=
  ∀ (seq b : Byte) (f : Feed) (s : State), s.takesRequests = true → namesFeed s b f →
    let st := s.feedState f
    let refusedBy := fun (r : Byte) => exec (.powerOn seq [b]) s = .next (answered seq 0x10#8 [b] [0x02#8, r] s)
    if s.eoff = true then refusedBy 0x0A#8
    else if st = .latched then refusedBy 0x09#8
    else if offStopping st = true then refusedBy 0x07#8
    else if (s.feedRec f).op ≠ none then refusedBy 0x07#8
    else if s.startModeOf f = .onPresence ∧ ∀ p ∈ s.outletsOf f, (s.outlet p).presence = false then refusedBy 0x0B#8
    else if st = .on then
      exec (.powerOn seq [b]) s = .next (answered seq 0x10#8 [b] [0x00#8, 0x00#8, 0x01#8, 0x05#8] s)
    else if ∀ n, s.slot n ≠ .free then refusedBy 0x08#8
    else ∃ n, lowestFree s n ∧
      let u := bound f n { seq := seq, kind := .powerOn, target := b } s
      let t := if st = .off then pass (raise (subjectOf f) .state (enterQueued f .host u)) else u
      exec (.powerOn seq [b]) s =
        .next (answered seq 0x10#8 [b] [0x01#8, byte (n.val + 1), 0x00#8, codeFeedState (t.feedState f)] t)

/-- POWER_OFF on a feed (R152), by the feed's state: nothing in OFF and LATCHED; withdrawal and a pass in QUEUED; OFF
with the backoff cancelled in RETRY_WAIT; a stop with cause HOST in STARTING and ON; in STOPPING a destination turned as
R15 gives. A pending POWER_ON completes CANCELLED. The stops bind the lowest FREE slot, which is looked for before any
effect; without one the answer is NO_SLOT, and BUSY with a POWER_OFF already bound. The order of the notices in one event
is read from the order of the rule's words (log entry 12). -/
def Obligations.PowerOffActsByState : Prop :=
  ∀ (seq b : Byte) (f : Feed) (s : State), s.takesRequests = true → mapsOk s → namesFeed s b f →
    let answer := fun (reply : List Byte) (t : State) =>
      exec (.powerOff seq [b]) s = .next (answered seq 0x11#8 [b] reply t)
    let op : SlotOp := { seq := seq, kind := .powerOff, target := b }
    match s.feedState f with
    | .off => answer [0x00#8, 0x00#8, 0x02#8, 0x02#8] s
    | .latched => answer [0x00#8, 0x00#8, 0x02#8, 0x08#8] s
    | .queued =>
      let t := pass (completeOp .powerOn .cancelled f (raise (subjectOf f) .state (withdrawn f s)))
      answer [0x00#8, 0x00#8, 0x00#8, codeFeedState (t.feedState f)] t
    | .retryWait =>
      answer [0x00#8, 0x00#8, 0x00#8, 0x02#8]
        (completeOp .powerOn .cancelled f
          (raise (subjectOf f) .state (updFeed f (fun r => { r with state := .off, backoff := none }) s)))
    | .stopping c d =>
      if s.pendingKind f = some .powerOff then answer [0x02#8, 0x07#8] s
      else if ∀ n, s.slot n ≠ .free then answer [0x02#8, 0x08#8] s
      else ∃ n, lowestFree s n ∧
        answer [0x01#8, byte (n.val + 1), 0x00#8, 0x06#8]
          (bound f n op
            (completeOp .powerOn .cancelled f
              (updFeed f (fun r => { r with state := .stopping c (destOffBound d) }) s)))
    | _ =>
      if ∀ n, s.slot n ≠ .free then answer [0x02#8, 0x08#8] s
      else ∃ n t, lowestFree s n ∧ afterStop f .host .off (completeOp .powerOn .cancelled f s) t ∧
        answer [0x01#8, byte (n.val + 1), 0x00#8, 0x06#8] (bound f n op (raise (subjectOf f) .state t))

/-- POWER_OFF with target ALL (R153) turns every feed off in one event: running feeds stop with cause HOST, the queue is
emptied, every pending POWER_ON completes CANCELLED and leaves its feed, and a pending POWER_OFF stays bound. It binds no
slot and answers the number of feeds it changed. The feeds raise their notices in ascending order of their lowest outlet:
STATE if the state changed, then COMPLETION of the slot whose POWER_ON completed (R22, R149). -/
def Obligations.PowerOffAllTurnsEveryFeedOff : Prop :=
  ∀ (seq : Byte) (s : State), s.takesRequests = true → powerOk s → slotsOk s →
    ∃ t order, feedsInOrder s order ∧ allOff .host .cancelled s t ∧
      t.notices = (raised (order.flatMap (offNotices s)) s).notices ∧
      t.alertN = (raised (order.flatMap (offNotices s)) s).alertN ∧
      exec (.powerOffAll seq) s =
        .next (answered seq 0x11#8 [0xFF#8]
          [0x00#8, byte (order.filter (fun f => offChanges (s.feedState f))).length] t)

/-- CLEAR_FAULT (R115, R116, R128, R158): a LATCHED feed enters OFF with count 0 and a STATE notice; in another state
the count alone changes, to 1 in RETRY_WAIT and on the way there, to 0 elsewhere. The reply carries the state and the
count after the request. -/
def Obligations.ClearFaultSetsTheCount : Prop :=
  ∀ (seq b : Byte) (f : Feed) (s : State), s.takesRequests = true → namesFeed s b f →
    let st := s.feedState f
    let n := if retryBound st = true then 1 else 0
    (st = .latched →
      exec (.clearFault seq [b]) s =
        .next (answered seq 0x12#8 [b] [0x00#8, 0x02#8, 0x00#8]
          (raise (subjectOf f) .state (updFeed f (fun r => { r with state := .off, count := 0 }) s)))) ∧
    (st ≠ .latched →
      exec (.clearFault seq [b]) s =
        .next (answered seq 0x12#8 [b] [0x00#8, codeFeedState st, byte n]
          (updFeed f (fun r => { r with count := n }) s)))

/-- RESTART (R159, R190) is answered DONE and its reply transmitted; no further request is taken and no byte received,
and the end of that transmission is a hard reset that ends at once and samples the BAUD strap (R178, R191, R199). That a
RESTART given as a command is transmitted at once, and that LINE_LEVEL_CHANGE gives the strap's level, are the model's
choices (log entries 1 and 6). -/
def Obligations.RestartEndsInAReset : Prop :=
  (∀ (seq : Byte) (s : State), s.takesRequests = true →
    let reply := frameBytes seq 0xD0#8 [0x00#8]
    exec (.restart seq []) s =
      .next (answered seq 0x50#8 [] [0x00#8]
        { s with link := { s.link with restarting := true, tx := some reply } })) ∧
  (∀ (c : Instr) (s : State), s.link.restarting = true → s.inReset = false → (requestOf c).isSome = true →
    exec c s = .next s) ∧
  (∀ (b : Byte) (h : Bool) (s : State), s.link.restarting = true → s.inReset = false →
    exec (.rxByte b h) s = .next (driveAux s)) ∧
  (∀ (level : Level) (s : State), s.inReset = false →
    exec (.lineLevelChange .baud level) s = .next (driveAux { s with link := { s.link with baud := level } })) ∧
  ∀ s : State, s.inReset = false → s.link.restarting = true → s.link.tx.isSome = true →
    ∃ t, exec .answerTransmitted s = .next t ∧ afterReset s t s.link.baud

/-! ## Settings of the part -/

/-- SET_SUPPLY (R37) writes the fields its mask names, S1 before S2, with a SUPPLY notice for each capacity that
changes, recomputes the budget once, and answers the budget after the event and the number of feeds shed. A value out of
range, or a mask bit that names no field in a request of the length its named bits give, refuses it with BAD_VALUE (R201,
R202; the order of the two checks is log entry 20). -/
def Obligations.SetSupplyWritesAndRecomputes : Prop :=
  (∀ (seq mask : Byte) (rest : List Byte) (s : State), s.takesRequests = true → 8 ≤ mask.toNat →
    rest.length = 2 * bitsSet mask →
    exec (.setSupply seq (mask :: rest)) s = .next (answered seq 0x22#8 (mask :: rest) [0x02#8, 0x05#8] s)) ∧
  ∀ (seq : Byte) (c1 c2 r : Option Nat) (s : State),
    (∀ v ∈ c1, v < 65536) → (∀ v ∈ c2, v < 65536) → (∀ v ∈ r, v < 65536) → s.takesRequests = true →
    let mask := byte ((if c1.isSome then 1 else 0) + (if c2.isSome then 2 else 0) + (if r.isSome then 4 else 0))
    let payload := mask :: (c1.elim [] be16 ++ c2.elim [] be16 ++ r.elim [] be16)
    let write := fun (k : SupplyId) (v : Option Nat) (u : State) =>
      match v with
      | some c =>
        if (u.supply k).capacity = c then u
        else raise (.supply k) .supply (u.setSupply k { u.supply k with capacity := c })
      | none => u
    let u := write 1 c2 (write 0 c1 s)
    let t := recompute { u with reserve := r.getD s.reserve }
    exec (.setSupply seq payload) s =
      if (∀ v ∈ c1, v ≤ 4000) ∧ (∀ v ∈ c2, v ≤ 4000) ∧ ∀ v ∈ r, v ≤ 1000 then
        .next (answered seq 0x22#8 payload ([0x00#8] ++ be16 t.1.budget ++ [byte t.2]) t.1)
      else .next (answered seq 0x22#8 payload [0x02#8, 0x05#8] s)

/-- SET_POLICY (R63, R64) writes the values its mask names; a changed aging period restarts the timers of the entries
below 7 or stops every timer, preemption set from ON to OFF drops the claim, and a changed value runs a pass. A value out
of range, or a mask bit that names no field in a request of the length its named bits give, refuses it with BAD_VALUE
(R201, R202; the order of the two checks is log entry 20). -/
def Obligations.SetPolicyWritesWithConsequences : Prop :=
  (∀ (seq mask : Byte) (rest : List Byte) (s : State), s.takesRequests = true → 8 ≤ mask.toNat →
    rest.length = bitsSet mask →
    exec (.setPolicy seq (mask :: rest)) s = .next (answered seq 0x23#8 (mask :: rest) [0x02#8, 0x05#8] s)) ∧
  ∀ (seq : Byte) (m p a : Option Nat) (s : State),
    (∀ v ∈ m, v < 256) → (∀ v ∈ p, v < 256) → (∀ v ∈ a, v < 256) → s.takesRequests = true →
    let mask := byte ((if m.isSome then 1 else 0) + (if p.isSome then 2 else 0) + (if a.isSome then 4 else 0))
    let payload := mask :: ((m.toList ++ p.toList ++ a.toList).map byte)
    let new : Policy :=
      { mode := m.elim s.policy.mode (fun v => if v = 1 then .fitFirst else .strict)
        preemption := p.elim s.policy.preemption (fun v => decide (v = 1))
        aging := a.getD s.policy.aging }
    let u := { s with
      policy := new
      queue := if new.aging = s.policy.aging then s.queue
        else s.queue.map (fun e =>
          if new.aging = 0 then { e with aging := none }
          else if e.eff < 7 then { e with aging := some new.aging } else e)
      claim := if s.policy.preemption = true ∧ new.preemption = false then none else s.claim }
    exec (.setPolicy seq payload) s =
      if (∀ v ∈ m, v ≤ 1) ∧ (∀ v ∈ p, v ≤ 1) ∧ ∀ v ∈ a, v ≤ 60 then
        .next (answered seq 0x23#8 payload
          [0x00#8, if new.mode = .fitFirst then 0x01#8 else 0x00#8, if new.preemption = true then 0x01#8 else 0x00#8,
           byte new.aging]
          (if new = s.policy then u else pass u))
      else .next (answered seq 0x23#8 payload [0x02#8, 0x05#8] s)

/-- SET_LINE (R198): the line's present function again changes nothing. Another ends the old one and starts the new one
unqualified, its filter running if it is an input and the line is low; leaving the set of sources can release EOFF
(R195) or HOLD (R196) within the request. A line, function or outlet out of range is refused with BAD_VALUE. The level
found is the one recorded from outside, also on a line that the part drove until then (the model's choice, log
entry 17). -/
def Obligations.SetLineChangesTheFunction : Prop :=
  (∀ (seq : Byte) (k : AuxId) (fn : LineFn) (s : State), s.takesRequests = true →
    let payload := [byte k.val, codeLineFn fn, codeLineOutlet fn]
    let old := s.auxLine k
    let isInput := decide (fn = .eoffIn ∨ fn = .holdIn)
    let u := s.setAux k
      { fn := fn
        input := { level := old.input.level, active := false
                   filter := if isInput = true ∧ old.input.level = .low then some 1 else none }
        out := none }
    let t :=
      if old.fn = fn then s
      else if s.eoff = true ∧ u.eoff = false then pass (releaseEoff u)
      else if s.hold = true ∧ u.hold = false then pass u
      else u
    let lines := if t.eoff = true then (if t.hold = true then 0x03#8 else 0x01#8)
      else (if t.hold = true then 0x02#8 else 0x00#8)
    exec (.setLine seq payload) s =
      .next (answered seq 0x24#8 payload [0x00#8, byte k.val, codeLineFn fn, codeLineOutlet fn, lines] t)) ∧
  ∀ (seq line fn outlet : Byte) (s : State), s.takesRequests = true →
    (3 < line.toNat ∨ 6 < fn.toNat ∨ (fn.toNat = 6 ∧ ¬ (1 ≤ outlet.toNat ∧ outlet.toNat ≤ 12)) ∨
      (fn.toNat ≠ 6 ∧ outlet.toNat ≠ 0)) →
    exec (.setLine seq [line, fn, outlet]) s =
      .next (answered seq 0x24#8 [line, fn, outlet] [0x02#8, 0x05#8] s)

/-! ## The map -/

/-- Editing the staged map: STAGE_MAP (R134) writes its pairs in list order and answers how many outlets are enabled
after it; STAGE_GANG (R135) replaces one gang's list by the outlets named, ascending and each once, and refuses a list of
one; DISCARD_MAP (R136) copies the active map. Nothing else changes. A physical outlet, logical number or gang number out
of range refuses the whole request with BAD_VALUE. -/
def Obligations.StagedMapIsEdited : Prop :=
  (∀ (seq : Byte) (l : List (Byte × Byte)) (s : State), s.takesRequests = true → l.length ≤ 12 →
    (∃ x ∈ l, ¬ (1 ≤ x.1.toNat ∧ x.1.toNat ≤ 12) ∨ 12 < x.2.toNat) →
    let payload := l.flatMap (fun x => [x.1, x.2])
    exec (.stageMap seq payload) s = .next (answered seq 0x30#8 payload [0x02#8, 0x05#8] s)) ∧
  (∀ (seq g : Byte) (l : List Byte) (s : State), s.takesRequests = true → l.length ≤ 4 →
    (¬ (1 ≤ g.toNat ∧ g.toNat ≤ 4) ∨ ∃ b ∈ l, ¬ (1 ≤ b.toNat ∧ b.toNat ≤ 12)) →
    exec (.stageGang seq (g :: l)) s = .next (answered seq 0x31#8 (g :: l) [0x02#8, 0x05#8] s)) ∧
  (∀ (seq : Byte) (l : List (OutletId × Option Nat)) (s : State), s.takesRequests = true → 1 ≤ l.length →
    l.length ≤ 12 → (∀ x ∈ l, ∀ n ∈ x.2, 1 ≤ n ∧ n ≤ 12) →
    let payload := l.flatMap (fun x => [byte (x.1.val + 1), byte (x.2.getD 0)])
    ∃ m : MapRec, m.gangs = s.stagedMap.gangs ∧
      (∀ p, tget m.numbers p =
        ((l.reverse.find? (fun x => decide (x.1 = p))).map Prod.snd).getD (tget s.stagedMap.numbers p)) ∧
      exec (.stageMap seq payload) s =
        .next (answered seq 0x30#8 payload
          [0x00#8, byte (allOutlets.filter (fun p => (tget m.numbers p).isSome)).length]
          { s with stagedMap := m })) ∧
  (∀ (seq : Byte) (g : GangId) (l : List OutletId) (s : State), s.takesRequests = true → l.length ≤ 4 →
    let payload := byte (g.val + 1) :: l.map (fun p => byte (p.val + 1))
    (l.length = 1 → exec (.stageGang seq payload) s =
      .next (answered seq 0x31#8 payload [0x02#8, 0x05#8] s)) ∧
    (l.length ≠ 1 → ∃ ms : List OutletId, ms.Pairwise (· < ·) ∧ (∀ p, p ∈ ms ↔ p ∈ l) ∧
      exec (.stageGang seq payload) s =
        .next (answered seq 0x31#8 payload
          ([0x00#8, byte (g.val + 1), byte ms.length] ++ ms.map (fun p => byte (p.val + 1)))
          { s with stagedMap :=
            { s.stagedMap with gangs := tset s.stagedMap.gangs g (if ms = [] then none else some ms) } }))) ∧
  ∀ (seq : Byte) (s : State), s.takesRequests = true →
    exec (.discardMap seq []) s =
      .next (answered seq 0x33#8 [] [0x00#8] { s with stagedMap := s.activeMap })

/-- An apply that passes the quiescence test (R138) and every check of R139 makes the staged map active, gives each
outlet and each gang what R140 and R141 give, raises MAP, then STATE for the outlets that enter or leave UNMAPPED and for
the gangs whose membership changes (R142), and changes nothing else. -/
def Obligations.ApplyActivatesTheStagedMap : Prop :=
  ∀ (seq : Byte) (s : State), s.takesRequests = true → mapsOk s →
    (∀ p, s.outletState p = .unmapped ∨ s.outletState p = .mapped .off ∨ s.outletState p = .mapped .latched) →
    (∀ n op f, s.slot n ≠ .pending op f) → numbersOk s.stagedMap → gangsOk s.stagedMap →
    (∀ g p, s.stagedMap.hasMember p g = true → s.outletState p = .mapped .latched →
      s.activeMap.hasMember p g = true) →
    let on := fun p => (tget s.stagedMap.numbers p).isSome
    let was := fun p => (tget s.activeMap.numbers p).isSome
    let changed := fun g => decide (tget s.stagedMap.gangs g ≠ tget s.activeMap.gangs g)
    let latchedIn := fun g => ∃ p, s.stagedMap.hasMember p g = true ∧ s.outletState p = .mapped .latched
    ∃ t,
      exec (.applyMap seq []) s = .next (answered seq 0x32#8 [] [0x00#8] t) ∧
      (∀ p, { t.outlet p with own := (s.outlet p).own, lastCause := (s.outlet p).lastCause } = s.outlet p) ∧
      (∀ p, (t.outlet p).lastCause = if on p = was p then (s.outlet p).lastCause else none) ∧
      (∀ p, on p = false → t.outletState p = .unmapped ∧ t.countOf p = 0) ∧
      (∀ p, on p = true → was p = false → s.stagedMap.gangOf p = none →
        t.outletState p = .mapped .off ∧ t.countOf p = 0) ∧
      (∀ p, on p = true → was p = true → s.stagedMap.gangOf p = none →
        t.outletState p = s.outletState p ∧
        t.countOf p = if s.activeMap.gangOf p = none then (s.outlet p).own.count else 0) ∧
      (∀ p g, s.stagedMap.gangOf p = some g →
        t.outletState p = .mapped (t.gang g).own.state ∧ t.countOf p = 0) ∧
      (∀ g, { t.gang g with
          own := (s.gang g).own, lastMember := (s.gang g).lastMember, timedOut := (s.gang g).timedOut } = s.gang g) ∧
      (∀ g, changed g = false → t.gang g = s.gang g) ∧
      (∀ g, changed g = true → (t.gang g).own.count = 0 ∧ (t.gang g).own.op = none ∧
        ((¬ latchedIn g) → (t.gang g).own.state = .off ∧ (t.gang g).lastMember = none) ∧
        (latchedIn g → (t.gang g).own.state = .latched ∧
          (t.gang g).lastMember =
            (s.gang g).lastMember.bind (fun p => if s.stagedMap.hasMember p g then some p else none))) ∧
      t = { s with
        outlets := t.outlets, gangs := t.gangs, activeMap := s.stagedMap, alertN := .low
        notices := ((allGangs.filter changed).map Subject.gang).foldl (fun ns x => raiseIn x .state ns)
          (((allOutlets.filter (fun p => decide (on p ≠ was p))).map Subject.outlet).foldl
            (fun ns x => raiseIn x .state ns) (raiseIn .part .map s.notices)) }

/-- The refusals of APPLY_MAP: OUTLETS_ACTIVE first, when a mapped outlet is neither OFF nor LATCHED or a slot is
PENDING (R138); then MAP_INVALID with the first check that fails and the lowest offending item (R139). -/
def Obligations.ApplyChecksInOrder : Prop :=
  ∀ (seq : Byte) (s : State), s.takesRequests = true →
    let m := s.stagedMap
    let refusedBy := fun (reply : List Byte) => exec (.applyMap seq []) s = .next (answered seq 0x32#8 [] reply s)
    let quiet := (∀ p, s.outletState p = .unmapped ∨ s.outletState p = .mapped .off ∨
        s.outletState p = .mapped .latched) ∧ ∀ n op f, s.slot n ≠ .pending op f
    let bad1 := fun p => ∃ n, tget m.numbers p = some n ∧
      (m.enabled.length < n ∨ ∃ q, q ≠ p ∧ tget m.numbers q = some n)
    let bad2 := fun g => ∃ ms, tget m.gangs g = some ms ∧ ms.dedup.length < 2
    let bad3 := fun g p => m.hasMember p g = true ∧
      (tget m.numbers p = none ∨ ∃ h, h < g ∧ m.hasMember p h = true)
    let bad4 := fun g p => m.hasMember p g = true ∧ s.outletState p = .mapped .latched ∧
      s.activeMap.hasMember p g = false
    let least := fun (bad : GangId → OutletId → Prop) (g : GangId) (p : OutletId) =>
      bad g p ∧ (∀ q, q < p → ¬ bad g q) ∧ ∀ h, h < g → ∀ q, ¬ bad h q
    (¬ quiet → refusedBy [0x02#8, 0x0D#8]) ∧
    (∀ p, quiet → bad1 p → (∀ q, q < p → ¬ bad1 q) →
      refusedBy [0x02#8, 0x0C#8, 0x01#8, 0x00#8, byte (p.val + 1)]) ∧
    (∀ g, quiet → (∀ p, ¬ bad1 p) → bad2 g → (∀ h, h < g → ¬ bad2 h) →
      refusedBy [0x02#8, 0x0C#8, 0x02#8, byte (g.val + 1), 0x00#8]) ∧
    (∀ g p, quiet → (∀ q, ¬ bad1 q) → (∀ h, ¬ bad2 h) → least bad3 g p →
      refusedBy [0x02#8, 0x0C#8, 0x03#8, byte (g.val + 1), byte (p.val + 1)]) ∧
    (∀ g p, quiet → (∀ q, ¬ bad1 q) → (∀ h, ¬ bad2 h) → (∀ h q, ¬ bad3 h q) → least bad4 g p →
      refusedBy [0x02#8, 0x0C#8, 0x04#8, byte (g.val + 1), byte (p.val + 1)])

/-! ## Notices -/

/-- FETCH_NOTICES (R171 to R173, R176). A number of a DELIVERED notice removes the DELIVERED notices from the first
delivered through it and frees the slots they stand on; another number removes nothing. Then the OPEN notices whose
subject has no DELIVERED one are delivered in list order up to the limit, each with the next number and its snapshot, and
keep their places. ALERT_N is released when no OPEN notice is left. The reply (R174) carries what was removed, what is
left, the number of the DELIVERED notice delivered last, 0 when none is left, and the notices delivered. A limit above 4 is
refused. The order of deliveries is read from the numbers (log entry 14). -/
def Obligations.FetchAcknowledgesAndDelivers : Prop :=
  (∀ (seq : Byte) (ack : Nat) (limit : Nat) (s : State), s.takesRequests = true → ack < 65536 → limit ≤ 4 →
    let payload := be16 ack ++ [byte limit]
    let number := fun (n : Notice) => match n.status with
      | .delivered k _ => some k
      | .opened => none
    let age := fun (k : Nat) => (s.nextNumber + 65535 - k - 1) % 65535 + 1
    let taken := ∃ n ∈ s.notices, number n = some ack
    let gone := fun (n : Notice) => decide (taken ∧ ∃ k, number n = some k ∧ age ack ≤ age k)
    let kept := s.notices.filter (fun n => !gone n)
    let ready := fun (n : Notice) => decide (n.status = .opened ∧ ∀ m ∈ kept, m.subject = n.subject → m.status = .opened)
    let before := fun (i : Nat) => ((kept.take i).filter ready).length
    let next := fun (j : Nat) => Nat.iterate (fun k => if k = 65535 then 1 else k + 1) j s.nextNumber
    ∃ t reply,
      exec (.fetchNotices seq payload) s = .next (answered seq 0x40#8 payload reply t) ∧
      (∀ n, t.slot n = if ∃ x ∈ s.notices, gone x = true ∧ x.subject = .slot n then .free else s.slot n) ∧
      t.notices.length = kept.length ∧
      (∀ i n, kept[i]? = some n →
        t.notices[i]? =
          if ready n = true ∧ before i < limit then
            some { n with status := .delivered (next (before i))
                            (State.snapshot { s with slots := t.slots } n.subject) }
          else some n) ∧
      t.nextNumber = next (min limit (kept.filter ready).length) ∧
      t.alertN = (if ∃ n ∈ t.notices, n.status = .opened then .low else .high) ∧
      t = { s with slots := t.slots, notices := t.notices, nextNumber := t.nextNumber, alertN := t.alertN } ∧
      reply.take 5 =
        [0x00#8, if taken then 0x00#8 else 0x01#8, byte (s.notices.filter gone).length,
         byte (t.notices.filter (fun n => decide (n.status = .opened))).length,
         byte (t.notices.filter (fun n => decide (n.status ≠ .opened))).length] ∧
      (∃ last, (reply.drop 5).take 2 = be16 last ∧
        ((∀ n ∈ t.notices, n.status = .opened) → last = 0) ∧
        ((∃ n ∈ t.notices, n.status ≠ .opened) →
          let ageNow := fun (k : Nat) => (t.nextNumber + 65535 - k - 1) % 65535 + 1
          (∃ n ∈ t.notices, number n = some last) ∧
          ∀ n ∈ t.notices, ∀ k, number n = some k → ageNow last ≤ ageNow k)) ∧
      reply.drop 7 =
        byte (min limit (kept.filter ready).length) ::
          ((t.notices.filter (fun n => decide (n ∉ kept))).flatMap Notice.bytes)) ∧
  ∀ (seq hi lo limit : Byte) (s : State), s.takesRequests = true → 4 < limit.toNat →
    exec (.fetchNotices seq [hi, lo, limit]) s =
      .next (answered seq 0x40#8 [hi, lo, limit] [0x02#8, 0x05#8] s)

/-! ## The Host Link -/

/-- One byte at the receiver (R178, R180 to R184). While the transmitter is busy or nothing waits, each stage collects
its byte and restarts the inter-byte timer; a LEN above 48 ends the frame with a LENGTH NAK of SEQ 0, and a byte with a
framing error is discarded. The last byte of a frame has it examined: a valid frame enters the lowest free place and is
appended to the answer queue; with a CRC that does not match, or with both places occupied, a NAK is appended when fewer
than two wait. On an idle link a NAK is transmitted at once (R185). That a byte carries its stop bit is the command's form (log entry 23). -/
def Obligations.ReceiverCollectsAndExamines : Prop :=
  (∀ (b : Byte) (s : State), s.inReset = false → s.link.restarting = false →
    let took := fun (l : LinkRec) => exec (.rxByte b true) s = .next (driveAux { s with link := l })
    let collect := fun (st : RxStage) => took { s.link with rx := st, rxTimer := some 5 }
    exec (.rxByte b false) s = .next (driveAux s) ∧
    (s.link.tx.isSome = true ∨ s.link.answers = [] →
      (s.link.rx = .hunting → b.toNat = 0xB4 → collect .headerLen) ∧
      (s.link.rx = .hunting → b.toNat ≠ 0xB4 → took s.link) ∧
      (s.link.rx = .headerLen → b.toNat ≤ 48 → collect (.headerSeq b)) ∧
      (∀ len, s.link.rx = .headerSeq len → collect (.headerKind len b)) ∧
      (∀ len seq, s.link.rx = .headerKind len seq → len.toNat = 0 → collect (.checkHigh len seq b [])) ∧
      (∀ len seq, s.link.rx = .headerKind len seq → len.toNat ≠ 0 → collect (.payload len seq b [])) ∧
      (∀ len seq kind got, s.link.rx = .payload len seq kind got → got.length + 1 < len.toNat →
        collect (.payload len seq kind (got ++ [b]))) ∧
      (∀ len seq kind got, s.link.rx = .payload len seq kind got → len.toNat ≤ got.length + 1 →
        collect (.checkHigh len seq kind (got ++ [b]))) ∧
      (∀ len seq kind got, s.link.rx = .checkHigh len seq kind got → collect (.checkLow len seq kind got b))) ∧
    (s.link.rx = .headerLen → 48 < b.toNat →
      (s.link.tx.isSome = true → s.link.nakCount < 2 →
        took { s.link with rx := .hunting, rxTimer := none, answers := s.link.answers ++ [.nak .length 0x00#8] }) ∧
      (s.link.tx.isSome = true → 2 ≤ s.link.nakCount → took { s.link with rx := .hunting, rxTimer := none }) ∧
      (s.link.tx = none → s.link.answers = [] →
        took { s.link with
          rx := .hunting, rxTimer := none, answers := [.nak .length 0x00#8]
          tx := some (frameBytes 0x00#8 0xFF#8 [0x01#8]) }))) ∧
  (∀ (b len seq kind high : Byte) (got : List Byte) (s : State),
    s.inReset = false → s.link.restarting = false → s.link.tx = none → s.link.answers = [] →
    s.link.rx = .checkLow len seq kind got high → high ++ b ≠ frameCrc seq kind got →
    exec (.rxByte b true) s =
      .next (driveAux { s with link := { s.link with
        rx := .hunting, rxTimer := none, answers := [.nak .crc seq]
        tx := some (frameBytes seq 0xFF#8 [0x03#8]) } })) ∧
  ∀ (b len seq kind high : Byte) (got : List Byte) (s : State),
    s.inReset = false → s.link.restarting = false → s.link.tx.isSome = true →
    s.link.rx = .checkLow len seq kind got high →
    let f : Frame := { seq := seq, kind := kind, payload := got, crc := high ++ b }
    let idle := { s.link with rx := .hunting, rxTimer := none }
    let took := fun (l : LinkRec) => exec (.rxByte b true) s = .next (driveAux { s with link := l })
    let nak := fun (r : NakReason) =>
      (s.link.nakCount < 2 → took { idle with answers := s.link.answers ++ [.nak r seq] }) ∧
      (2 ≤ s.link.nakCount → took idle)
    (f.crc ≠ frameCrc seq kind got → nak .crc) ∧
    (f.crc = frameCrc seq kind got →
      (∀ i : Fin 2, tget s.link.places i = none → (∀ j, j < i → tget s.link.places j ≠ none) →
        took { idle with
          places := tset s.link.places i (some f), answers := s.link.answers ++ [.frame i false] }) ∧
      ((∀ i : Fin 2, tget s.link.places i ≠ none) → nak .overrun))

/-- Every request frame that can be sent (R179) is received as it was sent: its bytes, fed one by one to a hunting
receiver, put the frame itself in the receive buffer and its element at the end of the answer queue while the transmitter
is busy, and with an idle link take the request event of that very frame and start its reply. -/
def Obligations.FrameBytesAreReceivedAsTheFrame : Prop :=
  ∀ (seq kind : Byte) (payload : List Byte) (s : State), payload.length ≤ 48 → s.inReset = false →
    s.link.restarting = false → s.link.rx = .hunting →
    let feed := fun (o : Host.Outcome State Fault Refusal) (b : Byte) =>
      match o with
      | .next t => exec (.rxByte b true) t
      | x => x
    let received := (frameBytes seq kind payload).foldl feed (.next s)
    let f := mkFrame seq kind payload
    (∀ i : Fin 2, s.link.tx.isSome = true → tget s.link.places i = none →
      (∀ j, j < i → tget s.link.places j ≠ none) →
      received = .next (driveAux { s with link := { s.link with
        rxTimer := none, places := tset s.link.places i (some f)
        answers := s.link.answers ++ [.frame i false] } })) ∧
    (s.link.tx = none → s.link.answers = [] → tget s.link.places 0 = none →
      (∀ c ∈ s.link.cache, ¬ (c.seq = seq ∧ c.kind = kind ∧ c.crc = f.crc)) →
      let u := driveAux { s with link := { s.link with
        rxTimer := none, places := tset s.link.places 0 (some f), answers := [.frame 0 true] } }
      let r := handle f u
      let reply := frameBytes seq (replyKind kind) r.2
      received = .next (driveAux { r.1 with link := { r.1.link with
        tx := some reply, cache := some { seq := seq, kind := kind, crc := f.crc, reply := reply } } }))

/-- The end of an answer (R185, R189): its element leaves the answer queue, the place of a frame becomes free, and the
transmitter takes the next element: a NAK is sent; a frame that is a duplicate of the request taken last is answered by
the cached reply unchanged, without a request event; any other frame is taken as a request. -/
def Obligations.TransmitterServesTheNextElement : Prop :=
  ∀ (a : Answer) (rest : List Answer) (s : State), s.inReset = false → s.link.restarting = false →
    s.link.tx.isSome = true → s.link.answers = a :: rest →
    let places := match a with
      | .frame i _ => tset s.link.places i none
      | .nak _ _ => s.link.places
    let u := { s.link with tx := none, answers := rest, places := places }
    let ends := fun (t : State) => exec .answerTransmitted s = .next (driveAux t)
    (rest = [] → ends { s with link := u }) ∧
    (∀ r seq more, rest = .nak r seq :: more →
      ends { s with link := { u with tx := some (frameBytes seq 0xFF#8 [codeNak r]) } }) ∧
    (∀ i w more f, rest = .frame i w :: more → tget places i = some f →
      let v := { u with answers := .frame i true :: more }
      (∀ c, s.link.cache = some c → c.seq = f.seq ∧ c.kind = f.kind ∧ c.crc = f.crc →
        ends { s with link := { v with tx := some c.reply } }) ∧
      ((∀ c ∈ s.link.cache, ¬ (c.seq = f.seq ∧ c.kind = f.kind ∧ c.crc = f.crc)) →
        let h := handle f { s with link := v }
        let reply := frameBytes f.seq (replyKind f.kind) h.2
        ends { h.1 with link := { h.1.link with
          tx := some reply, cache := some { seq := f.seq, kind := f.kind, crc := f.crc, reply := reply } } }))

/-- The inter-byte timer (R181): its expiry ends the frame with a TIMEOUT NAK, which carries the frame's SEQ if its SEQ
byte was received and 0 otherwise; it is sent at once when the link is idle and waits when the transmitter is busy. -/
def Obligations.InterByteTimeoutEndsTheFrame : Prop :=
  ∀ s : State, s.inReset = false → s.link.restarting = false → s.link.rxTimer.isSome = true →
    let seq := match s.link.rx with
      | .headerKind _ q => q
      | .payload _ q _ _ => q
      | .checkHigh _ q _ _ => q
      | .checkLow _ q _ _ _ => q
      | _ => 0x00#8
    let idle := { s.link with rx := .hunting, rxTimer := none }
    (s.link.tx = none → s.link.answers = [] →
      exec .interByteTimeout s =
        .next (driveAux { s with link := { idle with
          answers := [.nak .timeout seq], tx := some (frameBytes seq 0xFF#8 [0x02#8]) } })) ∧
    (s.link.tx.isSome = true → s.link.nakCount < 2 →
      exec .interByteTimeout s =
        .next (driveAux { s with link := { idle with answers := s.link.answers ++ [.nak .timeout seq] } })) ∧
    (s.link.tx.isSome = true → 2 ≤ s.link.nakCount →
      exec .interByteTimeout s = .next (driveAux { s with link := idle }))

/-! ## Hard reset -/

/-- Power-on and RESET_N hold a hard reset (R199), in which every SW_EN is inactive, ALERT_N released, TXD idle and no
auxiliary line driven. When the last cause ends, every block takes its reset value, BAUD is sampled (R178), and the input
pins found active start their timers (R25, R42, R200); while another cause holds, the reset goes on. That the records
hold their reset values while it lasts, and that the end names its cause and the strap's level, are the model's choices
(log entries 5 and 6). -/
def Obligations.HardResetTakesAndEnds : Prop :=
  (∀ s : State, ∃ t, exec .vddPowerOn s = .next t ∧ t.resetBy = { s.resetBy with vdd := true } ∧ resetQuiet t ∧
    t.inReset = true ∧ t.pending = s.pending ∧
    (∀ p, (t.outlet p).pres = (s.outlet p).pres ∧ (t.outlet p).shortN = (s.outlet p).shortN ∧
      (t.outlet p).overcurrent = (s.outlet p).overcurrent) ∧
    (∀ k, (t.supply k).line = (s.supply k).line) ∧ t.eoffN.level = s.eoffN.level ∧
    t.link.baud = s.link.baud ∧ ∀ k, (t.auxLine k).input.level = (s.auxLine k).input.level) ∧
  (∀ s : State, ∃ t, exec .resetNLow s = .next t ∧ t.resetBy = { s.resetBy with pin := true } ∧ resetQuiet t ∧
    t.inReset = true ∧ t.pending = s.pending ∧
    (∀ p, (t.outlet p).pres = (s.outlet p).pres ∧ (t.outlet p).shortN = (s.outlet p).shortN ∧
      (t.outlet p).overcurrent = (s.outlet p).overcurrent) ∧
    (∀ k, (t.supply k).line = (s.supply k).line) ∧ t.eoffN.level = s.eoffN.level ∧
    t.link.baud = s.link.baud ∧ ∀ k, (t.auxLine k).input.level = (s.auxLine k).input.level) ∧
  (∀ (s : State) (baud : Level), s.resetBy = { vdd := true, pin := false } →
    ∃ t, exec (.resetEnd .vdd baud) s = .next t ∧ afterReset s t baud) ∧
  (∀ (s : State) (baud : Level), s.resetBy = { vdd := false, pin := true } →
    ∃ t, exec (.resetEnd .pin baud) s = .next t ∧ afterReset s t baud) ∧
  ∀ (s : State) (baud : Level), s.resetBy = { vdd := true, pin := true } →
    exec (.resetEnd .vdd baud) s = .next { s with resetBy := { vdd := false, pin := true } } ∧
    exec (.resetEnd .pin baud) s = .next { s with resetBy := { vdd := true, pin := false } }

/-! ## Supplies and the queue's time -/

/-- The SUPGOOD lines (R27, R28): a line that goes inactive takes a GOOD supply out, with its SUPPLY notice and the
consequences of the recomputed budget, and stops the restoration timer of one that is NOT_GOOD; a line that goes active
starts the 100 ms restoration timer, whose expiry makes the supply GOOD in the same way. -/
def Obligations.SupgoodGovernsTheSupply : Prop :=
  ∀ (k : SupplyId) (s : State), s.inReset = false →
    ((s.supply k).good = true →
      exec (.supgoodInactive k) s =
        .next (driveAux (recompute (raise (.supply k) .supply
          (s.setSupply k { s.supply k with good := false, line := false }))).1)) ∧
    ((s.supply k).good = false →
      exec (.supgoodInactive k) s =
        .next (driveAux (s.setSupply k { s.supply k with line := false, restoration := none }))) ∧
    ((s.supply k).good = false → (s.supply k).line = false →
      exec (.supgoodActive k) s =
        .next (driveAux (s.setSupply k { s.supply k with line := true, restoration := some 100 }))) ∧
    ((s.supply k).restoration.isSome = true →
      exec (.restorationTimerExpiry k) s =
        .next (driveAux (recompute (raise (.supply k) .supply
          (s.setSupply k { s.supply k with good := true, restoration := none }))).1))

/-- The aging step of an entry whose timer runs (R50, R51): its effective priority rises by 1, its timer restarts below 7
and stops at 7, the entry takes its new place, and a pass follows exactly when it has moved past another entry. -/
def Obligations.AgingStepRaisesAndReorders : Prop :=
  ∀ (f : Feed) (e : Entry) (s : State), s.inReset = false → (s.queue.map Entry.feed).Nodup → e ∈ s.queue → e.feed = f →
    e.aging.isSome = true →
    let moved := ∃ x ∈ s.queue, x.feed ≠ f ∧
      ((x.eff = e.eff ∧ x.stamp < e.stamp) ∨ (x.eff = e.eff + 1 ∧ e.stamp < x.stamp))
    let u := { s with
      queue := insertBy entryBefore
        { e with
          eff := e.eff + 1
          aging := if 0 < s.policy.aging ∧ e.eff + 1 < 7 then some s.policy.aging else none }
        (s.queue.filter (fun x => decide (x.feed ≠ f))) }
    exec (.agingStep f) s = .next (driveAux (if moved then pass u else u))

/-! ## Scans, discharges and ramps -/

/-- A scan (R86, R87, R89) enters the power sample in the ring, the oldest leaving a full one, raises the peak to it, and
records it with the output level. Outside ON it does no more, unless it finds a stopping outlet DOWN; in ON, with the
check ON and 8 samples, the average is compared with the overdraw limit (R94). VSENSE and ISENSE are taken in microvolts
(log entry 9). -/
def Obligations.ScanMeasuresAndCompares : Prop :=
  ∀ (p : OutletId) (v i : Nat) (s : State), s.inReset = false →
    let o := s.outlet p
    let x := min 2000 (2000 * v * i / (1200000 * 1000000))
    let level := if 9 * 1200000 ≤ 10 * v then OutLevel.up else if 1200000 ≤ 10 * v then .mid else .down
    let ring := if o.ring.length < 8 then o.ring ++ [x] else o.ring.tail ++ [x]
    let o' := { o with ring := ring, peak := max o.peak x, latest := some (x, level) }
    let limit := o.alloc * (100 + o.profile.overdrawMargin) / 100
    let window :=
      if o.profile.overdrawCheck = true ∧ ring.length = 8 then
        if limit < ring.sum / 8 then some (o.overdrawWindow.getD o.profile.overdrawWindow) else none
      else o.overdrawWindow
    (s.outletState p ≠ .mapped .on → (level = .down → ∀ c d, s.outletState p ≠ .mapped (.stopping c d)) →
      exec (.meterScan p v i) s = .next (driveAux (s.setOutlet p o'))) ∧
    (s.outletState p = .mapped .on →
      exec (.meterScan p v i) s = .next (driveAux (s.setOutlet p { o' with overdrawWindow := window })))

/-- The end of a solo feed's stop. At a scan that finds the output DOWN (R16) the outlet returns its allocation and the
feed enters its destination, a QUEUED one with a REQUEUE entry, RETRY_WAIT with the backoff its count gives (R110); a
pending POWER_OFF completes STOPPED. At the discharge timeout (R17) the feed is LATCHED with its cause, a pending
POWER_OFF completes DISCHARGE_FAULT, a POWER_ON FAULTED, and FAULT is raised. The return runs a pass (R36). The notices
are in the order of the rules' words (log entry 12), and VSENSE and ISENSE are taken in microvolts (log entry 9). -/
def Obligations.SoloDischargeEndsTheStop : Prop :=
  ∀ (p : OutletId) (c : StopCause) (d : Dest) (s : State), s.inReset = false → s.feedOf p = some (.solo p) →
    (s.outlet p).own.state = .stopping c d →
    (∀ v i, 10 * v < 1200000 →
      let o := s.outlet p
      let x := min 2000 (2000 * v * i / (1200000 * 1000000))
      let o' := { o with
        ring := if o.ring.length < 8 then o.ring ++ [x] else o.ring.tail ++ [x]
        peak := max o.peak x, latest := some (x, OutLevel.down) }
      let w := { s.setOutlet p (returned o') with held := s.held - o.alloc }
      let u := match d with
        | .off => updFeed (.solo p) (fun r => { r with state := .off }) w
        | .latched => updFeed (.solo p) (fun r => { r with state := .latched }) w
        | .retryWait =>
          updFeed (.solo p)
            (fun r => { r with state := .retryWait, backoff := some (min 6400 (100 * 2 ^ (r.count - 1))) }) w
        | .queued => enterQueued (.solo p) .requeue w
      exec (.meterScan p v i) s =
        .next (driveAux (pass (completeOp .powerOff .stopped (.solo p) (raise (.outlet p) .state u))))) ∧
    ((s.outlet p).discharge.isSome = true →
      let o := s.outlet p
      let w := { s.setOutlet p { returned o with
        lastCause := some .dischargeTimeout, own := { o.own with state := .latched } } with held := s.held - o.alloc }
      exec (.dischargeTimeout p) s =
        .next (driveAux (pass (raise (.outlet p) .fault
          (completeOp .powerOn .faulted (.solo p)
            (completeOp .powerOff .dischargeFault (.solo p) (raise (.outlet p) .state w)))))))

/-- The members of a stopping gang discharge one by one (R125). A scan that finds one DOWN that still holds its
allocation returns it; a discharge timeout returns it too, records its cause, makes the gang's destination LATCHED, names
the last fault member, completes a pending POWER_ON FAULTED and raises FAULT on gang and member. The last return takes the
gang to its destination, where a pending POWER_OFF completes. Every return runs a pass (R36). Their notice order where
R125 gives none is log entry 12. -/
def Obligations.MembersDischargeOneByOne : Prop :=
  ∀ (p : OutletId) (g : GangId) (c : StopCause) (d : Dest) (s : State), s.inReset = false →
    s.feedOf p = some (.gang g) → (s.gang g).own.state = .stopping c d →
    let o := s.outlet p
    let last := ∀ q ∈ s.outletsOf (.gang g), q ≠ p → (s.outlet q).alloc = 0
    (∀ v i, 10 * v < 1200000 →
      let x := min 2000 (2000 * v * i / (1200000 * 1000000))
      let o' := { o with
        ring := if o.ring.length < 8 then o.ring ++ [x] else o.ring.tail ++ [x]
        peak := max o.peak x, latest := some (x, OutLevel.down) }
      let w := { s.setOutlet p (returned o') with held := s.held - o.alloc }
      let u := match d with
        | .off => updFeed (.gang g) (fun r => { r with state := .off }) w
        | .latched => updFeed (.gang g) (fun r => { r with state := .latched }) w
        | .retryWait =>
          updFeed (.gang g)
            (fun r => { r with state := .retryWait, backoff := some (min 6400 (100 * 2 ^ (r.count - 1))) }) w
        | .queued => enterQueued (.gang g) .requeue w
      let outcome := if (s.gang g).timedOut = true then Completion.dischargeFault else .stopped
      (o.alloc = 0 → exec (.meterScan p v i) s = .next (driveAux (s.setOutlet p o'))) ∧
      (o.alloc ≠ 0 → ¬ last → exec (.meterScan p v i) s = .next (driveAux (pass w))) ∧
      (o.alloc ≠ 0 → last →
        exec (.meterScan p v i) s =
          .next (driveAux (pass (raise (.gang g) .state (completeOp .powerOff outcome (.gang g) u)))))) ∧
    (o.discharge.isSome = true →
      let w := { s.setOutlet p { returned o with lastCause := some .dischargeTimeout } with held := s.held - o.alloc }
      let u := completeOp .powerOn .faulted (.gang g)
        (w.setGang g { s.gang g with
          own := { (s.gang g).own with state := .stopping c .latched }, lastMember := some p, timedOut := true })
      let told := raise (.outlet p) .fault (raise (.gang g) .fault u)
      (¬ last → exec (.memberDischargeTimeout p) s = .next (driveAux (pass told))) ∧
      (last →
        exec (.memberDischargeTimeout p) s =
          .next (driveAux (pass (raise (.gang g) .state
            (completeOp .powerOff .dischargeFault (.gang g)
              (updFeed (.gang g) (fun r => { r with state := .latched }) told)))))))

/-- A ramp expiry reads the output-good condition: a scan since the grant, the latest at UP (R92). Good, a solo feed
enters ON, starts its stability timer, raises STATE and completes a pending POWER_ON POWERED (R12); a gang does so with
the last of its members' ramps (R123). Not good, the outlet takes a START_FAIL fault (R105). The order of the gang's
notices is log entry 12. -/
def Obligations.RampExpiryReadsOutputGood : Prop :=
  ∀ (p : OutletId) (s : State), s.inReset = false → (s.outlet p).ramp.isSome = true →
    let o := s.outlet p
    let good := o.ring ≠ [] ∧ ∃ x, o.latest = some (x, .up)
    let u := s.setOutlet p { o with ramp := none }
    (s.feedOf p = some (.solo p) → o.own.state = .starting →
      (good → exec (.rampExpiry p) s =
        .next (driveAux (completeOp .powerOn .powered (.solo p) (raise (.outlet p) .state
          (s.setOutlet p { o with
            ramp := none, own := { o.own with state := .on, stability := some o.profile.stability } }))))) ∧
      (¬ good → exec (.rampExpiry p) s = .next (driveAux (takeFault p .startFail u)))) ∧
    ∀ g, s.feedOf p = some (.gang g) → (s.gang g).own.state = .starting →
      (good → (∃ q ∈ s.outletsOf (.gang g), q ≠ p ∧ (s.outlet q).ramp.isSome = true) →
        exec (.memberRampExpiry p) s = .next (driveAux u)) ∧
      (good → (∀ q ∈ s.outletsOf (.gang g), q ≠ p → (s.outlet q).ramp = none) →
        exec (.memberRampExpiry p) s =
          .next (driveAux (raise (.gang g) .state (completeOp .powerOn .powered (.gang g)
            (updFeed (.gang g)
              (fun r => { r with state := .on, stability := some (s.gang g).profile.stability }) u))))) ∧
      (¬ good → exec (.memberRampExpiry p) s = .next (driveAux (takeFault p .startFail u)))

/-! ## Fault inputs and the feed's timers -/

/-- The overcurrent condition (R98 to R102) is examined in STARTING and ON while no blanking runs: from its beginning or
from the blanking's end. Examined, it qualifies at once with a width of 0 and after its width otherwise; its end discards
the measurement. A qualified pulse trips in SINGLE mode and at an open pair window in PAIR mode, and opens a closed
window, whose expiry discards it. SHORT_N going active takes a SHORT fault at once (R104; the command carries the level,
log entry 7), and an overdraw window's expiry in ON an OVERDRAW fault (R95). What a fault does is FaultsCountAndStop. -/
def Obligations.FaultInputsAct : Prop :=
  (∀ (p : OutletId) (s : State), s.inReset = false →
    let o := s.outlet p
    let qualified := fun (r : OutletRec) =>
      if r.profile.tripMode = .single then takeFault p .overcurrent (s.setOutlet p { r with width := none })
      else if r.pairWindow = none then
        s.setOutlet p { r with width := none, pairWindow := some r.profile.pairWindow }
      else takeFault p .overcurrent (s.setOutlet p { r with width := none, pairWindow := none })
    let examined := fun (r : OutletRec) =>
      if r.profile.width = 0 then qualified r else s.setOutlet p { r with width := some r.profile.width }
    (o.overcurrent = false →
      exec (.overcurrentBegin p) s =
        .next (driveAux (if s.outletPowered p = true ∧ o.blanking = none then examined { o with overcurrent := true }
          else s.setOutlet p { o with overcurrent := true }))) ∧
    exec (.overcurrentEnd p) s = .next (driveAux (s.setOutlet p { o with overcurrent := false, width := none })) ∧
    (o.blanking.isSome = true → s.outletPowered p = true →
      exec (.blankingExpiry p) s =
        .next (driveAux (if o.overcurrent = true then examined { o with blanking := none }
          else s.setOutlet p { o with blanking := none }))) ∧
    (o.width.isSome = true → s.outletPowered p = true →
      exec (.qualifiedPulse p) s = .next (driveAux (qualified o))) ∧
    exec (.pairWindowExpiry p) s = .next (driveAux (s.setOutlet p { o with pairWindow := none }))) ∧
  ∀ (p : OutletId) (s : State), s.inReset = false →
    ((s.outlet p).shortN = false →
      exec (.shortNActive p true) s =
        .next (driveAux (takeFault p .short (s.setOutlet p { s.outlet p with shortN := true })))) ∧
    ((s.outlet p).shortN = true → exec (.shortNActive p true) s = .next (driveAux s)) ∧
    exec (.shortNActive p false) s = .next (driveAux (s.setOutlet p { s.outlet p with shortN := false })) ∧
    ((s.outlet p).overdrawWindow.isSome = true → s.outletState p = .mapped .on →
      exec (.overdrawWindowExpiry p) s =
        .next (driveAux (takeFault p .overdraw (s.setOutlet p { s.outlet p with overdrawWindow := none }))))

/-- The stability timer's expiry in ON sets the consecutive count to 0 and nothing else (R113, R123); the backoff timer's
expiry in RETRY_WAIT takes the feed to QUEUED with a RETRY entry, its STATE notice and a pass (R112, R127). -/
def Obligations.FeedTimersExpire : Prop :=
  ∀ s : State, s.inReset = false →
    (∀ p, s.feedOf p = some (.solo p) → (s.outlet p).own.stability.isSome = true → (s.outlet p).own.state = .on →
      exec (.stabilityExpiry p) s =
        .next (driveAux (s.setOutlet p { s.outlet p with
          own := { (s.outlet p).own with count := 0, stability := none } }))) ∧
    (∀ g, (s.membersOf g).isSome = true → (s.gang g).own.stability.isSome = true → (s.gang g).own.state = .on →
      exec (.gangStabilityExpiry g) s =
        .next (driveAux (s.setGang g { s.gang g with
          own := { (s.gang g).own with count := 0, stability := none } }))) ∧
    (∀ p, s.feedOf p = some (.solo p) → (s.outlet p).own.backoff.isSome = true →
      (s.outlet p).own.state = .retryWait →
      exec (.backoffExpiry p) s =
        .next (driveAux (pass (raise (.outlet p) .state (enterQueued (.solo p) .retry s))))) ∧
    (∀ g, (s.membersOf g).isSome = true → (s.gang g).own.backoff.isSome = true →
      (s.gang g).own.state = .retryWait →
      exec (.gangBackoffExpiry g) s =
        .next (driveAux (pass (raise (.gang g) .state (enterQueued (.gang g) .retry s)))))

/-! ## Presence -/

/-- PRES is debounced in every state (R18): a change starts the timer with the debounce in force, and its expiry records
a level that differs, with a PRESENCE notice (R19). For a solo feed with start mode ON_PRESENCE an arrival in OFF queues
it while EOFF is not asserted (R20), and a loss withdraws, stops or redirects it by its state (R21). The order of a
loss's notices is read from the order of the rules' words (log entry 12). -/
def Obligations.PresenceIsDebouncedAndActs : Prop :=
  ∀ (p : OutletId) (s : State), s.inReset = false →
    let o := s.outlet p
    let u := s.setOutlet p { o with debounce := none, presence := o.pres }
    let v := raise (.outlet p) .presence u
    let acts := s.feedOf p = some (.solo p) ∧ o.profile.startMode = .onPresence
    let expires := fun (t : State) => exec (.presenceDebounceExpiry p) s = .next (driveAux t)
    let removed := fun (t : State) => completeOp .powerOn .removed (.solo p) t
    let told := fun (t : State) => raise (.outlet p) .state t
    (∀ a, a ≠ o.pres →
      exec (.presLevelChange p a) s =
        .next (driveAux (s.setOutlet p { o with pres := a, debounce := some o.profile.debounce }))) ∧
    (o.debounce.isSome = true →
      (o.pres = o.presence → expires u) ∧
      (o.pres ≠ o.presence → ¬ acts → expires v) ∧
      (o.pres = true → o.presence = false → acts →
        expires (if o.own.state = .off ∧ s.eoff = false then pass (told (enterQueued (.solo p) .presence v)) else v)) ∧
      (o.pres = false → o.presence = true → acts →
        match o.own.state with
        | .off => expires v
        | .latched => expires v
        | .queued => expires (pass (removed (told (withdrawn (.solo p) v))))
        | .retryWait =>
          expires (removed (told (updFeed (.solo p) (fun r => { r with state := .off, backoff := none }) v)))
        | .stopping c .queued =>
          expires (removed (updFeed (.solo p) (fun r => { r with state := .stopping c .off }) v))
        | .stopping c .retryWait =>
          expires (removed (updFeed (.solo p) (fun r => { r with state := .stopping c .off }) v))
        | .stopping _ _ => expires v
        | _ => ∃ t, afterStop (.solo p) .removal .off v t ∧ expires (removed (told t))))

/-! ## Lines -/

/-- The input lines (R192, R196): a change of a source's level starts its 1 ms filter, a line that is no source has its
level followed only (log entry 17), and a filter's expiry takes the level as the qualified one. If that releases EOFF, EMERGENCY is
raised and the ON_PRESENCE solo feeds in OFF with presence PRESENT are queued in ascending index, with their notices and
one pass (R195); if it releases HOLD alone, a pass runs; the EOFF assertion has a statement of its own. -/
def Obligations.LinesAreFilteredAndRelease : Prop :=
  (∀ (l : LineId) (level : Level) (s : State), s.inReset = false → (s.inputLine l).level ≠ level →
    (s.isSource l = true →
      exec (.lineLevelChange l level) s =
        .next (driveAux (setInput l { s.inputLine l with level := level, filter := some 1 } s))) ∧
    (s.isSource l = false →
      exec (.lineLevelChange l level) s =
        .next (driveAux (setInput l { s.inputLine l with level := level } s)))) ∧
  ∀ (l : LineId) (s : State), s.inReset = false → s.isSource l = true → (s.inputLine l).filter.isSome = true →
    let u := setInput l
      { s.inputLine l with active := decide ((s.inputLine l).level = .low), filter := none } s
    let back := fun (t : State) (p : OutletId) =>
      if s.feedOf p = some (.solo p) ∧ (s.outlet p).profile.startMode = .onPresence ∧ (s.outlet p).own.state = .off ∧
        (s.outlet p).presence = true then raise (.outlet p) .state (enterQueued (.solo p) .presence t)
      else t
    (s.eoff = true → u.eoff = false →
      exec (.lineFilterExpiry l) s =
        .next (driveAux (pass (allOutlets.foldl back (raise .part .emergency u))))) ∧
    (s.eoff = u.eoff → s.hold = true → u.hold = false →
      exec (.lineFilterExpiry l) s = .next (driveAux (pass u))) ∧
    (s.eoff = u.eoff → (s.hold = false ∨ u.hold = true) →
      exec (.lineFilterExpiry l) s = .next (driveAux u))

/-- The EOFF assertion (R193): the qualification that makes the first source active stops every running feed with cause
EMERGENCY for OFF, turns every stop on its way to QUEUED or RETRY_WAIT to OFF, empties the queue, takes RETRY_WAIT to
OFF, drops the claim and completes every pending POWER_ON EMERGENCY, which leaves its feed. EMERGENCY on the part is
raised first; then the feeds, in ascending order of their lowest outlet, raise STATE if the state changed and COMPLETION
of the slot whose POWER_ON completed (R22, R149). -/
def Obligations.EoffAssertionHoldsEverythingOff : Prop :=
  ∀ (l : LineId) (s : State), s.inReset = false → powerOk s → slotsOk s →
    (l = .eoffN ∨ ∃ k, l = .aux k ∧ (s.auxLine k).fn = .eoffIn) → (s.inputLine l).filter.isSome = true →
    (s.inputLine l).level = .low → s.eoff = false →
    let u := setInput l { s.inputLine l with active := true, filter := none } s
    ∃ t order, exec (.lineFilterExpiry l) s = .next (driveAux t) ∧ feedsInOrder u order ∧
      allOff .emergency .emergency u t ∧
      t.notices = (raised ((Subject.part, NoticeFlag.emergency) :: order.flatMap (offNotices u)) u).notices ∧
      t.alertN = (raised ((Subject.part, NoticeFlag.emergency) :: order.flatMap (offNotices u)) u).alertN

/-! ## Invariants every step keeps -/

/-- The budget law and what goes with it (R1, R5 to R8, R31, R32, R45, R52, R76, R100, R132): a state that has it keeps
it at every step. The active total never exceeds the budget, and an outlet outside STARTING and ON has no ramp, blanking,
pair or overdraw timer running and no width being measured. -/
def Obligations.StepsKeepTheBudgetLaw : Prop :=
  ∀ s t : State, powerOk s → step s = .next t → powerOk t

/-- While EOFF is asserted no feed is powered or on its way to power (R194), at every step from a state that meets this
and the budget law. -/
def Obligations.StepsKeepEoffInForce : Prop :=
  ∀ s t : State, powerOk s → emergencyOk s → step s = .next t → emergencyOk t

/-- Every step keeps the queue in its order with distinct stamps (R44, R46), the budget at the value R30 gives, every
profile field in its range (R3, R120), every ring at 8 samples of at most 2000 dW, and the peak at least the latest sample
(R86, R87, R89). -/
def Obligations.StepsKeepOrderBudgetAndRanges : Prop :=
  (∀ s t : State, orderOk s → budgetOk s → step s = .next t → orderOk t ∧ budgetOk t) ∧
  ∀ s t : State, profilesOk s → metersOk s → step s = .next t → profilesOk t ∧ metersOk t

/-- Every step keeps ALERT_N low exactly while a notice is OPEN (R176), every auxiliary output at the level of its
condition (R197), and the outputs quiet while a hard reset lasts (R199). -/
def Obligations.StepsKeepTheOutputs : Prop :=
  ∀ s t : State, alertOk s → auxOk s → resetQuiet s → step s = .next t → alertOk t ∧ auxOk t ∧ resetQuiet t

/-- Every step keeps the Host Link sound (R180, R181, R183 to R185): the receiver within its frame, a place occupied
exactly while an element refers to it, at most two NAKs waiting, and the transmitter busy exactly while something is
owed, a RESTART apart. -/
def Obligations.StepsKeepTheLink : Prop :=
  ∀ s t : State, linkOk s.link → step s = .next t → linkOk t.link

/-- Every step keeps slots, pending operations and notices together (R147 to R149, R169): a PENDING slot is the
operation of its feed, whose state fits it, and a slot has its one notice exactly while it is COMPLETE. Such a list never
holds more than 42 notices. -/
def Obligations.StepsKeepSlotsAndNotices : Prop :=
  (∀ s t : State, powerOk s → slotsOk s → noticesOk s → step s = .next t → slotsOk t ∧ noticesOk t) ∧
  ∀ s : State, noticesOk s → s.notices.length ≤ 42

/-- Every step keeps the count of a feed that waits to retry, or is on its way there, at least 1 and below its latch
threshold, no count above 15, and a backoff running in RETRY_WAIT (R107, R110, R111). -/
def Obligations.StepsKeepRetriesBelowTheThreshold : Prop :=
  ∀ s t : State, mapsOk s → retryOk s → step s = .next t → retryOk t

end
end

