-- ==== Sys2Proof/Laws/State.lean ====
section
/-! SUPPORT. The small lemmas of State's updates: tables, one lemma for each field an update leaves alone, and what the
record reads give after an update. -/

namespace Sys2Proof

/-! ## Tables -/

@[simp] theorem tget_tset_same {α : Type} {n : Nat} (t : Vector α n) (i : Fin n) (x : α) :
    tget (tset t i x) i = x := by
  simp [tget, tset]

theorem tget_tset_other {α : Type} {n : Nat} (t : Vector α n) (i j : Fin n) (x : α) (h : j ≠ i) :
    tget (tset t i x) j = tget t j := by
  have h' : i.val ≠ j.val := fun e => h (Fin.ext e.symm)
  simp [tget, tset, Vector.getElem_set_ne, h']

theorem tget_tset {α : Type} {n : Nat} (t : Vector α n) (i j : Fin n) (x : α) :
    tget (tset t i x) j = if j = i then x else tget t j := by
  split
  · next h => subst h; exact tget_tset_same t j x
  · next h => exact tget_tset_other t i j x h

theorem table_ext {α : Type} {n : Nat} {t u : Vector α n} (h : ∀ i, tget t i = tget u i) : t = u := by
  ext i hi
  exact h ⟨i, hi⟩

@[simp] theorem tset_tset {α : Type} {n : Nat} (t : Vector α n) (i : Fin n) (x y : α) :
    tset (tset t i x) i y = tset t i y := by
  refine table_ext fun j => ?_
  simp only [tget_tset]
  split <;> rfl

@[simp] theorem tset_tget {α : Type} {n : Nat} (t : Vector α n) (i : Fin n) : tset t i (tget t i) = t := by
  refine table_ext fun j => ?_
  simp only [tget_tset]
  split
  · next h => rw [h]
  · rfl

end Sys2Proof

namespace Sys2Proof.Machine

variable (s : State)

/-! ## Fields an update leaves alone -/

@[simp] theorem setOutlet_gangs (p : OutletId) (o : OutletRec) : (s.setOutlet p o).gangs = s.gangs := rfl
@[simp] theorem setOutlet_activeMap (p : OutletId) (o : OutletRec) : (s.setOutlet p o).activeMap = s.activeMap := rfl
@[simp] theorem setOutlet_stagedMap (p : OutletId) (o : OutletRec) : (s.setOutlet p o).stagedMap = s.stagedMap := rfl
@[simp] theorem setOutlet_supplies (p : OutletId) (o : OutletRec) : (s.setOutlet p o).supplies = s.supplies := rfl
@[simp] theorem setOutlet_reserve (p : OutletId) (o : OutletRec) : (s.setOutlet p o).reserve = s.reserve := rfl
@[simp] theorem setOutlet_budget (p : OutletId) (o : OutletRec) : (s.setOutlet p o).budget = s.budget := rfl
@[simp] theorem setOutlet_held (p : OutletId) (o : OutletRec) : (s.setOutlet p o).held = s.held := rfl
@[simp] theorem setOutlet_active (p : OutletId) (o : OutletRec) : (s.setOutlet p o).active = s.active := rfl
@[simp] theorem setOutlet_queue (p : OutletId) (o : OutletRec) : (s.setOutlet p o).queue = s.queue := rfl
@[simp] theorem setOutlet_entryStamps (p : OutletId) (o : OutletRec) : (s.setOutlet p o).entryStamps = s.entryStamps := rfl
@[simp] theorem setOutlet_grantStamps (p : OutletId) (o : OutletRec) : (s.setOutlet p o).grantStamps = s.grantStamps := rfl
@[simp] theorem setOutlet_claim (p : OutletId) (o : OutletRec) : (s.setOutlet p o).claim = s.claim := rfl
@[simp] theorem setOutlet_policy (p : OutletId) (o : OutletRec) : (s.setOutlet p o).policy = s.policy := rfl
@[simp] theorem setOutlet_slots (p : OutletId) (o : OutletRec) : (s.setOutlet p o).slots = s.slots := rfl
@[simp] theorem setOutlet_notices (p : OutletId) (o : OutletRec) : (s.setOutlet p o).notices = s.notices := rfl
@[simp] theorem setOutlet_nextNumber (p : OutletId) (o : OutletRec) : (s.setOutlet p o).nextNumber = s.nextNumber := rfl
@[simp] theorem setOutlet_alertN (p : OutletId) (o : OutletRec) : (s.setOutlet p o).alertN = s.alertN := rfl
@[simp] theorem setOutlet_link (p : OutletId) (o : OutletRec) : (s.setOutlet p o).link = s.link := rfl
@[simp] theorem setOutlet_eoffN (p : OutletId) (o : OutletRec) : (s.setOutlet p o).eoffN = s.eoffN := rfl
@[simp] theorem setOutlet_aux (p : OutletId) (o : OutletRec) : (s.setOutlet p o).aux = s.aux := rfl
@[simp] theorem setOutlet_resetBy (p : OutletId) (o : OutletRec) : (s.setOutlet p o).resetBy = s.resetBy := rfl
@[simp] theorem setOutlet_pending (p : OutletId) (o : OutletRec) : (s.setOutlet p o).pending = s.pending := rfl

@[simp] theorem setGang_outlets (g : GangId) (r : GangRec) : (s.setGang g r).outlets = s.outlets := rfl
@[simp] theorem setGang_activeMap (g : GangId) (r : GangRec) : (s.setGang g r).activeMap = s.activeMap := rfl
@[simp] theorem setGang_stagedMap (g : GangId) (r : GangRec) : (s.setGang g r).stagedMap = s.stagedMap := rfl
@[simp] theorem setGang_supplies (g : GangId) (r : GangRec) : (s.setGang g r).supplies = s.supplies := rfl
@[simp] theorem setGang_reserve (g : GangId) (r : GangRec) : (s.setGang g r).reserve = s.reserve := rfl
@[simp] theorem setGang_budget (g : GangId) (r : GangRec) : (s.setGang g r).budget = s.budget := rfl
@[simp] theorem setGang_held (g : GangId) (r : GangRec) : (s.setGang g r).held = s.held := rfl
@[simp] theorem setGang_active (g : GangId) (r : GangRec) : (s.setGang g r).active = s.active := rfl
@[simp] theorem setGang_queue (g : GangId) (r : GangRec) : (s.setGang g r).queue = s.queue := rfl
@[simp] theorem setGang_entryStamps (g : GangId) (r : GangRec) : (s.setGang g r).entryStamps = s.entryStamps := rfl
@[simp] theorem setGang_grantStamps (g : GangId) (r : GangRec) : (s.setGang g r).grantStamps = s.grantStamps := rfl
@[simp] theorem setGang_claim (g : GangId) (r : GangRec) : (s.setGang g r).claim = s.claim := rfl
@[simp] theorem setGang_policy (g : GangId) (r : GangRec) : (s.setGang g r).policy = s.policy := rfl
@[simp] theorem setGang_slots (g : GangId) (r : GangRec) : (s.setGang g r).slots = s.slots := rfl
@[simp] theorem setGang_notices (g : GangId) (r : GangRec) : (s.setGang g r).notices = s.notices := rfl
@[simp] theorem setGang_nextNumber (g : GangId) (r : GangRec) : (s.setGang g r).nextNumber = s.nextNumber := rfl
@[simp] theorem setGang_alertN (g : GangId) (r : GangRec) : (s.setGang g r).alertN = s.alertN := rfl
@[simp] theorem setGang_link (g : GangId) (r : GangRec) : (s.setGang g r).link = s.link := rfl
@[simp] theorem setGang_eoffN (g : GangId) (r : GangRec) : (s.setGang g r).eoffN = s.eoffN := rfl
@[simp] theorem setGang_aux (g : GangId) (r : GangRec) : (s.setGang g r).aux = s.aux := rfl
@[simp] theorem setGang_resetBy (g : GangId) (r : GangRec) : (s.setGang g r).resetBy = s.resetBy := rfl
@[simp] theorem setGang_pending (g : GangId) (r : GangRec) : (s.setGang g r).pending = s.pending := rfl

@[simp] theorem setSupply_outlets (k : SupplyId) (r : SupplyRec) : (s.setSupply k r).outlets = s.outlets := rfl
@[simp] theorem setSupply_gangs (k : SupplyId) (r : SupplyRec) : (s.setSupply k r).gangs = s.gangs := rfl
@[simp] theorem setSupply_activeMap (k : SupplyId) (r : SupplyRec) : (s.setSupply k r).activeMap = s.activeMap := rfl
@[simp] theorem setSupply_stagedMap (k : SupplyId) (r : SupplyRec) : (s.setSupply k r).stagedMap = s.stagedMap := rfl
@[simp] theorem setSupply_reserve (k : SupplyId) (r : SupplyRec) : (s.setSupply k r).reserve = s.reserve := rfl
@[simp] theorem setSupply_budget (k : SupplyId) (r : SupplyRec) : (s.setSupply k r).budget = s.budget := rfl
@[simp] theorem setSupply_held (k : SupplyId) (r : SupplyRec) : (s.setSupply k r).held = s.held := rfl
@[simp] theorem setSupply_active (k : SupplyId) (r : SupplyRec) : (s.setSupply k r).active = s.active := rfl
@[simp] theorem setSupply_queue (k : SupplyId) (r : SupplyRec) : (s.setSupply k r).queue = s.queue := rfl
@[simp] theorem setSupply_entryStamps (k : SupplyId) (r : SupplyRec) : (s.setSupply k r).entryStamps = s.entryStamps := rfl
@[simp] theorem setSupply_grantStamps (k : SupplyId) (r : SupplyRec) : (s.setSupply k r).grantStamps = s.grantStamps := rfl
@[simp] theorem setSupply_claim (k : SupplyId) (r : SupplyRec) : (s.setSupply k r).claim = s.claim := rfl
@[simp] theorem setSupply_policy (k : SupplyId) (r : SupplyRec) : (s.setSupply k r).policy = s.policy := rfl
@[simp] theorem setSupply_slots (k : SupplyId) (r : SupplyRec) : (s.setSupply k r).slots = s.slots := rfl
@[simp] theorem setSupply_notices (k : SupplyId) (r : SupplyRec) : (s.setSupply k r).notices = s.notices := rfl
@[simp] theorem setSupply_nextNumber (k : SupplyId) (r : SupplyRec) : (s.setSupply k r).nextNumber = s.nextNumber := rfl
@[simp] theorem setSupply_alertN (k : SupplyId) (r : SupplyRec) : (s.setSupply k r).alertN = s.alertN := rfl
@[simp] theorem setSupply_link (k : SupplyId) (r : SupplyRec) : (s.setSupply k r).link = s.link := rfl
@[simp] theorem setSupply_eoffN (k : SupplyId) (r : SupplyRec) : (s.setSupply k r).eoffN = s.eoffN := rfl
@[simp] theorem setSupply_aux (k : SupplyId) (r : SupplyRec) : (s.setSupply k r).aux = s.aux := rfl
@[simp] theorem setSupply_resetBy (k : SupplyId) (r : SupplyRec) : (s.setSupply k r).resetBy = s.resetBy := rfl
@[simp] theorem setSupply_pending (k : SupplyId) (r : SupplyRec) : (s.setSupply k r).pending = s.pending := rfl

@[simp] theorem setSlot_outlets (n : SlotId) (x : Slot) : (s.setSlot n x).outlets = s.outlets := rfl
@[simp] theorem setSlot_gangs (n : SlotId) (x : Slot) : (s.setSlot n x).gangs = s.gangs := rfl
@[simp] theorem setSlot_activeMap (n : SlotId) (x : Slot) : (s.setSlot n x).activeMap = s.activeMap := rfl
@[simp] theorem setSlot_stagedMap (n : SlotId) (x : Slot) : (s.setSlot n x).stagedMap = s.stagedMap := rfl
@[simp] theorem setSlot_supplies (n : SlotId) (x : Slot) : (s.setSlot n x).supplies = s.supplies := rfl
@[simp] theorem setSlot_reserve (n : SlotId) (x : Slot) : (s.setSlot n x).reserve = s.reserve := rfl
@[simp] theorem setSlot_budget (n : SlotId) (x : Slot) : (s.setSlot n x).budget = s.budget := rfl
@[simp] theorem setSlot_held (n : SlotId) (x : Slot) : (s.setSlot n x).held = s.held := rfl
@[simp] theorem setSlot_active (n : SlotId) (x : Slot) : (s.setSlot n x).active = s.active := rfl
@[simp] theorem setSlot_queue (n : SlotId) (x : Slot) : (s.setSlot n x).queue = s.queue := rfl
@[simp] theorem setSlot_entryStamps (n : SlotId) (x : Slot) : (s.setSlot n x).entryStamps = s.entryStamps := rfl
@[simp] theorem setSlot_grantStamps (n : SlotId) (x : Slot) : (s.setSlot n x).grantStamps = s.grantStamps := rfl
@[simp] theorem setSlot_claim (n : SlotId) (x : Slot) : (s.setSlot n x).claim = s.claim := rfl
@[simp] theorem setSlot_policy (n : SlotId) (x : Slot) : (s.setSlot n x).policy = s.policy := rfl
@[simp] theorem setSlot_notices (n : SlotId) (x : Slot) : (s.setSlot n x).notices = s.notices := rfl
@[simp] theorem setSlot_nextNumber (n : SlotId) (x : Slot) : (s.setSlot n x).nextNumber = s.nextNumber := rfl
@[simp] theorem setSlot_alertN (n : SlotId) (x : Slot) : (s.setSlot n x).alertN = s.alertN := rfl
@[simp] theorem setSlot_link (n : SlotId) (x : Slot) : (s.setSlot n x).link = s.link := rfl
@[simp] theorem setSlot_eoffN (n : SlotId) (x : Slot) : (s.setSlot n x).eoffN = s.eoffN := rfl
@[simp] theorem setSlot_aux (n : SlotId) (x : Slot) : (s.setSlot n x).aux = s.aux := rfl
@[simp] theorem setSlot_resetBy (n : SlotId) (x : Slot) : (s.setSlot n x).resetBy = s.resetBy := rfl
@[simp] theorem setSlot_pending (n : SlotId) (x : Slot) : (s.setSlot n x).pending = s.pending := rfl

@[simp] theorem setAux_outlets (k : AuxId) (l : AuxLine) : (s.setAux k l).outlets = s.outlets := rfl
@[simp] theorem setAux_gangs (k : AuxId) (l : AuxLine) : (s.setAux k l).gangs = s.gangs := rfl
@[simp] theorem setAux_activeMap (k : AuxId) (l : AuxLine) : (s.setAux k l).activeMap = s.activeMap := rfl
@[simp] theorem setAux_stagedMap (k : AuxId) (l : AuxLine) : (s.setAux k l).stagedMap = s.stagedMap := rfl
@[simp] theorem setAux_supplies (k : AuxId) (l : AuxLine) : (s.setAux k l).supplies = s.supplies := rfl
@[simp] theorem setAux_reserve (k : AuxId) (l : AuxLine) : (s.setAux k l).reserve = s.reserve := rfl
@[simp] theorem setAux_budget (k : AuxId) (l : AuxLine) : (s.setAux k l).budget = s.budget := rfl
@[simp] theorem setAux_held (k : AuxId) (l : AuxLine) : (s.setAux k l).held = s.held := rfl
@[simp] theorem setAux_active (k : AuxId) (l : AuxLine) : (s.setAux k l).active = s.active := rfl
@[simp] theorem setAux_queue (k : AuxId) (l : AuxLine) : (s.setAux k l).queue = s.queue := rfl
@[simp] theorem setAux_entryStamps (k : AuxId) (l : AuxLine) : (s.setAux k l).entryStamps = s.entryStamps := rfl
@[simp] theorem setAux_grantStamps (k : AuxId) (l : AuxLine) : (s.setAux k l).grantStamps = s.grantStamps := rfl
@[simp] theorem setAux_claim (k : AuxId) (l : AuxLine) : (s.setAux k l).claim = s.claim := rfl
@[simp] theorem setAux_policy (k : AuxId) (l : AuxLine) : (s.setAux k l).policy = s.policy := rfl
@[simp] theorem setAux_slots (k : AuxId) (l : AuxLine) : (s.setAux k l).slots = s.slots := rfl
@[simp] theorem setAux_notices (k : AuxId) (l : AuxLine) : (s.setAux k l).notices = s.notices := rfl
@[simp] theorem setAux_nextNumber (k : AuxId) (l : AuxLine) : (s.setAux k l).nextNumber = s.nextNumber := rfl
@[simp] theorem setAux_alertN (k : AuxId) (l : AuxLine) : (s.setAux k l).alertN = s.alertN := rfl
@[simp] theorem setAux_link (k : AuxId) (l : AuxLine) : (s.setAux k l).link = s.link := rfl
@[simp] theorem setAux_eoffN (k : AuxId) (l : AuxLine) : (s.setAux k l).eoffN = s.eoffN := rfl
@[simp] theorem setAux_resetBy (k : AuxId) (l : AuxLine) : (s.setAux k l).resetBy = s.resetBy := rfl
@[simp] theorem setAux_pending (k : AuxId) (l : AuxLine) : (s.setAux k l).pending = s.pending := rfl

@[simp] theorem updOutlet_gangs (p : OutletId) (f : OutletRec → OutletRec) : (updOutlet p f s).gangs = s.gangs := rfl
@[simp] theorem updOutlet_activeMap (p : OutletId) (f : OutletRec → OutletRec) : (updOutlet p f s).activeMap = s.activeMap := rfl
@[simp] theorem updOutlet_stagedMap (p : OutletId) (f : OutletRec → OutletRec) : (updOutlet p f s).stagedMap = s.stagedMap := rfl
@[simp] theorem updOutlet_supplies (p : OutletId) (f : OutletRec → OutletRec) : (updOutlet p f s).supplies = s.supplies := rfl
@[simp] theorem updOutlet_reserve (p : OutletId) (f : OutletRec → OutletRec) : (updOutlet p f s).reserve = s.reserve := rfl
@[simp] theorem updOutlet_budget (p : OutletId) (f : OutletRec → OutletRec) : (updOutlet p f s).budget = s.budget := rfl
@[simp] theorem updOutlet_held (p : OutletId) (f : OutletRec → OutletRec) : (updOutlet p f s).held = s.held := rfl
@[simp] theorem updOutlet_active (p : OutletId) (f : OutletRec → OutletRec) : (updOutlet p f s).active = s.active := rfl
@[simp] theorem updOutlet_queue (p : OutletId) (f : OutletRec → OutletRec) : (updOutlet p f s).queue = s.queue := rfl
@[simp] theorem updOutlet_entryStamps (p : OutletId) (f : OutletRec → OutletRec) : (updOutlet p f s).entryStamps = s.entryStamps := rfl
@[simp] theorem updOutlet_grantStamps (p : OutletId) (f : OutletRec → OutletRec) : (updOutlet p f s).grantStamps = s.grantStamps := rfl
@[simp] theorem updOutlet_claim (p : OutletId) (f : OutletRec → OutletRec) : (updOutlet p f s).claim = s.claim := rfl
@[simp] theorem updOutlet_policy (p : OutletId) (f : OutletRec → OutletRec) : (updOutlet p f s).policy = s.policy := rfl
@[simp] theorem updOutlet_slots (p : OutletId) (f : OutletRec → OutletRec) : (updOutlet p f s).slots = s.slots := rfl
@[simp] theorem updOutlet_notices (p : OutletId) (f : OutletRec → OutletRec) : (updOutlet p f s).notices = s.notices := rfl
@[simp] theorem updOutlet_nextNumber (p : OutletId) (f : OutletRec → OutletRec) : (updOutlet p f s).nextNumber = s.nextNumber := rfl
@[simp] theorem updOutlet_alertN (p : OutletId) (f : OutletRec → OutletRec) : (updOutlet p f s).alertN = s.alertN := rfl
@[simp] theorem updOutlet_link (p : OutletId) (f : OutletRec → OutletRec) : (updOutlet p f s).link = s.link := rfl
@[simp] theorem updOutlet_eoffN (p : OutletId) (f : OutletRec → OutletRec) : (updOutlet p f s).eoffN = s.eoffN := rfl
@[simp] theorem updOutlet_aux (p : OutletId) (f : OutletRec → OutletRec) : (updOutlet p f s).aux = s.aux := rfl
@[simp] theorem updOutlet_resetBy (p : OutletId) (f : OutletRec → OutletRec) : (updOutlet p f s).resetBy = s.resetBy := rfl
@[simp] theorem updOutlet_pending (p : OutletId) (f : OutletRec → OutletRec) : (updOutlet p f s).pending = s.pending := rfl

@[simp] theorem updGang_outlets (g : GangId) (f : GangRec → GangRec) : (updGang g f s).outlets = s.outlets := rfl
@[simp] theorem updGang_activeMap (g : GangId) (f : GangRec → GangRec) : (updGang g f s).activeMap = s.activeMap := rfl
@[simp] theorem updGang_stagedMap (g : GangId) (f : GangRec → GangRec) : (updGang g f s).stagedMap = s.stagedMap := rfl
@[simp] theorem updGang_supplies (g : GangId) (f : GangRec → GangRec) : (updGang g f s).supplies = s.supplies := rfl
@[simp] theorem updGang_reserve (g : GangId) (f : GangRec → GangRec) : (updGang g f s).reserve = s.reserve := rfl
@[simp] theorem updGang_budget (g : GangId) (f : GangRec → GangRec) : (updGang g f s).budget = s.budget := rfl
@[simp] theorem updGang_held (g : GangId) (f : GangRec → GangRec) : (updGang g f s).held = s.held := rfl
@[simp] theorem updGang_active (g : GangId) (f : GangRec → GangRec) : (updGang g f s).active = s.active := rfl
@[simp] theorem updGang_queue (g : GangId) (f : GangRec → GangRec) : (updGang g f s).queue = s.queue := rfl
@[simp] theorem updGang_entryStamps (g : GangId) (f : GangRec → GangRec) : (updGang g f s).entryStamps = s.entryStamps := rfl
@[simp] theorem updGang_grantStamps (g : GangId) (f : GangRec → GangRec) : (updGang g f s).grantStamps = s.grantStamps := rfl
@[simp] theorem updGang_claim (g : GangId) (f : GangRec → GangRec) : (updGang g f s).claim = s.claim := rfl
@[simp] theorem updGang_policy (g : GangId) (f : GangRec → GangRec) : (updGang g f s).policy = s.policy := rfl
@[simp] theorem updGang_slots (g : GangId) (f : GangRec → GangRec) : (updGang g f s).slots = s.slots := rfl
@[simp] theorem updGang_notices (g : GangId) (f : GangRec → GangRec) : (updGang g f s).notices = s.notices := rfl
@[simp] theorem updGang_nextNumber (g : GangId) (f : GangRec → GangRec) : (updGang g f s).nextNumber = s.nextNumber := rfl
@[simp] theorem updGang_alertN (g : GangId) (f : GangRec → GangRec) : (updGang g f s).alertN = s.alertN := rfl
@[simp] theorem updGang_link (g : GangId) (f : GangRec → GangRec) : (updGang g f s).link = s.link := rfl
@[simp] theorem updGang_eoffN (g : GangId) (f : GangRec → GangRec) : (updGang g f s).eoffN = s.eoffN := rfl
@[simp] theorem updGang_aux (g : GangId) (f : GangRec → GangRec) : (updGang g f s).aux = s.aux := rfl
@[simp] theorem updGang_resetBy (g : GangId) (f : GangRec → GangRec) : (updGang g f s).resetBy = s.resetBy := rfl
@[simp] theorem updGang_pending (g : GangId) (f : GangRec → GangRec) : (updGang g f s).pending = s.pending := rfl

@[simp] theorem raise_outlets (subj : Subject) (fl : NoticeFlag) : (raise subj fl s).outlets = s.outlets := rfl
@[simp] theorem raise_gangs (subj : Subject) (fl : NoticeFlag) : (raise subj fl s).gangs = s.gangs := rfl
@[simp] theorem raise_activeMap (subj : Subject) (fl : NoticeFlag) : (raise subj fl s).activeMap = s.activeMap := rfl
@[simp] theorem raise_stagedMap (subj : Subject) (fl : NoticeFlag) : (raise subj fl s).stagedMap = s.stagedMap := rfl
@[simp] theorem raise_supplies (subj : Subject) (fl : NoticeFlag) : (raise subj fl s).supplies = s.supplies := rfl
@[simp] theorem raise_reserve (subj : Subject) (fl : NoticeFlag) : (raise subj fl s).reserve = s.reserve := rfl
@[simp] theorem raise_budget (subj : Subject) (fl : NoticeFlag) : (raise subj fl s).budget = s.budget := rfl
@[simp] theorem raise_held (subj : Subject) (fl : NoticeFlag) : (raise subj fl s).held = s.held := rfl
@[simp] theorem raise_active (subj : Subject) (fl : NoticeFlag) : (raise subj fl s).active = s.active := rfl
@[simp] theorem raise_queue (subj : Subject) (fl : NoticeFlag) : (raise subj fl s).queue = s.queue := rfl
@[simp] theorem raise_entryStamps (subj : Subject) (fl : NoticeFlag) : (raise subj fl s).entryStamps = s.entryStamps := rfl
@[simp] theorem raise_grantStamps (subj : Subject) (fl : NoticeFlag) : (raise subj fl s).grantStamps = s.grantStamps := rfl
@[simp] theorem raise_claim (subj : Subject) (fl : NoticeFlag) : (raise subj fl s).claim = s.claim := rfl
@[simp] theorem raise_policy (subj : Subject) (fl : NoticeFlag) : (raise subj fl s).policy = s.policy := rfl
@[simp] theorem raise_slots (subj : Subject) (fl : NoticeFlag) : (raise subj fl s).slots = s.slots := rfl
@[simp] theorem raise_nextNumber (subj : Subject) (fl : NoticeFlag) : (raise subj fl s).nextNumber = s.nextNumber := rfl
@[simp] theorem raise_link (subj : Subject) (fl : NoticeFlag) : (raise subj fl s).link = s.link := rfl
@[simp] theorem raise_eoffN (subj : Subject) (fl : NoticeFlag) : (raise subj fl s).eoffN = s.eoffN := rfl
@[simp] theorem raise_aux (subj : Subject) (fl : NoticeFlag) : (raise subj fl s).aux = s.aux := rfl
@[simp] theorem raise_resetBy (subj : Subject) (fl : NoticeFlag) : (raise subj fl s).resetBy = s.resetBy := rfl
@[simp] theorem raise_pending (subj : Subject) (fl : NoticeFlag) : (raise subj fl s).pending = s.pending := rfl

@[simp] theorem driveAux_outlets : (driveAux s).outlets = s.outlets := rfl
@[simp] theorem driveAux_gangs : (driveAux s).gangs = s.gangs := rfl
@[simp] theorem driveAux_activeMap : (driveAux s).activeMap = s.activeMap := rfl
@[simp] theorem driveAux_stagedMap : (driveAux s).stagedMap = s.stagedMap := rfl
@[simp] theorem driveAux_supplies : (driveAux s).supplies = s.supplies := rfl
@[simp] theorem driveAux_reserve : (driveAux s).reserve = s.reserve := rfl
@[simp] theorem driveAux_budget : (driveAux s).budget = s.budget := rfl
@[simp] theorem driveAux_held : (driveAux s).held = s.held := rfl
@[simp] theorem driveAux_active : (driveAux s).active = s.active := rfl
@[simp] theorem driveAux_queue : (driveAux s).queue = s.queue := rfl
@[simp] theorem driveAux_entryStamps : (driveAux s).entryStamps = s.entryStamps := rfl
@[simp] theorem driveAux_grantStamps : (driveAux s).grantStamps = s.grantStamps := rfl
@[simp] theorem driveAux_claim : (driveAux s).claim = s.claim := rfl
@[simp] theorem driveAux_policy : (driveAux s).policy = s.policy := rfl
@[simp] theorem driveAux_slots : (driveAux s).slots = s.slots := rfl
@[simp] theorem driveAux_notices : (driveAux s).notices = s.notices := rfl
@[simp] theorem driveAux_nextNumber : (driveAux s).nextNumber = s.nextNumber := rfl
@[simp] theorem driveAux_alertN : (driveAux s).alertN = s.alertN := rfl
@[simp] theorem driveAux_link : (driveAux s).link = s.link := rfl
@[simp] theorem driveAux_eoffN : (driveAux s).eoffN = s.eoffN := rfl
@[simp] theorem driveAux_resetBy : (driveAux s).resetBy = s.resetBy := rfl
@[simp] theorem driveAux_pending : (driveAux s).pending = s.pending := rfl

@[simp] theorem updFeed_activeMap (f : Feed) (h : FeedRec → FeedRec) : (updFeed f h s).activeMap = s.activeMap := by cases f <;> rfl
@[simp] theorem updFeed_stagedMap (f : Feed) (h : FeedRec → FeedRec) : (updFeed f h s).stagedMap = s.stagedMap := by cases f <;> rfl
@[simp] theorem updFeed_supplies (f : Feed) (h : FeedRec → FeedRec) : (updFeed f h s).supplies = s.supplies := by cases f <;> rfl
@[simp] theorem updFeed_reserve (f : Feed) (h : FeedRec → FeedRec) : (updFeed f h s).reserve = s.reserve := by cases f <;> rfl
@[simp] theorem updFeed_budget (f : Feed) (h : FeedRec → FeedRec) : (updFeed f h s).budget = s.budget := by cases f <;> rfl
@[simp] theorem updFeed_held (f : Feed) (h : FeedRec → FeedRec) : (updFeed f h s).held = s.held := by cases f <;> rfl
@[simp] theorem updFeed_active (f : Feed) (h : FeedRec → FeedRec) : (updFeed f h s).active = s.active := by cases f <;> rfl
@[simp] theorem updFeed_queue (f : Feed) (h : FeedRec → FeedRec) : (updFeed f h s).queue = s.queue := by cases f <;> rfl
@[simp] theorem updFeed_entryStamps (f : Feed) (h : FeedRec → FeedRec) : (updFeed f h s).entryStamps = s.entryStamps := by cases f <;> rfl
@[simp] theorem updFeed_grantStamps (f : Feed) (h : FeedRec → FeedRec) : (updFeed f h s).grantStamps = s.grantStamps := by cases f <;> rfl
@[simp] theorem updFeed_claim (f : Feed) (h : FeedRec → FeedRec) : (updFeed f h s).claim = s.claim := by cases f <;> rfl
@[simp] theorem updFeed_policy (f : Feed) (h : FeedRec → FeedRec) : (updFeed f h s).policy = s.policy := by cases f <;> rfl
@[simp] theorem updFeed_slots (f : Feed) (h : FeedRec → FeedRec) : (updFeed f h s).slots = s.slots := by cases f <;> rfl
@[simp] theorem updFeed_notices (f : Feed) (h : FeedRec → FeedRec) : (updFeed f h s).notices = s.notices := by cases f <;> rfl
@[simp] theorem updFeed_nextNumber (f : Feed) (h : FeedRec → FeedRec) : (updFeed f h s).nextNumber = s.nextNumber := by cases f <;> rfl
@[simp] theorem updFeed_alertN (f : Feed) (h : FeedRec → FeedRec) : (updFeed f h s).alertN = s.alertN := by cases f <;> rfl
@[simp] theorem updFeed_link (f : Feed) (h : FeedRec → FeedRec) : (updFeed f h s).link = s.link := by cases f <;> rfl
@[simp] theorem updFeed_eoffN (f : Feed) (h : FeedRec → FeedRec) : (updFeed f h s).eoffN = s.eoffN := by cases f <;> rfl
@[simp] theorem updFeed_aux (f : Feed) (h : FeedRec → FeedRec) : (updFeed f h s).aux = s.aux := by cases f <;> rfl
@[simp] theorem updFeed_resetBy (f : Feed) (h : FeedRec → FeedRec) : (updFeed f h s).resetBy = s.resetBy := by cases f <;> rfl
@[simp] theorem updFeed_pending (f : Feed) (h : FeedRec → FeedRec) : (updFeed f h s).pending = s.pending := by cases f <;> rfl

@[simp] theorem setState_activeMap (f : Feed) (st : FeedState) : (setState f st s).activeMap = s.activeMap := by cases f <;> rfl
@[simp] theorem setState_stagedMap (f : Feed) (st : FeedState) : (setState f st s).stagedMap = s.stagedMap := by cases f <;> rfl
@[simp] theorem setState_supplies (f : Feed) (st : FeedState) : (setState f st s).supplies = s.supplies := by cases f <;> rfl
@[simp] theorem setState_reserve (f : Feed) (st : FeedState) : (setState f st s).reserve = s.reserve := by cases f <;> rfl
@[simp] theorem setState_budget (f : Feed) (st : FeedState) : (setState f st s).budget = s.budget := by cases f <;> rfl
@[simp] theorem setState_held (f : Feed) (st : FeedState) : (setState f st s).held = s.held := by cases f <;> rfl
@[simp] theorem setState_active (f : Feed) (st : FeedState) : (setState f st s).active = s.active := by cases f <;> rfl
@[simp] theorem setState_queue (f : Feed) (st : FeedState) : (setState f st s).queue = s.queue := by cases f <;> rfl
@[simp] theorem setState_entryStamps (f : Feed) (st : FeedState) : (setState f st s).entryStamps = s.entryStamps := by cases f <;> rfl
@[simp] theorem setState_grantStamps (f : Feed) (st : FeedState) : (setState f st s).grantStamps = s.grantStamps := by cases f <;> rfl
@[simp] theorem setState_claim (f : Feed) (st : FeedState) : (setState f st s).claim = s.claim := by cases f <;> rfl
@[simp] theorem setState_policy (f : Feed) (st : FeedState) : (setState f st s).policy = s.policy := by cases f <;> rfl
@[simp] theorem setState_slots (f : Feed) (st : FeedState) : (setState f st s).slots = s.slots := by cases f <;> rfl
@[simp] theorem setState_notices (f : Feed) (st : FeedState) : (setState f st s).notices = s.notices := by cases f <;> rfl
@[simp] theorem setState_nextNumber (f : Feed) (st : FeedState) : (setState f st s).nextNumber = s.nextNumber := by cases f <;> rfl
@[simp] theorem setState_alertN (f : Feed) (st : FeedState) : (setState f st s).alertN = s.alertN := by cases f <;> rfl
@[simp] theorem setState_link (f : Feed) (st : FeedState) : (setState f st s).link = s.link := by cases f <;> rfl
@[simp] theorem setState_eoffN (f : Feed) (st : FeedState) : (setState f st s).eoffN = s.eoffN := by cases f <;> rfl
@[simp] theorem setState_aux (f : Feed) (st : FeedState) : (setState f st s).aux = s.aux := by cases f <;> rfl
@[simp] theorem setState_resetBy (f : Feed) (st : FeedState) : (setState f st s).resetBy = s.resetBy := by cases f <;> rfl
@[simp] theorem setState_pending (f : Feed) (st : FeedState) : (setState f st s).pending = s.pending := by cases f <;> rfl

/-! ## Reads after updates -/

theorem outlet_of_outlets {s t : State} (h : t.outlets = s.outlets) (p : OutletId) : t.outlet p = s.outlet p := by
  rw [State.outlet, State.outlet, h]

theorem gang_of_gangs {s t : State} (h : t.gangs = s.gangs) (g : GangId) : t.gang g = s.gang g := by
  rw [State.gang, State.gang, h]

@[simp] theorem setOutlet_outlet_same (p : OutletId) (o : OutletRec) : (s.setOutlet p o).outlet p = o :=
  tget_tset_same s.outlets p o

theorem setOutlet_outlet (p q : OutletId) (o : OutletRec) :
    (s.setOutlet p o).outlet q = if q = p then o else s.outlet q :=
  tget_tset s.outlets p q o

theorem setOutlet_outlet_other (p q : OutletId) (o : OutletRec) (h : q ≠ p) :
    (s.setOutlet p o).outlet q = s.outlet q :=
  tget_tset_other s.outlets p q o h

@[simp] theorem updOutlet_outlet_same (p : OutletId) (f : OutletRec → OutletRec) :
    (updOutlet p f s).outlet p = f (s.outlet p) :=
  tget_tset_same s.outlets p _

theorem updOutlet_outlet (p q : OutletId) (f : OutletRec → OutletRec) :
    (updOutlet p f s).outlet q = if q = p then f (s.outlet p) else s.outlet q :=
  tget_tset s.outlets p q _

theorem updOutlet_outlet_other (p q : OutletId) (f : OutletRec → OutletRec) (h : q ≠ p) :
    (updOutlet p f s).outlet q = s.outlet q :=
  tget_tset_other s.outlets p q _ h

@[simp] theorem setGang_gang_same (g : GangId) (r : GangRec) : (s.setGang g r).gang g = r :=
  tget_tset_same s.gangs g r

@[simp] theorem updGang_gang_same (g : GangId) (f : GangRec → GangRec) : (updGang g f s).gang g = f (s.gang g) :=
  tget_tset_same s.gangs g _

theorem updGang_gang (g h : GangId) (f : GangRec → GangRec) :
    (updGang g f s).gang h = if h = g then f (s.gang g) else s.gang h :=
  tget_tset s.gangs g h _

@[simp] theorem setSlot_slot_same (n : SlotId) (x : Slot) : (s.setSlot n x).slot n = x := tget_tset_same s.slots n x

theorem setSlot_slot (n m : SlotId) (x : Slot) : (s.setSlot n x).slot m = if m = n then x else s.slot m :=
  tget_tset s.slots n m x

@[simp] theorem setSupply_supply_same (k : SupplyId) (r : SupplyRec) : (s.setSupply k r).supply k = r :=
  tget_tset_same s.supplies k r

theorem setSupply_supply (k j : SupplyId) (r : SupplyRec) :
    (s.setSupply k r).supply j = if j = k then r else s.supply j :=
  tget_tset s.supplies k j r

@[simp] theorem setAux_auxLine_same (k : AuxId) (l : AuxLine) : (s.setAux k l).auxLine k = l :=
  tget_tset_same s.aux k l

theorem setAux_auxLine (k j : AuxId) (l : AuxLine) : (s.setAux k l).auxLine j = if j = k then l else s.auxLine j :=
  tget_tset s.aux k j l

@[simp] theorem setOutlet_gang (p : OutletId) (o : OutletRec) (g : GangId) : (s.setOutlet p o).gang g = s.gang g := rfl
@[simp] theorem setOutlet_supply (p : OutletId) (o : OutletRec) (k : SupplyId) : (s.setOutlet p o).supply k = s.supply k := rfl
@[simp] theorem setOutlet_slot (p : OutletId) (o : OutletRec) (n : SlotId) : (s.setOutlet p o).slot n = s.slot n := rfl
@[simp] theorem setOutlet_auxLine (p : OutletId) (o : OutletRec) (k : AuxId) : (s.setOutlet p o).auxLine k = s.auxLine k := rfl
@[simp] theorem setOutlet_logicalOf (p : OutletId) (o : OutletRec) (q : OutletId) : (s.setOutlet p o).logicalOf q = s.logicalOf q := rfl
@[simp] theorem setOutlet_membersOf (p : OutletId) (o : OutletRec) (h : GangId) : (s.setOutlet p o).membersOf h = s.membersOf h := rfl
@[simp] theorem setOutlet_gangOf (p : OutletId) (o : OutletRec) (q : OutletId) : (s.setOutlet p o).gangOf q = s.gangOf q := rfl
@[simp] theorem setOutlet_feedOf (p : OutletId) (o : OutletRec) (q : OutletId) : (s.setOutlet p o).feedOf q = s.feedOf q := rfl
@[simp] theorem setOutlet_outletsOf (p : OutletId) (o : OutletRec) (fd : Feed) : (s.setOutlet p o).outletsOf fd = s.outletsOf fd := rfl
@[simp] theorem setGang_outlet (g : GangId) (r : GangRec) (p : OutletId) : (s.setGang g r).outlet p = s.outlet p := rfl
@[simp] theorem setGang_supply (g : GangId) (r : GangRec) (k : SupplyId) : (s.setGang g r).supply k = s.supply k := rfl
@[simp] theorem setGang_slot (g : GangId) (r : GangRec) (n : SlotId) : (s.setGang g r).slot n = s.slot n := rfl
@[simp] theorem setGang_auxLine (g : GangId) (r : GangRec) (k : AuxId) : (s.setGang g r).auxLine k = s.auxLine k := rfl
@[simp] theorem setGang_logicalOf (g : GangId) (r : GangRec) (q : OutletId) : (s.setGang g r).logicalOf q = s.logicalOf q := rfl
@[simp] theorem setGang_membersOf (g : GangId) (r : GangRec) (h : GangId) : (s.setGang g r).membersOf h = s.membersOf h := rfl
@[simp] theorem setGang_gangOf (g : GangId) (r : GangRec) (q : OutletId) : (s.setGang g r).gangOf q = s.gangOf q := rfl
@[simp] theorem setGang_feedOf (g : GangId) (r : GangRec) (q : OutletId) : (s.setGang g r).feedOf q = s.feedOf q := rfl
@[simp] theorem setGang_outletsOf (g : GangId) (r : GangRec) (fd : Feed) : (s.setGang g r).outletsOf fd = s.outletsOf fd := rfl
@[simp] theorem setSupply_outlet (k : SupplyId) (r : SupplyRec) (p : OutletId) : (s.setSupply k r).outlet p = s.outlet p := rfl
@[simp] theorem setSupply_gang (k : SupplyId) (r : SupplyRec) (g : GangId) : (s.setSupply k r).gang g = s.gang g := rfl
@[simp] theorem setSupply_slot (k : SupplyId) (r : SupplyRec) (n : SlotId) : (s.setSupply k r).slot n = s.slot n := rfl
@[simp] theorem setSupply_auxLine (k : SupplyId) (r : SupplyRec) (k' : AuxId) : (s.setSupply k r).auxLine k' = s.auxLine k' := rfl
@[simp] theorem setSupply_logicalOf (k : SupplyId) (r : SupplyRec) (q : OutletId) : (s.setSupply k r).logicalOf q = s.logicalOf q := rfl
@[simp] theorem setSupply_membersOf (k : SupplyId) (r : SupplyRec) (h : GangId) : (s.setSupply k r).membersOf h = s.membersOf h := rfl
@[simp] theorem setSupply_gangOf (k : SupplyId) (r : SupplyRec) (q : OutletId) : (s.setSupply k r).gangOf q = s.gangOf q := rfl
@[simp] theorem setSupply_feedOf (k : SupplyId) (r : SupplyRec) (q : OutletId) : (s.setSupply k r).feedOf q = s.feedOf q := rfl
@[simp] theorem setSupply_outletsOf (k : SupplyId) (r : SupplyRec) (fd : Feed) : (s.setSupply k r).outletsOf fd = s.outletsOf fd := rfl
@[simp] theorem setSlot_outlet (n : SlotId) (x : Slot) (p : OutletId) : (s.setSlot n x).outlet p = s.outlet p := rfl
@[simp] theorem setSlot_gang (n : SlotId) (x : Slot) (g : GangId) : (s.setSlot n x).gang g = s.gang g := rfl
@[simp] theorem setSlot_supply (n : SlotId) (x : Slot) (k : SupplyId) : (s.setSlot n x).supply k = s.supply k := rfl
@[simp] theorem setSlot_auxLine (n : SlotId) (x : Slot) (k : AuxId) : (s.setSlot n x).auxLine k = s.auxLine k := rfl
@[simp] theorem setSlot_logicalOf (n : SlotId) (x : Slot) (q : OutletId) : (s.setSlot n x).logicalOf q = s.logicalOf q := rfl
@[simp] theorem setSlot_membersOf (n : SlotId) (x : Slot) (h : GangId) : (s.setSlot n x).membersOf h = s.membersOf h := rfl
@[simp] theorem setSlot_gangOf (n : SlotId) (x : Slot) (q : OutletId) : (s.setSlot n x).gangOf q = s.gangOf q := rfl
@[simp] theorem setSlot_feedOf (n : SlotId) (x : Slot) (q : OutletId) : (s.setSlot n x).feedOf q = s.feedOf q := rfl
@[simp] theorem setSlot_outletsOf (n : SlotId) (x : Slot) (fd : Feed) : (s.setSlot n x).outletsOf fd = s.outletsOf fd := rfl
@[simp] theorem setAux_outlet (k : AuxId) (l : AuxLine) (p : OutletId) : (s.setAux k l).outlet p = s.outlet p := rfl
@[simp] theorem setAux_gang (k : AuxId) (l : AuxLine) (g : GangId) : (s.setAux k l).gang g = s.gang g := rfl
@[simp] theorem setAux_supply (k : AuxId) (l : AuxLine) (k' : SupplyId) : (s.setAux k l).supply k' = s.supply k' := rfl
@[simp] theorem setAux_slot (k : AuxId) (l : AuxLine) (n : SlotId) : (s.setAux k l).slot n = s.slot n := rfl
@[simp] theorem setAux_logicalOf (k : AuxId) (l : AuxLine) (q : OutletId) : (s.setAux k l).logicalOf q = s.logicalOf q := rfl
@[simp] theorem setAux_membersOf (k : AuxId) (l : AuxLine) (h : GangId) : (s.setAux k l).membersOf h = s.membersOf h := rfl
@[simp] theorem setAux_gangOf (k : AuxId) (l : AuxLine) (q : OutletId) : (s.setAux k l).gangOf q = s.gangOf q := rfl
@[simp] theorem setAux_feedOf (k : AuxId) (l : AuxLine) (q : OutletId) : (s.setAux k l).feedOf q = s.feedOf q := rfl
@[simp] theorem setAux_outletsOf (k : AuxId) (l : AuxLine) (fd : Feed) : (s.setAux k l).outletsOf fd = s.outletsOf fd := rfl
@[simp] theorem updOutlet_gang (p : OutletId) (f : OutletRec → OutletRec) (g : GangId) : (updOutlet p f s).gang g = s.gang g := rfl
@[simp] theorem updOutlet_supply (p : OutletId) (f : OutletRec → OutletRec) (k : SupplyId) : (updOutlet p f s).supply k = s.supply k := rfl
@[simp] theorem updOutlet_slot (p : OutletId) (f : OutletRec → OutletRec) (n : SlotId) : (updOutlet p f s).slot n = s.slot n := rfl
@[simp] theorem updOutlet_auxLine (p : OutletId) (f : OutletRec → OutletRec) (k : AuxId) : (updOutlet p f s).auxLine k = s.auxLine k := rfl
@[simp] theorem updOutlet_logicalOf (p : OutletId) (f : OutletRec → OutletRec) (q : OutletId) : (updOutlet p f s).logicalOf q = s.logicalOf q := rfl
@[simp] theorem updOutlet_membersOf (p : OutletId) (f : OutletRec → OutletRec) (h : GangId) : (updOutlet p f s).membersOf h = s.membersOf h := rfl
@[simp] theorem updOutlet_gangOf (p : OutletId) (f : OutletRec → OutletRec) (q : OutletId) : (updOutlet p f s).gangOf q = s.gangOf q := rfl
@[simp] theorem updOutlet_feedOf (p : OutletId) (f : OutletRec → OutletRec) (q : OutletId) : (updOutlet p f s).feedOf q = s.feedOf q := rfl
@[simp] theorem updOutlet_outletsOf (p : OutletId) (f : OutletRec → OutletRec) (fd : Feed) : (updOutlet p f s).outletsOf fd = s.outletsOf fd := rfl
@[simp] theorem updGang_outlet (g : GangId) (f : GangRec → GangRec) (p : OutletId) : (updGang g f s).outlet p = s.outlet p := rfl
@[simp] theorem updGang_supply (g : GangId) (f : GangRec → GangRec) (k : SupplyId) : (updGang g f s).supply k = s.supply k := rfl
@[simp] theorem updGang_slot (g : GangId) (f : GangRec → GangRec) (n : SlotId) : (updGang g f s).slot n = s.slot n := rfl
@[simp] theorem updGang_auxLine (g : GangId) (f : GangRec → GangRec) (k : AuxId) : (updGang g f s).auxLine k = s.auxLine k := rfl
@[simp] theorem updGang_logicalOf (g : GangId) (f : GangRec → GangRec) (q : OutletId) : (updGang g f s).logicalOf q = s.logicalOf q := rfl
@[simp] theorem updGang_membersOf (g : GangId) (f : GangRec → GangRec) (h : GangId) : (updGang g f s).membersOf h = s.membersOf h := rfl
@[simp] theorem updGang_gangOf (g : GangId) (f : GangRec → GangRec) (q : OutletId) : (updGang g f s).gangOf q = s.gangOf q := rfl
@[simp] theorem updGang_feedOf (g : GangId) (f : GangRec → GangRec) (q : OutletId) : (updGang g f s).feedOf q = s.feedOf q := rfl
@[simp] theorem updGang_outletsOf (g : GangId) (f : GangRec → GangRec) (fd : Feed) : (updGang g f s).outletsOf fd = s.outletsOf fd := rfl
@[simp] theorem raise_outlet (subj : Subject) (fl : NoticeFlag) (p : OutletId) : (raise subj fl s).outlet p = s.outlet p := rfl
@[simp] theorem raise_gang (subj : Subject) (fl : NoticeFlag) (g : GangId) : (raise subj fl s).gang g = s.gang g := rfl
@[simp] theorem raise_supply (subj : Subject) (fl : NoticeFlag) (k : SupplyId) : (raise subj fl s).supply k = s.supply k := rfl
@[simp] theorem raise_slot (subj : Subject) (fl : NoticeFlag) (n : SlotId) : (raise subj fl s).slot n = s.slot n := rfl
@[simp] theorem raise_auxLine (subj : Subject) (fl : NoticeFlag) (k : AuxId) : (raise subj fl s).auxLine k = s.auxLine k := rfl
@[simp] theorem raise_logicalOf (subj : Subject) (fl : NoticeFlag) (q : OutletId) : (raise subj fl s).logicalOf q = s.logicalOf q := rfl
@[simp] theorem raise_membersOf (subj : Subject) (fl : NoticeFlag) (h : GangId) : (raise subj fl s).membersOf h = s.membersOf h := rfl
@[simp] theorem raise_gangOf (subj : Subject) (fl : NoticeFlag) (q : OutletId) : (raise subj fl s).gangOf q = s.gangOf q := rfl
@[simp] theorem raise_feedOf (subj : Subject) (fl : NoticeFlag) (q : OutletId) : (raise subj fl s).feedOf q = s.feedOf q := rfl
@[simp] theorem raise_outletsOf (subj : Subject) (fl : NoticeFlag) (fd : Feed) : (raise subj fl s).outletsOf fd = s.outletsOf fd := rfl
@[simp] theorem driveAux_outlet (p : OutletId) : (driveAux s).outlet p = s.outlet p := rfl
@[simp] theorem driveAux_gang (g : GangId) : (driveAux s).gang g = s.gang g := rfl
@[simp] theorem driveAux_supply (k : SupplyId) : (driveAux s).supply k = s.supply k := rfl
@[simp] theorem driveAux_slot (n : SlotId) : (driveAux s).slot n = s.slot n := rfl
@[simp] theorem driveAux_logicalOf (q : OutletId) : (driveAux s).logicalOf q = s.logicalOf q := rfl
@[simp] theorem driveAux_membersOf (h : GangId) : (driveAux s).membersOf h = s.membersOf h := rfl
@[simp] theorem driveAux_gangOf (q : OutletId) : (driveAux s).gangOf q = s.gangOf q := rfl
@[simp] theorem driveAux_feedOf (q : OutletId) : (driveAux s).feedOf q = s.feedOf q := rfl
@[simp] theorem driveAux_outletsOf (fd : Feed) : (driveAux s).outletsOf fd = s.outletsOf fd := rfl
@[simp] theorem updFeed_supply (f : Feed) (h : FeedRec → FeedRec) (k' : SupplyId) : (updFeed f h s).supply k' = s.supply k' := by cases f <;> rfl
@[simp] theorem updFeed_slot (f : Feed) (h : FeedRec → FeedRec) (n' : SlotId) : (updFeed f h s).slot n' = s.slot n' := by cases f <;> rfl
@[simp] theorem updFeed_auxLine (f : Feed) (h : FeedRec → FeedRec) (k' : AuxId) : (updFeed f h s).auxLine k' = s.auxLine k' := by cases f <;> rfl
@[simp] theorem updFeed_logicalOf (f : Feed) (h : FeedRec → FeedRec) (q' : OutletId) : (updFeed f h s).logicalOf q' = s.logicalOf q' := by cases f <;> rfl
@[simp] theorem updFeed_membersOf (f : Feed) (h : FeedRec → FeedRec) (h' : GangId) : (updFeed f h s).membersOf h' = s.membersOf h' := by cases f <;> rfl
@[simp] theorem updFeed_gangOf (f : Feed) (h : FeedRec → FeedRec) (q' : OutletId) : (updFeed f h s).gangOf q' = s.gangOf q' := by cases f <;> rfl
@[simp] theorem updFeed_feedOf (f : Feed) (h : FeedRec → FeedRec) (q' : OutletId) : (updFeed f h s).feedOf q' = s.feedOf q' := by cases f <;> rfl
@[simp] theorem updFeed_outletsOf (f : Feed) (h : FeedRec → FeedRec) (fd' : Feed) : (updFeed f h s).outletsOf fd' = s.outletsOf fd' := by cases f <;> rfl
@[simp] theorem setOutlet_eoff (p : OutletId) (o : OutletRec) : (s.setOutlet p o).eoff = s.eoff := rfl
@[simp] theorem setOutlet_hold (p : OutletId) (o : OutletRec) : (s.setOutlet p o).hold = s.hold := rfl
@[simp] theorem setOutlet_inReset (p : OutletId) (o : OutletRec) : (s.setOutlet p o).inReset = s.inReset := rfl
@[simp] theorem setGang_eoff (g : GangId) (r : GangRec) : (s.setGang g r).eoff = s.eoff := rfl
@[simp] theorem setGang_hold (g : GangId) (r : GangRec) : (s.setGang g r).hold = s.hold := rfl
@[simp] theorem setGang_inReset (g : GangId) (r : GangRec) : (s.setGang g r).inReset = s.inReset := rfl
@[simp] theorem setSupply_eoff (k : SupplyId) (r : SupplyRec) : (s.setSupply k r).eoff = s.eoff := rfl
@[simp] theorem setSupply_hold (k : SupplyId) (r : SupplyRec) : (s.setSupply k r).hold = s.hold := rfl
@[simp] theorem setSupply_inReset (k : SupplyId) (r : SupplyRec) : (s.setSupply k r).inReset = s.inReset := rfl
@[simp] theorem setSlot_eoff (n : SlotId) (x : Slot) : (s.setSlot n x).eoff = s.eoff := rfl
@[simp] theorem setSlot_hold (n : SlotId) (x : Slot) : (s.setSlot n x).hold = s.hold := rfl
@[simp] theorem setSlot_inReset (n : SlotId) (x : Slot) : (s.setSlot n x).inReset = s.inReset := rfl
@[simp] theorem setAux_inReset (k : AuxId) (l : AuxLine) : (s.setAux k l).inReset = s.inReset := rfl
@[simp] theorem updOutlet_eoff (p : OutletId) (f : OutletRec → OutletRec) : (updOutlet p f s).eoff = s.eoff := rfl
@[simp] theorem updOutlet_hold (p : OutletId) (f : OutletRec → OutletRec) : (updOutlet p f s).hold = s.hold := rfl
@[simp] theorem updOutlet_inReset (p : OutletId) (f : OutletRec → OutletRec) : (updOutlet p f s).inReset = s.inReset := rfl
@[simp] theorem updGang_eoff (g : GangId) (f : GangRec → GangRec) : (updGang g f s).eoff = s.eoff := rfl
@[simp] theorem updGang_hold (g : GangId) (f : GangRec → GangRec) : (updGang g f s).hold = s.hold := rfl
@[simp] theorem updGang_inReset (g : GangId) (f : GangRec → GangRec) : (updGang g f s).inReset = s.inReset := rfl
@[simp] theorem raise_eoff (subj : Subject) (fl : NoticeFlag) : (raise subj fl s).eoff = s.eoff := rfl
@[simp] theorem raise_hold (subj : Subject) (fl : NoticeFlag) : (raise subj fl s).hold = s.hold := rfl
@[simp] theorem raise_inReset (subj : Subject) (fl : NoticeFlag) : (raise subj fl s).inReset = s.inReset := rfl
@[simp] theorem driveAux_inReset : (driveAux s).inReset = s.inReset := rfl
@[simp] theorem updFeed_eoff (f : Feed) (h : FeedRec → FeedRec) : (updFeed f h s).eoff = s.eoff := by cases f <;> rfl
@[simp] theorem updFeed_hold (f : Feed) (h : FeedRec → FeedRec) : (updFeed f h s).hold = s.hold := by cases f <;> rfl
@[simp] theorem updFeed_inReset (f : Feed) (h : FeedRec → FeedRec) : (updFeed f h s).inReset = s.inReset := by cases f <;> rfl
@[simp] theorem setState_eoff (f : Feed) (st : FeedState) : (setState f st s).eoff = s.eoff := by cases f <;> rfl
@[simp] theorem setState_hold (f : Feed) (st : FeedState) : (setState f st s).hold = s.hold := by cases f <;> rfl
@[simp] theorem setState_inReset (f : Feed) (st : FeedState) : (setState f st s).inReset = s.inReset := by cases f <;> rfl

@[simp] theorem updFeed_feedRec_same (f : Feed) (h : FeedRec → FeedRec) :
    (updFeed f h s).feedRec f = h (s.feedRec f) := by
  cases f <;> simp [updFeed, State.feedRec]

theorem updFeed_feedRec_other (f f' : Feed) (h : FeedRec → FeedRec) (hne : f' ≠ f) :
    (updFeed f h s).feedRec f' = s.feedRec f' := by
  cases f <;> cases f' <;> simp only [updFeed, State.feedRec, updOutlet_outlet, updGang_gang] <;> try rfl
  all_goals
    split
    · next e => subst e; exact absurd rfl hne
    · rfl

@[simp] theorem setState_feedState_same (f : Feed) (st : FeedState) : (setState f st s).feedState f = st := by
  simp [setState, State.feedState]

/-! ## Auxiliary outputs -/

theorem driveAux_auxLine (k : AuxId) : (driveAux s).auxLine k = s.driven k := by
  fin_cases k <;> rfl

@[simp] theorem driveAux_fn (k : AuxId) : ((driveAux s).auxLine k).fn = (s.auxLine k).fn := by
  rw [driveAux_auxLine]; rfl

@[simp] theorem driveAux_input (k : AuxId) : ((driveAux s).auxLine k).input = (s.auxLine k).input := by
  rw [driveAux_auxLine]; rfl

@[simp] theorem driveAux_out (k : AuxId) : ((driveAux s).auxLine k).out = s.lineOut (s.auxLine k).fn := by
  rw [driveAux_auxLine]; rfl

@[simp] theorem driveAux_eoff : (driveAux s).eoff = s.eoff := by
  simp [State.eoff]

@[simp] theorem driveAux_hold : (driveAux s).hold = s.hold := by
  simp [State.hold]

/-! ## Repeated writes and writes of what stands -/

@[simp] theorem setOutlet_setOutlet (p : OutletId) (o r : OutletRec) :
    (s.setOutlet p o).setOutlet p r = s.setOutlet p r := by simp [State.setOutlet]

@[simp] theorem setOutlet_outlet_self (p : OutletId) : s.setOutlet p (s.outlet p) = s := by
  simp [State.setOutlet, State.outlet]

@[simp] theorem setGang_setGang (g : GangId) (r x : GangRec) : (s.setGang g r).setGang g x = s.setGang g x := by
  simp [State.setGang]

@[simp] theorem setGang_gang_self (g : GangId) : s.setGang g (s.gang g) = s := by simp [State.setGang, State.gang]

@[simp] theorem setSupply_setSupply (k : SupplyId) (r x : SupplyRec) :
    (s.setSupply k r).setSupply k x = s.setSupply k x := by simp [State.setSupply]

@[simp] theorem setSlot_setSlot (n : SlotId) (x y : Slot) : (s.setSlot n x).setSlot n y = s.setSlot n y := by
  simp [State.setSlot]

@[simp] theorem setAux_setAux (k : AuxId) (l m : AuxLine) : (s.setAux k l).setAux k m = s.setAux k m := by
  simp [State.setAux]

@[simp] theorem driveAux_driveAux : driveAux (driveAux s) = driveAux s := by
  unfold driveAux
  rfl

end Sys2Proof.Machine
end

