-- ==== Sys2Proof/Laws/Frame.lean ====
section
/-! SUPPORT. What the shared power operations leave alone. `Fixed s t` says that `t` differs from `s` at most in the
outlets, the gangs, the totals, the queue and its counters, the claim, the slots and the notices: one lemma for each
operation, cited in place of its definition. -/

namespace Sys2Proof.Machine

/-- `t` has the maps, supplies, reserve, budget, policy, link, lines, reset causes and waiting commands of `s`. -/
structure Fixed (s t : State) : Prop where
  activeMap : t.activeMap = s.activeMap
  stagedMap : t.stagedMap = s.stagedMap
  supplies : t.supplies = s.supplies
  reserve : t.reserve = s.reserve
  budget : t.budget = s.budget
  policy : t.policy = s.policy
  nextNumber : t.nextNumber = s.nextNumber
  link : t.link = s.link
  eoffN : t.eoffN = s.eoffN
  aux : t.aux = s.aux
  resetBy : t.resetBy = s.resetBy
  pending : t.pending = s.pending

theorem Fixed.refl (s : State) : Fixed s s := ⟨rfl, rfl, rfl, rfl, rfl, rfl, rfl, rfl, rfl, rfl, rfl, rfl⟩

theorem Fixed.trans {s t u : State} (a : Fixed s t) (b : Fixed t u) : Fixed s u :=
  ⟨b.1.trans a.1, b.2.trans a.2, b.3.trans a.3, b.4.trans a.4, b.5.trans a.5, b.6.trans a.6, b.7.trans a.7,
   b.8.trans a.8, b.9.trans a.9, b.10.trans a.10, b.11.trans a.11, b.12.trans a.12⟩

theorem Fixed.foldl {α : Type} {g : State → α → State} (hg : ∀ s x, Fixed s (g s x)) (l : List α) (s : State) :
    Fixed s (l.foldl g s) := by
  induction l generalizing s with
  | nil => exact Fixed.refl s
  | cons x l ih => exact (hg s x).trans (ih (g s x))

section
variable {s t : State} (h : Fixed s t)
include h

theorem Fixed.feedOf (p : OutletId) : t.feedOf p = s.feedOf p := by
  simp only [State.feedOf, State.logicalOf, State.gangOf, h.activeMap]

theorem Fixed.membersOf (g : GangId) : t.membersOf g = s.membersOf g := by
  simp only [State.membersOf, h.activeMap]

theorem Fixed.logicalOf (p : OutletId) : t.logicalOf p = s.logicalOf p := by
  simp only [State.logicalOf, h.activeMap]

theorem Fixed.outletsOf (f : Feed) : t.outletsOf f = s.outletsOf f := by
  cases f with
  | solo p => rfl
  | gang g => simp only [State.outletsOf, h.membersOf]

theorem Fixed.feeds : t.feeds = s.feeds := by
  have : t.leads = s.leads := by
    funext p
    simp only [State.leads, h.feedOf, h.outletsOf]
  simp only [State.feeds, this]

theorem Fixed.auxLine : t.auxLine = s.auxLine := by
  funext k
  simp only [State.auxLine, h.aux]

theorem Fixed.eoff : t.eoff = s.eoff := by
  unfold State.eoff
  rw [h.auxLine, h.eoffN]

theorem Fixed.hold : t.hold = s.hold := by
  unfold State.hold
  rw [h.auxLine]

theorem Fixed.inReset : t.inReset = s.inReset := by
  simp only [State.inReset, h.resetBy]

theorem Fixed.supply (k : SupplyId) : t.supply k = s.supply k := by
  simp only [State.supply, h.supplies]

end

/-- A chain of record updates outside the fixed fields. -/
theorem fixed_of {s t : State} (h : ({ t with
    outlets := s.outlets, gangs := s.gangs, held := s.held, active := s.active, queue := s.queue,
    entryStamps := s.entryStamps, grantStamps := s.grantStamps, claim := s.claim, slots := s.slots,
    notices := s.notices, alertN := s.alertN } : State) = s) : Fixed s t := by
  cases s
  injection h with h1 h2 h3 h4 h5 h6 h7 h8 h9 h10 h11 h12 h13 h14 h15 h16 h17 h18 h19 h20 h21 h22 h23
  exact ⟨h3, h4, h5, h6, h7, h14, h17, h19, h20, h21, h22, h23⟩

theorem fixed_updOutlet (p : OutletId) (f : OutletRec → OutletRec) (s : State) : Fixed s (updOutlet p f s) :=
  fixed_of rfl

theorem fixed_updGang (g : GangId) (f : GangRec → GangRec) (s : State) : Fixed s (updGang g f s) := fixed_of rfl

theorem fixed_updFeed (f : Feed) (h : FeedRec → FeedRec) (s : State) : Fixed s (updFeed f h s) := by
  cases f <;> exact fixed_of rfl

theorem fixed_setState (f : Feed) (st : FeedState) (s : State) : Fixed s (setState f st s) := fixed_updFeed f _ s

theorem fixed_redirect (f : Feed) (c : StopCause) (d : Dest) (s : State) : Fixed s (redirect f c d s) :=
  fixed_setState f _ s

theorem fixed_setSlot (n : SlotId) (x : Slot) (s : State) : Fixed s (s.setSlot n x) := fixed_of rfl

theorem fixed_raise (subj : Subject) (fl : NoticeFlag) (s : State) : Fixed s (raise subj fl s) := fixed_of rfl

theorem fixed_bindSlot (n : SlotId) (op : SlotOp) (f : Feed) (s : State) : Fixed s (bindSlot n op f s) :=
  (fixed_setSlot n _ s).trans (fixed_updFeed f _ _)

theorem fixed_completeOp (k : PowerKind) (o : Completion) (f : Feed) (s : State) : Fixed s (completeOp k o f s) := by
  unfold completeOp
  split
  · exact Fixed.refl s
  · split
    · split
      · exact ((fixed_setSlot _ _ s).trans (fixed_updFeed f _ _)).trans (fixed_raise _ _ _)
      · exact Fixed.refl s
    · exact Fixed.refl s

theorem fixed_makeEntry (f : Feed) (o : Origin) (s : State) : Fixed s (makeEntry f o s) := fixed_of rfl

theorem fixed_enterQueued (f : Feed) (o : Origin) (s : State) : Fixed s (enterQueued f o s) :=
  (fixed_updFeed f _ s).trans (fixed_makeEntry f o _)

theorem fixed_withdraw (f : Feed) (s : State) : Fixed s (withdraw f s) := by
  unfold withdraw
  refine Fixed.trans ?_ (fixed_setState f _ _)
  exact fixed_of rfl

theorem fixed_leaveRetry (f : Feed) (s : State) : Fixed s (leaveRetry f s) := fixed_updFeed f _ s

theorem fixed_updEntry (f : Feed) (h : Entry → Entry) (s : State) : Fixed s (updEntry f h s) := by
  unfold updEntry
  split
  · exact fixed_of rfl
  · exact Fixed.refl s

theorem fixed_dropClaim (s : State) : Fixed s (dropClaim s) := fixed_of rfl

theorem fixed_refit (s : State) : Fixed s (refit s) := fixed_of rfl

theorem fixed_stopFeed (f : Feed) (c : StopCause) (d : Dest) (s : State) : Fixed s (stopFeed f c d s) := by
  refine Fixed.trans (Fixed.foldl (g := stopOutlet) (fun s p => fixed_of rfl) (s.outletsOf f) s) ?_
  unfold stopFeed stopRecord
  cases f with
  | solo p => exact fixed_updFeed _ _ _
  | gang g => exact fixed_updGang _ _ _

theorem fixed_recordFault (f : Feed) (p : OutletId) (c : FaultCause) (s : State) :
    Fixed s (recordFault f p c s) := by
  unfold recordFault
  cases f with
  | solo q => exact (fixed_updFeed _ _ s).trans (fixed_updOutlet _ _ _)
  | gang g => exact ((fixed_updFeed _ _ s).trans (fixed_updOutlet _ _ _)).trans (fixed_updGang _ _ _)

theorem fixed_raiseFault (f : Feed) (p : OutletId) (s : State) : Fixed s (raiseFault f p s) := by
  cases f with
  | solo q => exact fixed_raise _ _ s
  | gang g => exact (fixed_raise _ _ s).trans (fixed_raise _ _ _)

theorem fixed_faultFeed (f : Feed) (p : OutletId) (c : FaultCause) (s : State) : Fixed s (faultFeed f p c s) := by
  unfold faultFeed
  dsimp only
  split
  · exact (((fixed_recordFault f p c s).trans (fixed_stopFeed _ _ _ _)).trans (fixed_raiseFault _ _ _)).trans
      (fixed_raise _ _ _)
  · exact ((((fixed_recordFault f p c s).trans (fixed_completeOp _ _ _ _)).trans (fixed_stopFeed _ _ _ _)).trans
      (fixed_raiseFault _ _ _)).trans (fixed_raise _ _ _)

theorem fixed_takeFault (p : OutletId) (c : FaultCause) (s : State) : Fixed s (takeFault p c s) := by
  unfold takeFault
  split
  · exact Fixed.refl s
  · split
    · exact fixed_faultFeed _ _ _ _
    · exact Fixed.refl s

theorem fixed_qualify (p : OutletId) (s : State) : Fixed s (qualify p s) := by
  unfold qualify
  dsimp only
  split
  · exact (fixed_updOutlet p _ s).trans (fixed_takeFault p _ _)
  · split
    · exact (fixed_updOutlet p _ s).trans (fixed_updOutlet p _ _)
    · exact ((fixed_updOutlet p _ s).trans (fixed_updOutlet p _ _)).trans (fixed_takeFault p _ _)

theorem fixed_examine (p : OutletId) (s : State) : Fixed s (examine p s) := by
  unfold examine
  split
  · exact fixed_qualify p s
  · exact fixed_updOutlet p _ s

theorem fixed_afterGrant (ps : List OutletId) (s : State) : Fixed s (afterGrant ps s) := by
  unfold afterGrant
  split
  · split
    · exact fixed_takeFault _ _ s
    · exact Fixed.refl s
  · refine Fixed.foldl (fun s p => ?_) ps s
    unfold examineAtEntry
    split
    · exact fixed_examine p s
    · exact Fixed.refl s

theorem fixed_grantFeed (f : Feed) (s : State) : Fixed s (grantFeed f s) := by
  unfold grantFeed
  refine Fixed.trans ?_ (fixed_afterGrant _ _)
  refine Fixed.trans ?_ (fixed_raise _ _ _)
  refine Fixed.trans ?_ (fixed_setState _ _ _)
  refine Fixed.trans (t := { s with grantStamps := s.grantStamps + 1 }) (fixed_of rfl) ?_
  exact Fixed.foldl (g := grantOutlet _) (fun s p => fixed_of rfl) (s.outletsOf f) _

theorem fixed_stopVictim (c : StopCause) (f : Feed) (s : State) : Fixed s (stopVictim c f s) := by
  unfold stopVictim
  have h := ((fixed_stopFeed f c (destOf (s.shedPolicyOf f)) s).trans (fixed_raise (subjectOf f) .shed _)).trans
    (fixed_raise (subjectOf f) .state _)
  dsimp only
  split
  · exact h.trans (fixed_completeOp _ _ _ _)
  · exact h

theorem fixed_returnAlloc (p : OutletId) (s : State) : Fixed s (returnAlloc p s) := fixed_of rfl

theorem fixed_enterDest (f : Feed) (d : Dest) (s : State) : Fixed s (enterDest f d s) := by
  unfold enterDest
  cases d with
  | off => exact fixed_setState _ _ _
  | queued => exact fixed_enterQueued _ _ _
  | retryWait => exact fixed_updFeed _ _ _
  | latched => exact fixed_setState _ _ _

theorem fixed_grantEntry (e : Entry) (s : State) : Fixed s (grantEntry e s) := by
  unfold grantEntry
  refine Fixed.trans ?_ (fixed_grantFeed e.feed _)
  exact fixed_of rfl

theorem fixed_claimantStage (s : State) : Fixed s (claimantStage s) := by
  unfold claimantStage
  split
  · exact Fixed.refl s
  · split
    · exact Fixed.refl s
    · split
      · exact fixed_grantEntry _ s
      · exact Fixed.refl s

theorem fixed_walk (m : AdmissionMode) (es : List Entry) (b : Option Entry) (s : State) :
    Fixed s (walk m es b s).1 := by
  induction es generalizing b s with
  | nil => exact Fixed.refl s
  | cons e es ih =>
    unfold walk
    split
    · exact ih b s
    · split
      · exact (fixed_grantEntry e s).trans (ih b _)
      · split
        · exact Fixed.refl s
        · exact ih _ s

theorem fixed_preempt (e : Entry) (s : State) : Fixed s (preempt e s) := by
  unfold preempt
  split
  · split
    · exact Fixed.refl s
    · next vs _ =>
      exact Fixed.trans (Fixed.foldl (fun t r => fixed_stopVictim .preempt r.feed t) vs s) (fixed_of rfl)
  · exact Fixed.refl s

/-- An admission pass changes no map, supply, budget, policy, line or link. -/
theorem fixed_pass (s : State) : Fixed s (pass s) := by
  unfold pass
  split
  · exact Fixed.refl s
  · have h := (fixed_claimantStage s).trans (fixed_walk (claimantStage s).policy.mode (claimantStage s).queue none _)
    dsimp only
    split
    · exact h
    · exact h.trans (fixed_preempt _ _)

theorem fixed_passIf (b : Bool) (s : State) : Fixed s (passIf b s) := by
  cases b
  · exact Fixed.refl s
  · exact fixed_pass s

theorem fixed_shedAll (s : State) : Fixed s (shedAll s).1 := by
  have key : ∀ (l : List Running) (t : State × Nat), Fixed t.1 (l.foldl shedStep t).1 := by
    intro l
    induction l with
    | nil => exact fun t => Fixed.refl t.1
    | cons r l ih =>
      intro t
      refine Fixed.trans ?_ (ih (shedStep t r))
      unfold shedStep
      split
      · exact Fixed.refl t.1
      · exact fixed_stopVictim .shed r.feed t.1
  exact key s.victims (s, 0)

theorem fixed_soloDischarged (p : OutletId) (d : Dest) (s : State) : Fixed s (soloDischarged p d s) :=
  ((((fixed_returnAlloc p s).trans (fixed_enterDest _ _ _)).trans (fixed_raise _ _ _)).trans
    (fixed_completeOp _ _ _ _)).trans (fixed_pass _)

theorem fixed_soloTimeout (p : OutletId) (s : State) : Fixed s (soloTimeout p s) :=
  (((((((fixed_returnAlloc p s).trans (fixed_updOutlet _ _ _)).trans (fixed_setState _ _ _)).trans
    (fixed_raise _ _ _)).trans (fixed_completeOp _ _ _ _)).trans (fixed_completeOp _ _ _ _)).trans
    (fixed_raise _ _ _)).trans (fixed_pass _)

theorem fixed_gangLeaves (g : GangId) (s : State) : Fixed s (gangLeaves g s) := by
  unfold gangLeaves
  split
  · exact ((fixed_enterDest _ _ s).trans (fixed_completeOp _ _ _ _)).trans (fixed_raise _ _ _)
  · exact Fixed.refl s

theorem fixed_memberReturned (g : GangId) (s : State) : Fixed s (memberReturned g s) := by
  unfold memberReturned
  split
  · exact (fixed_gangLeaves g s).trans (fixed_pass _)
  · exact fixed_pass s

theorem fixed_memberDischarged (g : GangId) (p : OutletId) (s : State) : Fixed s (memberDischarged g p s) :=
  (fixed_returnAlloc p s).trans (fixed_memberReturned g _)

theorem fixed_memberTimeout (g : GangId) (c : StopCause) (p : OutletId) (s : State) :
    Fixed s (memberTimeout g c p s) :=
  (((((((fixed_returnAlloc p s).trans (fixed_updOutlet _ _ _)).trans (fixed_redirect _ _ _ _)).trans
    (fixed_updGang _ _ _)).trans (fixed_completeOp _ _ _ _)).trans (fixed_raise _ _ _)).trans
    (fixed_raise _ _ _)).trans (fixed_memberReturned g _)

theorem fixed_emergencyFeed (s : State) (f : Feed) : Fixed s (emergencyFeed s f) := by
  unfold emergencyFeed
  split
  · exact ((fixed_stopFeed _ _ _ s).trans (fixed_raise _ _ _)).trans (fixed_completeOp _ _ _ _)
  · exact ((fixed_stopFeed _ _ _ s).trans (fixed_raise _ _ _)).trans (fixed_completeOp _ _ _ _)
  · exact (fixed_redirect _ _ _ s).trans (fixed_completeOp _ _ _ _)
  · exact (fixed_redirect _ _ _ s).trans (fixed_completeOp _ _ _ _)
  · exact Fixed.refl s
  · exact Fixed.refl s
  · exact ((fixed_withdraw _ s).trans (fixed_raise _ _ _)).trans (fixed_completeOp _ _ _ _)
  · exact ((fixed_leaveRetry _ s).trans (fixed_raise _ _ _)).trans (fixed_completeOp _ _ _ _)
  · exact Fixed.refl s
  · exact Fixed.refl s

theorem fixed_assertEoff (s : State) : Fixed s (assertEoff s) :=
  (((fixed_raise _ _ s).trans (Fixed.foldl fixed_emergencyFeed s.feeds _)).trans (fixed_dropClaim _)).trans
    (fixed_pass _)

theorem fixed_releaseEoff (s : State) : Fixed s (releaseEoff s) := by
  refine (fixed_raise _ _ s).trans (Fixed.foldl (fun s p => ?_) allOutlets _)
  unfold releaseOutlet
  split
  · exact (fixed_enterQueued _ _ s).trans (fixed_raise _ _ _)
  · exact Fixed.refl s

/-- A recomputation changes the budget alone of the fixed fields. -/
theorem fixed_recompute (s : State) : Fixed { s with budget := s.budgetNow } (recompute s).1 := by
  unfold recompute
  dsimp only
  split
  · exact ((Fixed.trans (t := refit { s with budget := s.budgetNow, claim := none }) (fixed_of rfl)
      (fixed_shedAll _)).trans (fixed_raise _ _ _)).trans (fixed_passIf _ _)
  · split
    · exact (Fixed.trans (t := refit { s with budget := s.budgetNow }) (fixed_of rfl) (fixed_raise _ _ _)).trans
        (fixed_pass _)
    · next h1 h2 =>
      have h : s.budgetNow = s.budget := by omega
      rw [h]
      exact Fixed.refl s

/-! ## A pass with nothing to do -/

/-- Under HOLD a pass does nothing (R54). -/
theorem pass_of_hold {s : State} (h : s.hold = true) : pass s = s := by
  simp [pass, h]

/-- With an empty queue a pass does nothing (R54 to R58). -/
theorem pass_of_empty {s : State} (h : s.queue = []) : pass s = s := by
  have hc : claimantStage s = s := by
    unfold claimantStage State.entryOf
    cases s.claim <;> simp [h]
  simp [pass, hc, h, walk]

theorem passIf_of_empty {s : State} (b : Bool) (h : s.queue = []) : passIf b s = s := by
  cases b
  · rfl
  · exact pass_of_empty h

/-! ## The events a command takes -/

/-- An event outside a hard reset is the act and the outputs that follow (R197). -/
theorem event_live {s : State} (act : State → State) (h : s.inReset = false) : event act s = driveAux (act s) := by
  simp [event, h]

/-- During a hard reset an event is not taken (R199). -/
theorem event_reset {s : State} (act : State → State) (h : s.inReset = true) : event act s = s := by
  simp [event, h]

/-- A request event of a command (R144, R186, R187). -/
theorem asRequest_live {s : State} (kind : Byte) (eff : Frame → State → State × List Byte) (seq : Byte)
    (payload : List Byte) (h : s.takesRequests = true) :
    asRequest kind eff seq payload s =
      Safety.answered seq kind payload (eff (mkFrame seq kind payload) s).2 (eff (mkFrame seq kind payload) s).1 := by
  simp [asRequest, h, takeRequest, Safety.answered, mkFrame]

theorem asRequest_deaf {s : State} (kind : Byte) (eff : Frame → State → State × List Byte) (seq : Byte)
    (payload : List Byte) (h : s.takesRequests = false) : asRequest kind eff seq payload s = s := by
  simp [asRequest, h]

end Sys2Proof.Machine
end

