-- ==== Sys2Proof/Laws/Notices.lean ====
section
/-! SUPPORT. What the order of deliveries read from the numbers gives (R172, R174). -/

namespace Sys2Proof.Machine

/-- The DELIVERED notice delivered last (R174): none without one, else the number of one whose age is the least. -/
theorem lastDelivered_spec (next : Nat) (ns : List Notice) :
    ((∀ n ∈ ns, n.status = .opened) → lastDelivered next ns = none) ∧
    ((∃ n ∈ ns, n.status ≠ .opened) →
      ∃ k, lastDelivered next ns = some k ∧ (∃ n ∈ ns, n.number? = some k) ∧
        ∀ n ∈ ns, ∀ j, n.number? = some j → ageOf next k ≤ ageOf next j) := by
  induction ns with
  | nil => simp [lastDelivered]
  | cons n l ih =>
    constructor
    · intro h
      have h1 := h n (by simp)
      simp [lastDelivered, Notice.number?, h1]
      exact ih.1 fun m hm => h m (by simp [hm])
    · intro h
      by_cases hl : ∃ m ∈ l, m.status ≠ .opened
      · obtain ⟨k, h1, ⟨m, h2, h2'⟩, h3⟩ := ih.2 hl
        cases hn : n.number? with
        | none =>
          refine ⟨k, by simp [lastDelivered, hn, h1], ⟨m, by simp [h2], h2'⟩, ?_⟩
          intro x hx j hj
          rcases List.mem_cons.1 hx with rfl | hx
          · rw [hn] at hj; cases hj
          · exact h3 x hx j hj
        | some a =>
          by_cases hk : ageOf next k < ageOf next a
          · refine ⟨k, by simp [lastDelivered, hn, h1, laterOf, hk], ⟨m, by simp [h2], h2'⟩, ?_⟩
            intro x hx j hj
            rcases List.mem_cons.1 hx with rfl | hx
            · rw [hn] at hj; cases hj; omega
            · exact h3 x hx j hj
          · refine ⟨a, by simp [lastDelivered, hn, h1, laterOf, hk], ⟨n, by simp, hn⟩, ?_⟩
            intro x hx j hj
            rcases List.mem_cons.1 hx with rfl | hx
            · rw [hn] at hj; cases hj; omega
            · have := h3 x hx j hj; omega
      · have hl' : ∀ m ∈ l, m.status = .opened := by simpa using hl
        have h1 := ih.1 hl'
        have hn : n.status ≠ .opened := by
          obtain ⟨m, hm, e⟩ := h
          rcases List.mem_cons.1 hm with rfl | hm
          · exact e
          · exact absurd (hl' m hm) e
        cases hs : n.status with
        | opened => exact absurd hs hn
        | delivered a sn =>
          have hn' : n.number? = some a := by simp [Notice.number?, hs]
          refine ⟨a, by simp [lastDelivered, hn', h1, laterOf], ⟨n, by simp, hn'⟩, ?_⟩
          intro x hx j hj
          rcases List.mem_cons.1 hx with rfl | hx
          · rw [hn'] at hj; cases hj; omega
          · simp [Notice.number?, hl' x hx] at hj

end Sys2Proof.Machine
end

