-- ==== Sys2Proof/Laws/Ops.lean ====
section
/-! SUPPORT. One lemma for each shared operation that says all it can do: raises, completions, queue insertion,
withdrawal, stops and grants. They are cited in place of the definitions. -/

namespace Sys2Proof.Machine

open Sys2Proof.Safety

/-! ## Raises (R168) -/

/-- A raise on a subject with an OPEN notice merges the flag into it. -/
theorem raiseIn_merge (subj : Subject) (fl : NoticeFlag) (front back : List Notice) (n : Notice)
    (h1 : n.subject = subj) (h2 : n.status = .opened)
    (h3 : ∀ m ∈ front, m.subject = subj → m.status ≠ .opened) :
    raiseIn subj fl (front ++ n :: back) =
      front ++ { subject := subj, flags := n.flags ||| flagBit fl, status := .opened } :: back := by
  induction front with
  | nil => cases n; simp_all [raiseIn]
  | cons m l ih =>
    have hm : ¬ (m.subject = subj ∧ m.status = .opened) := fun h => h3 m (by simp) h.1 h.2
    simp only [List.cons_append, raiseIn, hm, if_false]
    rw [ih fun x hx => h3 x (by simp [hx])]

/-- A raise on a subject without an OPEN notice appends one. -/
theorem raiseIn_append (subj : Subject) (fl : NoticeFlag) (l : List Notice)
    (h : ∀ m ∈ l, m.subject = subj → m.status ≠ .opened) :
    raiseIn subj fl l = l ++ [{ subject := subj, flags := flagBit fl, status := .opened }] := by
  induction l with
  | nil => rfl
  | cons m l ih =>
    have hm : ¬ (m.subject = subj ∧ m.status = .opened) := fun e => h m (by simp) e.1 e.2
    simp only [List.cons_append, raiseIn, hm, if_false]
    rw [ih fun x hx => h x (by simp [hx])]

/-- After a raise the list holds an OPEN notice. -/
theorem raiseIn_open (subj : Subject) (fl : NoticeFlag) (l : List Notice) :
    (raiseIn subj fl l).any Notice.isOpen = true := by
  induction l with
  | nil => simp [raiseIn, Notice.isOpen]
  | cons m l ih =>
    unfold raiseIn
    split
    · next h => simp [Notice.isOpen, h.2]
    · simp [ih]

/-! ## Feeds and their records -/

@[simp] theorem raise_feedRec (subj : Subject) (fl : NoticeFlag) (s : State) (f : Feed) :
    (raise subj fl s).feedRec f = s.feedRec f := by
  cases f <;> rfl

@[simp] theorem setSlot_feedRec (n : SlotId) (x : Slot) (s : State) (f : Feed) :
    (s.setSlot n x).feedRec f = s.feedRec f := by
  cases f <;> rfl

/-- What belongs to an outlet but not to its feed is left alone by a change of a feed part. -/
theorem updFeed_outlet (f : Feed) (h : FeedRec → FeedRec) (s : State) (q : OutletId) :
    (updFeed f h s).outlet q =
      if f = .solo q then { s.outlet q with own := h (s.outlet q).own } else s.outlet q := by
  cases f with
  | solo p =>
    by_cases e : q = p
    · subst e
      simp [updFeed]
    · have e' : ¬ p = q := fun x => e x.symm
      simp [updFeed, updOutlet_outlet_other _ p q _ e, e']
  | gang g => simp [updFeed]

theorem updFeed_gang (f : Feed) (h : FeedRec → FeedRec) (s : State) (g : GangId) :
    (updFeed f h s).gang g = if f = .gang g then { s.gang g with own := h (s.gang g).own } else s.gang g := by
  cases f with
  | solo p => simp [updFeed]
  | gang k =>
    by_cases e : g = k
    · subst e
      simp [updFeed]
    · have e' : ¬ k = g := fun x => e x.symm
      simp [updFeed, updGang_gang, e, e']

@[simp] theorem updFeed_profile (f : Feed) (h : FeedRec → FeedRec) (s : State) (q : OutletId) :
    ((updFeed f h s).outlet q).profile = (s.outlet q).profile := by
  rw [updFeed_outlet]
  split <;> rfl

@[simp] theorem updFeed_gangProfile (f : Feed) (h : FeedRec → FeedRec) (s : State) (g : GangId) :
    ((updFeed f h s).gang g).profile = (s.gang g).profile := by
  rw [updFeed_gang]
  split <;> rfl

@[simp] theorem updFeed_alloc (f : Feed) (h : FeedRec → FeedRec) (s : State) (q : OutletId) :
    ((updFeed f h s).outlet q).alloc = (s.outlet q).alloc := by
  rw [updFeed_outlet]
  split <;> rfl

@[simp] theorem updFeed_requestAmount (f g : Feed) (h : FeedRec → FeedRec) (s : State) :
    (updFeed f h s).requestAmount g = s.requestAmount g := by
  simp [State.requestAmount]

@[simp] theorem updFeed_priorityOf (f g : Feed) (h : FeedRec → FeedRec) (s : State) :
    (updFeed f h s).priorityOf g = s.priorityOf g := by
  cases g <;> simp [State.priorityOf]

@[simp] theorem updFeed_thresholdOf (f g : Feed) (h : FeedRec → FeedRec) (s : State) :
    (updFeed f h s).thresholdOf g = s.thresholdOf g := by
  cases g <;> simp [State.thresholdOf]

/-! ## Completions (R149) -/

theorem completeOp_idle (k : PowerKind) (o : Completion) {f : Feed} {s : State} (h : (s.feedRec f).op = none) :
    completeOp k o f s = s := by
  simp [completeOp, h]

theorem completeOp_otherKind {k : PowerKind} (o : Completion) {f g : Feed} {s : State} {n : SlotId} {op : SlotOp}
    (h : (s.feedRec f).op = some n) (hs : s.slot n = .pending op g) (hk : op.kind ≠ k) : completeOp k o f s = s := by
  simp [completeOp, h, hs, hk]

theorem completeOp_done {k : PowerKind} (o : Completion) {f g : Feed} {s : State} {n : SlotId} {op : SlotOp}
    (h : (s.feedRec f).op = some n) (hs : s.slot n = .pending op g) (hk : op.kind = k) :
    completeOp k o f s =
      raise (.slot n) .completion
        (updFeed f (fun r => { r with op := none }) (s.setSlot n (.complete op o))) := by
  simp [completeOp, h, hs, hk]

/-! ## The queue (R46, R47, R60) -/

/-- An element is put before the first one it comes before. -/
theorem insertBy_split {α : Type} (before : α → α → Bool) (x : α) (l : List α) :
    ∃ front back, l = front ++ back ∧ insertBy before x l = front ++ x :: back ∧
      (∀ y ∈ front, before x y = false) ∧ ∀ y ∈ back.head?, before x y = true := by
  induction l with
  | nil => exact ⟨[], [], rfl, rfl, by simp, by simp⟩
  | cons y l ih =>
    by_cases h : before x y = true
    · exact ⟨[], y :: l, rfl, by simp [insertBy, h], by simp, by simp [h]⟩
    · obtain ⟨front, back, h1, h2, h3, h4⟩ := ih
      refine ⟨y :: front, back, by simp [h1], by simp [insertBy, h, h2], ?_, h4⟩
      intro z hz
      rcases List.mem_cons.1 hz with rfl | hz
      · simpa using h
      · exact h3 z hz

/-- An element that belongs between two parts is put there. -/
theorem insertBy_between {α : Type} (before : α → α → Bool) (x : α) (front back : List α)
    (h1 : ∀ y ∈ front, before x y = false) (h2 : ∀ y ∈ back.head?, before x y = true) :
    insertBy before x (front ++ back) = front ++ x :: back := by
  induction front with
  | nil =>
    cases back with
    | nil => rfl
    | cons y l => simp [insertBy, h2 y (by simp)]
  | cons y l ih =>
    simp only [List.cons_append, insertBy, h1 y (by simp), if_false, Bool.false_eq_true]
    rw [ih fun z hz => h1 z (by simp [hz])]

theorem mem_insertBy {α : Type} (before : α → α → Bool) (x y : α) (l : List α) :
    y ∈ insertBy before x l ↔ y = x ∨ y ∈ l := by
  obtain ⟨front, back, h1, h2, _, _⟩ := insertBy_split before x l
  rw [h2, h1]
  simp only [List.mem_append, List.mem_cons]
  tauto

theorem isClaimant_iff (s : State) (f : Feed) : s.isClaimant f = true ↔ s.claim.map Claim.feed = some f := by
  unfold State.isClaimant
  cases s.claim <;> simp

/-- Withdrawal as the manual words it (R60). -/
theorem withdraw_eq (f : Feed) (s : State) : withdraw f s = withdrawn f s := by
  have h := isClaimant_iff s f
  unfold withdraw withdrawn setState dropEntry
  by_cases e : s.claim.map Claim.feed = some f
  · simp [h.2 e, e]
  · have : s.isClaimant f = false := by
      cases hc : s.isClaimant f
      · rfl
      · exact absurd (h.1 hc) e
    simp [this, e]

theorem bindSlot_eq (n : SlotId) (op : SlotOp) (f : Feed) (s : State) : bindSlot n op f s = bound f n op s := rfl

/-- The first slot that passes a test is the lowest that passes it. -/
theorem find_allSlots (b : Fin 4 → Bool) (n : SlotId) :
    allSlots.find? b = some n ↔ b n = true ∧ ∀ m, m < n → b m = false := by
  revert b n
  decide +kernel

/-- The lowest FREE slot (R148). -/
theorem freeSlot_some {s : State} {n : SlotId} : s.freeSlot = some n ↔ lowestFree s n := by
  unfold State.freeSlot lowestFree
  rw [find_allSlots]
  simp only [decide_eq_true_eq, decide_eq_false_iff_not, ne_eq]

theorem freeSlot_none {s : State} : s.freeSlot = none ↔ ∀ n, s.slot n ≠ .free := by
  unfold State.freeSlot
  simp [allSlots, Fin.forall_fin_succ]

/-! ## Members -/

/-- Under a valid map the outlets of a feed are distinct. -/
theorem outletsOf_nodup {s : State} (h : mapsOk s) (f : Feed) : (s.outletsOf f).Nodup := by
  cases f with
  | solo p => simp [State.outletsOf]
  | gang g =>
    show ((s.membersOf g).getD []).Nodup
    cases hm : s.membersOf g with
    | none => exact List.nodup_nil
    | some ms =>
      have hl := (h.2.1.1 g ms hm).1.1
      exact List.Pairwise.imp (fun h => ne_of_lt h) hl

theorem hasMember_iff (m : MapRec) (p : OutletId) (g : GangId) :
    m.hasMember p g = true ↔ ∃ ms, tget m.gangs g = some ms ∧ p ∈ ms := by
  unfold MapRec.hasMember
  cases tget m.gangs g <;> simp

theorem mem_allGangs (g : GangId) : g ∈ allGangs := by
  fin_cases g <;> simp [allGangs]

theorem mem_allOutlets (p : OutletId) : p ∈ allOutlets := by
  fin_cases p <;> simp [allOutlets]

theorem mem_allSlots (n : SlotId) : n ∈ allSlots := by
  fin_cases n <;> simp [allSlots]

/-- The gang a map puts an outlet in names it. -/
theorem gangOf_some {m : MapRec} {p : OutletId} {g : GangId} (h : m.gangOf p = some g) : m.hasMember p g = true :=
  List.find?_some h

theorem gangOf_none {m : MapRec} {p : OutletId} (h : m.gangOf p = none) (g : GangId) : m.hasMember p g = false := by
  have := List.find?_eq_none.1 h g (mem_allGangs g)
  simpa using this

/-- Under a valid map a member's gang is the gang that names it. -/
theorem gangOf_of_member {m : MapRec} (h : gangsOk m) {p : OutletId} {g : GangId} (hm : m.hasMember p g = true) :
    m.gangOf p = some g := by
  cases e : m.gangOf p with
  | none => rw [gangOf_none e g] at hm; cases hm
  | some k => rw [h.2 p k g (gangOf_some e) hm]

/-- An outlet's solo feed is its own. -/
theorem feedOf_solo {s : State} {p q : OutletId} (h : s.feedOf p = some (.solo q)) : q = p := by
  unfold State.feedOf at h
  split at h
  · cases h
  · split at h
    · cases h
    · injection h with h; injection h with h; exact h.symm

theorem feedOf_gang {s : State} {p : OutletId} {g : GangId} (h : s.feedOf p = some (.gang g)) :
    p ∈ s.outletsOf (.gang g) ∧ (s.membersOf g).isSome = true := by
  unfold State.feedOf at h
  split at h
  · cases h
  · split at h
    · next k hk =>
      injection h with h
      injection h with h
      subst h
      obtain ⟨ms, h1, h2⟩ := (hasMember_iff _ _ _).1 (gangOf_some hk)
      have : s.membersOf k = some ms := h1
      simp [State.outletsOf, this, h2]
    · cases h

/-- Under a valid map the outlets of a feed are those that belong to it. -/
theorem feedOf_of_mem {s : State} (h : mapsOk s) {f : Feed} (hf : isFeed s f) {p : OutletId}
    (hp : p ∈ s.outletsOf f) : s.feedOf p = some f := by
  cases f with
  | solo q =>
    simp only [State.outletsOf, List.mem_singleton] at hp
    subst hp
    exact hf
  | gang g =>
    unfold State.outletsOf at hp
    cases hm : s.membersOf g with
    | none => simp [hm] at hp
    | some ms =>
      simp only [hm, Option.getD_some] at hp
      have hmem : s.activeMap.hasMember p g = true := (hasMember_iff _ _ _).2 ⟨ms, hm, hp⟩
      have hl := (h.2.1.1 g ms hm).2.2 p hp
      have hg := gangOf_of_member h.2.1 hmem
      unfold State.feedOf State.gangOf
      rw [hg]
      unfold State.logicalOf
      cases hx : tget s.activeMap.numbers p with
      | none => rw [hx] at hl; cases hl
      | some n => rfl

theorem mem_outletsOf {s : State} {p : OutletId} {f : Feed} (h : s.feedOf p = some f) : p ∈ s.outletsOf f := by
  cases f with
  | solo q => rw [feedOf_solo h]; simp [State.outletsOf]
  | gang g => exact (feedOf_gang h).1

theorem isFeed_of_feedOf {s : State} {p : OutletId} {f : Feed} (h : s.feedOf p = some f) : isFeed s f := by
  cases f with
  | solo q =>
    have e := feedOf_solo h
    subst e
    exact h
  | gang g => exact (feedOf_gang h).2

/-! ## Stops (R13, R124) -/

/-- The outlets' part of a stop. -/
theorem stopOutlets_spec (l : List OutletId) (hl : l.Nodup) (s : State) :
    (∀ q, (l.foldl stopOutlet s).outlet q = if q ∈ l then stopped (s.outlet q) else s.outlet q) ∧
    l.foldl stopOutlet s =
      { s with outlets := (l.foldl stopOutlet s).outlets, active := s.active - (l.map fun p => (s.outlet p).alloc).sum } := by
  induction l generalizing s with
  | nil => simp
  | cons p l ih =>
    obtain ⟨hp, hl⟩ := List.nodup_cons.1 hl
    obtain ⟨h1, h2⟩ := ih hl (stopOutlet s p)
    have ho : ∀ q, (stopOutlet s p).outlet q = if q = p then stopped (s.outlet p) else s.outlet q := by
      intro q
      show ((s.setOutlet p _).outlet q) = _
      rw [setOutlet_outlet]
      split <;> simp [stopped]
    constructor
    · intro q
      rw [List.foldl_cons, h1 q, ho q]
      by_cases e : q = p
      · subst e
        simp [hp]
      · simp [e]
    · have hs : (l.map fun q => ((stopOutlet s p).outlet q).alloc) = l.map fun q => (s.outlet q).alloc := by
        refine List.map_congr_left fun q hq => ?_
        have : q ≠ p := fun e => hp (e ▸ hq)
        rw [ho q, if_neg this]
      rw [List.foldl_cons, h2]
      simp only [hs, List.map_cons, List.sum_cons]
      simp only [stopOutlet, State.setOutlet, Nat.sub_sub]

/-- A stop as the manual words it (R13, R124). -/
theorem stopFeed_spec (f : Feed) (c : StopCause) (d : Dest) (s : State) (h : (s.outletsOf f).Nodup) :
    afterStop f c d s (stopFeed f c d s) := by
  obtain ⟨h1, h2⟩ := stopOutlets_spec _ h s
  cases f with
  | solo p =>
    refine ⟨fun q => ?_, fun g => ?_, ?_⟩
    · show (updOutlet p _ _).outlet q = _
      rw [updOutlet_outlet]
      have hq := h1 q
      by_cases e : q = p
      · subst e
        have hm : q ∈ s.outletsOf (.solo q) := by simp [State.outletsOf]
        rw [if_pos hm] at hq
        rw [if_pos rfl, if_pos rfl]
        rw [hq]
        rfl
      · have e' : ¬ (Feed.solo p = Feed.solo q) := fun x => e (Feed.solo.inj x).symm
        rw [if_neg e, if_neg e', hq]
    · show ((s.outletsOf (.solo p)).foldl stopOutlet s).gang g = _
      rw [h2]
      rfl
    · unfold stopFeed stopRecord updFeed updOutlet
      dsimp only
      rw [h2]
      rfl
  | gang k =>
    refine ⟨fun q => ?_, fun g => ?_, ?_⟩
    · show ((s.outletsOf (.gang k)).foldl stopOutlet s).outlet q = _
      rw [h1]
      simp
    · show (updGang k _ _).gang g = _
      rw [updGang_gang]
      have hg : ∀ j, ((s.outletsOf (.gang k)).foldl stopOutlet s).gang j = s.gang j := by
        intro j
        rw [h2]
        rfl
      by_cases e : g = k
      · subst e
        simp only [if_true, hg]
        rfl
      · have e' : ¬ k = g := fun x => e x.symm
        simp only [e, e', if_false, hg, Feed.gang.injEq]
    · unfold stopFeed stopRecord updGang
      dsimp only
      rw [h2]
      rfl

/-! ## Grants (R11, R34, R122) -/

/-- The outlets' part of a grant. -/
theorem grantOutlets_spec (stamp : Nat) (l : List OutletId) (hl : l.Nodup) (s : State) :
    (∀ q, (l.foldl (grantOutlet stamp) s).outlet q = if q ∈ l then granted stamp (s.outlet q) else s.outlet q) ∧
    l.foldl (grantOutlet stamp) s =
      { s with
        outlets := (l.foldl (grantOutlet stamp) s).outlets
        held := s.held + (l.map fun p => (s.outlet p).profile.request).sum
        active := s.active + (l.map fun p => (s.outlet p).profile.request).sum } := by
  induction l generalizing s with
  | nil => simp
  | cons p l ih =>
    obtain ⟨hp, hl⟩ := List.nodup_cons.1 hl
    obtain ⟨h1, h2⟩ := ih hl (grantOutlet stamp s p)
    have ho : ∀ q, (grantOutlet stamp s p).outlet q = if q = p then granted stamp (s.outlet p) else s.outlet q := by
      intro q
      show ((s.setOutlet p _).outlet q) = _
      rw [setOutlet_outlet]
      split <;> simp [granted]
    constructor
    · intro q
      rw [List.foldl_cons, h1 q, ho q]
      by_cases e : q = p
      · subst e
        simp [hp]
      · simp [e]
    · have hs : (l.map fun q => ((grantOutlet stamp s p).outlet q).profile.request) =
          l.map fun q => (s.outlet q).profile.request := by
        refine List.map_congr_left fun q hq => ?_
        have : q ≠ p := fun e => hp (e ▸ hq)
        rw [ho q, if_neg this]
      rw [List.foldl_cons, h2]
      simp only [hs, List.map_cons, List.sum_cons]
      simp only [grantOutlet, State.setOutlet, Nat.add_assoc]

/-- The grant but for its notice and what the fault inputs do at the entry. -/
theorem grant_spec (f : Feed) (s : State) (h : (s.outletsOf f).Nodup) :
    afterGrantOf f s (setState f .starting
      ((s.outletsOf f).foldl (grantOutlet (s.grantStamps + 1)) { s with grantStamps := s.grantStamps + 1 })) := by
  obtain ⟨h1, h2⟩ := grantOutlets_spec (s.grantStamps + 1) _ h { s with grantStamps := s.grantStamps + 1 }
  have hg : ∀ j, ((s.outletsOf f).foldl (grantOutlet (s.grantStamps + 1))
      { s with grantStamps := s.grantStamps + 1 }).gang j = s.gang j := by
    intro j
    rw [h2]
    rfl
  refine ⟨fun q => ?_, fun g => ?_, ?_⟩
  · unfold setState
    rw [updFeed_outlet, h1]
    by_cases e : f = .solo q
    · subst e
      simp only [State.outletsOf, List.mem_singleton, if_true]
      rfl
    · simp only [e, if_false]
      rfl
  · unfold setState
    rw [updFeed_gang, hg]
  · cases f with
    | solo p =>
      unfold setState updFeed updOutlet
      dsimp only
      rw [h2]
      rfl
    | gang k =>
      unfold setState updFeed updGang
      dsimp only
      rw [h2]
      rfl

end Sys2Proof.Machine
end

