-- ==== Sys2Proof/Laws/Pass.lean ====
section
/-! SUPPORT. What a grant, the walk and the pass can do (R54 to R59), for the proofs that would otherwise unfold them. -/

namespace Sys2Proof.Machine

open Sys2Proof.Safety

/-! ## What leaves queue, claim and held total alone -/

/-- The queue, the claim and the held total stay as they are: what a fault or a stop leaves alone. -/
structure KeepsQueue (s t : State) : Prop where
  queue : t.queue = s.queue
  claim : t.claim = s.claim
  held : t.held = s.held

theorem KeepsQueue.refl (s : State) : KeepsQueue s s := ⟨rfl, rfl, rfl⟩

theorem KeepsQueue.trans {s t u : State} (a : KeepsQueue s t) (b : KeepsQueue t u) : KeepsQueue s u :=
  ⟨b.1.trans a.1, b.2.trans a.2, b.3.trans a.3⟩

theorem KeepsQueue.foldl {α : Type} {g : State → α → State} (hg : ∀ s x, KeepsQueue s (g s x)) (l : List α)
    (s : State) : KeepsQueue s (l.foldl g s) := by
  induction l generalizing s with
  | nil => exact KeepsQueue.refl s
  | cons x l ih => exact (hg s x).trans (ih (g s x))

theorem keepsQueue_updFeed (f : Feed) (h : FeedRec → FeedRec) (s : State) :
    KeepsQueue s (updFeed f h s) := by
  cases f <;> exact ⟨rfl, rfl, rfl⟩

theorem keepsQueue_updOutlet (p : OutletId) (h : OutletRec → OutletRec) (s : State) :
    KeepsQueue s (updOutlet p h s) := ⟨rfl, rfl, rfl⟩

theorem keepsQueue_raise (subj : Subject) (fl : NoticeFlag) (s : State) :
    KeepsQueue s (raise subj fl s) := ⟨rfl, rfl, rfl⟩

theorem keepsQueue_completeOp (k : PowerKind) (o : Completion) (f : Feed) (s : State) :
    KeepsQueue s (completeOp k o f s) := by
  unfold completeOp
  split
  · exact KeepsQueue.refl s
  · split
    · split
      · refine KeepsQueue.trans ?_ (keepsQueue_raise _ _ _)
        refine KeepsQueue.trans ?_ (keepsQueue_updFeed _ _ _)
        exact ⟨rfl, rfl, rfl⟩
      · exact KeepsQueue.refl s
    · exact KeepsQueue.refl s

theorem keepsQueue_stopFeed (f : Feed) (c : StopCause) (d : Dest) (s : State) : KeepsQueue s (stopFeed f c d s) := by
  refine KeepsQueue.trans (KeepsQueue.foldl (g := stopOutlet) (fun s p => ⟨rfl, rfl, rfl⟩) (s.outletsOf f) s) ?_
  unfold stopFeed stopRecord
  cases f
  · exact keepsQueue_updFeed _ _ _
  · exact ⟨rfl, rfl, rfl⟩

theorem keepsQueue_recordFault (f : Feed) (p : OutletId) (c : FaultCause) (s : State) :
    KeepsQueue s (recordFault f p c s) := by
  cases f <;> exact ⟨rfl, rfl, rfl⟩

theorem keepsQueue_raiseFault (f : Feed) (p : OutletId) (s : State) : KeepsQueue s (raiseFault f p s) := by
  cases f <;> exact ⟨rfl, rfl, rfl⟩

theorem keepsQueue_faultFeed (f : Feed) (p : OutletId) (c : FaultCause) (s : State) :
    KeepsQueue s (faultFeed f p c s) := by
  have h := keepsQueue_recordFault f p c s
  unfold faultFeed
  dsimp only
  split
  · exact ((h.trans (keepsQueue_stopFeed _ _ _ _)).trans (keepsQueue_raiseFault _ _ _)).trans (keepsQueue_raise _ _ _)
  · refine KeepsQueue.trans ?_ (keepsQueue_raise _ _ _)
    refine KeepsQueue.trans ?_ (keepsQueue_raiseFault _ _ _)
    exact (h.trans (keepsQueue_completeOp _ _ _ _)).trans (keepsQueue_stopFeed _ _ _ _)

theorem keepsQueue_takeFault (p : OutletId) (c : FaultCause) (s : State) : KeepsQueue s (takeFault p c s) := by
  unfold takeFault
  split
  · exact KeepsQueue.refl s
  · split
    · exact keepsQueue_faultFeed _ _ _ _
    · exact KeepsQueue.refl s

theorem keepsQueue_qualify (p : OutletId) (s : State) : KeepsQueue s (qualify p s) := by
  unfold qualify
  dsimp only
  split
  · exact (keepsQueue_updOutlet _ _ _).trans (keepsQueue_takeFault _ _ _)
  · split
    · exact (keepsQueue_updOutlet _ _ _).trans (keepsQueue_updOutlet _ _ _)
    · exact (keepsQueue_updOutlet _ _ _).trans ((keepsQueue_updOutlet _ _ _).trans (keepsQueue_takeFault _ _ _))

theorem keepsQueue_afterGrant (ps : List OutletId) (s : State) : KeepsQueue s (afterGrant ps s) := by
  unfold afterGrant
  split
  · split
    · exact keepsQueue_takeFault _ _ _
    · exact KeepsQueue.refl s
  · refine KeepsQueue.foldl (fun s p => ?_) _ _
    unfold examineAtEntry
    split
    · unfold examine
      split
      · exact keepsQueue_qualify _ _
      · exact keepsQueue_updOutlet _ _ _
    · exact KeepsQueue.refl s

/-! ## The grant of an entry -/

/-- A grant is `afterGrantOf` on the state without the entry and without a claim on it, then the fault inputs (R59). -/
theorem grantEntry_spec (e : Entry) (s : State) (h : mapsOk s) :
    ∃ t, afterGrantOf e.feed
        { s with queue := dropEntry e.feed s.queue, claim := if s.isClaimant e.feed then none else s.claim } t ∧
      grantEntry e s = afterGrant (s.outletsOf e.feed) (raise (subjectOf e.feed) .state t) :=
  ⟨_, grant_spec e.feed _ (outletsOf_nodup (s := { s with
    queue := dropEntry e.feed s.queue, claim := if s.isClaimant e.feed then none else s.claim }) h e.feed), rfl⟩

/-- What a grant leaves of queue, claim and held total: the fault inputs change none of them. -/
theorem grantEntry_queue (e : Entry) (s : State) (h : mapsOk s) :
    (grantEntry e s).queue = dropEntry e.feed s.queue ∧
      (grantEntry e s).claim = (if s.isClaimant e.feed then none else s.claim) ∧
      (grantEntry e s).held = s.held + s.requestAmount e.feed := by
  obtain ⟨t, ht, e1⟩ := grantEntry_spec e s h
  have k := (keepsQueue_raise (subjectOf e.feed) .state t).trans (keepsQueue_afterGrant (s.outletsOf e.feed) _)
  rw [e1, k.queue, k.claim, k.held, ht.2.2]
  exact ⟨rfl, rfl, rfl⟩

/-! ## The claimant stage and the walk -/

/-- An entry fits (R33): of an entry that is not the claimant's, the claim amount is deducted. -/
theorem fits_iff (s : State) (e : Entry) (h : s.isClaimant e.feed = false) :
    s.fits e = true ↔ s.held + (s.claim.map Claim.amount).getD 0 + e.amount ≤ s.budget := by
  unfold State.fits State.headroom
  unfold State.isClaimant at h
  cases hc : s.claim with
  | none => simp; omega
  | some c =>
    rw [hc] at h
    have : ¬ c.feed = e.feed := by simpa using h
    simp [this]; omega

/-- The claimant stage does nothing where no claimant's entry fits (R55). -/
theorem claimantStage_idle {s : State} (h : ∀ e ∈ s.queue, s.isClaimant e.feed = true → s.fits e = false) :
    claimantStage s = s := by
  unfold claimantStage
  cases hc : s.claim with
  | none => rfl
  | some c =>
    simp only
    cases he : s.entryOf c.feed with
    | none => rfl
    | some e =>
      simp only
      have hf : e.feed = c.feed := by simpa using List.find?_some he
      simp [h e (List.mem_of_find?_eq_some he) (by simp [State.isClaimant, hc, hf])]

/-- One entry of the walk (R56, R57). -/
theorem walk_cons (m : AdmissionMode) (e : Entry) (es : List Entry) (b : Option Entry) (s : State) :
    walk m (e :: es) b s =
      if (e.unfit || s.isClaimant e.feed) = true then walk m es b s
      else if s.fits e = true then walk m es b (grantEntry e s)
      else
        match m with
        | .strict => (s, b.orElse fun _ => some e)
        | .fitFirst => walk m es (b.orElse fun _ => some e) s := by cases m <;> rfl

/-- Entries the walk skips change nothing (R56, R57). -/
theorem walk_skipped (m : AdmissionMode) (front rest : List Entry) (b : Option Entry) (s : State)
    (h : ∀ x ∈ front, (x.unfit || s.isClaimant x.feed) = true) : walk m (front ++ rest) b s = walk m rest b s := by
  induction front with
  | nil => rfl
  | cons x l ih =>
    rw [List.cons_append, walk_cons, if_pos (h x (by simp))]
    exact ih fun y hy => h y (by simp [hy])

/-- A pass whose claimant stage is idle is the walk, and the preemption evaluation for its blocked entry (R58). -/
theorem pass_idleClaimant {s : State} (hh : s.hold = false) (hs : claimantStage s = s) :
    pass s =
      match (walk s.policy.mode s.queue none s).2 with
      | none => (walk s.policy.mode s.queue none s).1
      | some e => preempt e (walk s.policy.mode s.queue none s).1 := by
  unfold pass
  rw [if_neg (by simp [hh])]
  simp only [hs] <;> rfl

end Sys2Proof.Machine
end

