-- ==== Sys2Proof/Tests/Slice0.lean ====
section
/-! SUPPORT. The author's own tests: ill-formed commands that the check refuses, single steps whose results the manual
gives, and for every obligation with hypotheses concrete states that meet them. -/

namespace Sys2Proof.Tests

open Sys2Proof Sys2Proof.Machine Sys2Proof.Safety

-- one theorem after the other: elaborated all at once, their evaluations need too many threads
set_option Elab.async false

/-! ## Ill-formed commands -/

/-- 49 payload bytes are one more than a frame carries (R179). -/
theorem test_illformed_payload : (Instr.ident 0#8 (List.replicate 49 0#8)).wellFormed = false := by decide
theorem test_wellformed_payload : (Instr.ident 0#8 (List.replicate 48 0#8)).wellFormed = true := by decide
/-- POWER_OFF with target ALL is the row POWER_OFF_ALL. -/
theorem test_illformed_power_off : (Instr.powerOff 0#8 [0xFF#8]).wellFormed = false := by decide
/-- IDENT's kind is in the catalogue. -/
theorem test_illformed_unknown_kind : (Instr.unknownKind 0#8 0x01#8 []).wellFormed = false := by decide
theorem test_illformed_unknown_payload : (Instr.unknownKind 0#8 0x77#8 (List.replicate 49 0#8)).wellFormed = false := by
  decide
/-- The inputs do not go above their range (section 12.5). -/
theorem test_illformed_vsense : (Instr.meterScan 0 (Config.analogMaxUv + 1) 0).wellFormed = false := by decide
theorem test_illformed_isense : (Instr.meterScan 0 0 (Config.analogMaxUv + 1)).wellFormed = false := by decide

/-! ## Decoding: no row of the table gives bits -/

theorem test_no_row_has_bits : decodeTableWord 32 0 = none := by decide

/-! ## Single steps -/

/-- The state after a command. -/
def after (c : Instr) (s : State) : State :=
  match exec c s with
  | .next t => t
  | _ => s

/-- The payload of the reply in the cache. -/
def answerOf (s : State) : List Byte := ((s.link.cache.map CacheRec.reply).getD []).drop 4 |>.dropLast.dropLast

/-- An outlet whose own state is `st`. -/
def outletIn (st : FeedState) : OutletRec := { OutletRec.reset with own := { FeedRec.rest with state := st } }

/-- An outlet whose switch is on. -/
def poweredIn (st : FeedState) (stamp : Nat) : OutletRec :=
  { outletIn st with alloc := 100, grantStamp := some stamp, swEn := true }

/-- P2's entry. -/
def entryTwo : Entry :=
  { feed := .solo 1, amount := 100, base := 3, eff := 3, stamp := 1, origin := .host, unfit := false, aging := none }

/-- P3's pending POWER_ON. -/
def opThree : SlotOp := { seq := 1#8, kind := .powerOn, target := 3#8 }

/-- A part at work: P1 ON, P2 QUEUED, P3 STOPPING for QUEUED with a pending POWER_ON, P4 LATCHED, P5 in RETRY_WAIT, G1 of
P6 and P7 STARTING, the other outlets OFF, S1 GOOD with 500 dW. -/
def rich : State :=
  { State.reset with
    outlets := #v[
      { poweredIn .on 1 with own := { FeedRec.rest with state := .on, stability := some 5 } },
      outletIn .queued,
      { outletIn .off with
        own := { FeedRec.rest with state := .stopping .shed .queued, op := some 0 }
        alloc := 100, grantStamp := some 2, discharge := some 200 },
      { outletIn .off with own := { FeedRec.rest with state := .latched, count := 3 } },
      { outletIn .off with own := { FeedRec.rest with state := .retryWait, count := 1, backoff := some 100 } },
      { poweredIn .off 3 with ramp := some 20, blanking := some 15 },
      { poweredIn .off 3 with ramp := some 20, blanking := some 15 },
      OutletRec.reset, OutletRec.reset, OutletRec.reset, OutletRec.reset, OutletRec.reset]
    gangs := #v[{ GangRec.reset with own := { FeedRec.rest with state := .starting } }, GangRec.reset, GangRec.reset,
      GangRec.reset]
    activeMap := { MapRec.default with gangs := #v[some [5, 6], none, none, none] }
    stagedMap := { MapRec.default with gangs := #v[some [5, 6], none, none, none] }
    supplies := #v[{ SupplyRec.reset with capacity := 500, good := true, line := true }, SupplyRec.reset]
    budget := 500, held := 400, active := 300
    queue := [entryTwo]
    entryStamps := 1, grantStamps := 3
    slots := #v[.pending opThree (.solo 2), .free, .free, .free] }

/-- The same with the record of one outlet changed. -/
def richWith (p : OutletId) (f : OutletRec → OutletRec) : State := updOutlet p f rich

/-- The same with G1's feed part in another state. -/
def gangIn (st : FeedState) : State := updFeed (.gang 0) (fun r => { r with state := st }) rich

/-- The CRC's check value for the nine digits (R179: polynomial 0x1021, initial value 0xFFFF, no reflection). -/
theorem test_crc : crc16 [0x31#8, 0x32#8, 0x33#8, 0x34#8, 0x35#8, 0x36#8, 0x37#8, 0x38#8, 0x39#8] = 0x29B1#16 := by
  decide +kernel

/-- R160. -/
theorem test_ident : answerOf (after (.ident 7#8 []) State.reset) =
    [0x00#8, 0x5A#8, 0x31#8, 0x12#8, 0x40#8, 0x01#8, 0x01#8, 0x0C#8, 0x04#8, 0x04#8] := by decide +kernel
/-- R203: the STATUS reply is 26 bytes long. -/
theorem test_status_length : (answerOf (after (.status 7#8 []) rich)).length = 26 := by decide +kernel
theorem test_read_outlet_length : (answerOf (after (.readOutlet 7#8 [0x41#8]) rich)).length = 36 := by decide +kernel
theorem test_read_gang_length : (answerOf (after (.readGang 7#8 [0x81#8]) rich)).length = 19 := by decide +kernel
theorem test_read_meter_length : (answerOf (after (.readMeter 7#8 [0x01#8]) rich)).length = 11 := by decide +kernel
theorem test_read_queue_length : (answerOf (after (.readQueue 7#8 [0x01#8]) rich)).length = 11 := by decide +kernel
theorem test_read_map_length : (answerOf (after (.readMap 7#8 [0x02#8]) rich)).length = 35 := by decide +kernel
/-- R145. -/
theorem test_bad_length : answerOf (after (.ident 7#8 [0x00#8]) State.reset) = [0x02#8, 0x02#8] := by decide +kernel
theorem test_unknown_kind : answerOf (after (.unknownKind 7#8 0x77#8 []) State.reset) = [0x02#8, 0x01#8] := by
  decide +kernel
/-- R150, R151: accepted in slot 1; with a budget of 0 the feed stays QUEUED (R52). -/
theorem test_power_on : answerOf (after (.powerOn 9#8 [0x01#8]) State.reset) = [0x01#8, 0x01#8, 0x00#8, 0x03#8] := by
  decide +kernel
/-- R150: P1 is ON. -/
theorem test_power_on_already : answerOf (after (.powerOn 9#8 [0x01#8]) rich) = [0x00#8, 0x00#8, 0x01#8, 0x05#8] := by
  decide +kernel
/-- R152: P1 stops and binds the lowest FREE slot, slot 2. -/
theorem test_power_off : answerOf (after (.powerOff 9#8 [0x01#8]) rich) = [0x01#8, 0x02#8, 0x00#8, 0x06#8] := by
  decide +kernel
/-- R153: P1, P2, P3, P5 and G1 change; P4 is LATCHED. -/
theorem test_power_off_all : answerOf (after (.powerOffAll 9#8) rich) = [0x00#8, 0x05#8] := by decide +kernel
/-- R115: P4 enters OFF with count 0. -/
theorem test_clear_fault : answerOf (after (.clearFault 9#8 [0x04#8]) rich) = [0x00#8, 0x02#8, 0x00#8] := by
  decide +kernel
/-- R155: the first round is completed before the second, so the value is named and not the state. -/
theorem test_set_profile_rounds :
    answerOf (after (.setProfile 9#8 [0x01#8, 0x01#8, 0x00#8, 0x64#8, 0x02#8, 0x00#8, 0x08#8]) rich) =
      [0x02#8, 0x05#8, 0x02#8] := by decide +kernel
/-- R3: the request may not change while P1 holds allocation. -/
theorem test_set_profile_state :
    answerOf (after (.setProfile 9#8 [0x01#8, 0x01#8, 0x00#8, 0x64#8]) rich) = [0x02#8, 0x06#8, 0x01#8] := by
  decide +kernel
theorem test_set_gang_profile :
    answerOf (after (.setGangProfile 9#8 [0x81#8, 0x03#8, 0x00#8, 0x0A#8]) rich) = [0x00#8, 0x01#8, 0x01#8] := by
  decide +kernel
/-- R30, R37, R70: capacity 250 gives a budget of 250; victim order takes G1, granted later, and then stops. -/
theorem test_set_supply : answerOf (after (.setSupply 9#8 [0x01#8, 0x00#8, 0xFA#8]) rich) =
    [0x00#8, 0x00#8, 0xFA#8, 0x01#8] := by decide +kernel
theorem test_set_policy : answerOf (after (.setPolicy 9#8 [0x05#8, 0x01#8, 0x3C#8]) rich) =
    [0x00#8, 0x01#8, 0x00#8, 0x3C#8] := by decide +kernel
/-- R197: OUTLET_ON(1) is low while P1's SW_EN is active. -/
theorem test_set_line : ((after (.setLine 9#8 [0x02#8, 0x06#8, 0x01#8]) rich).auxLine 2).out = some .low := by
  decide +kernel
/-- R134: disabling P12 leaves 11 outlets enabled. -/
theorem test_stage_map : answerOf (after (.stageMap 9#8 [0x0C#8, 0x00#8]) rich) = [0x00#8, 0x0B#8] := by decide +kernel
/-- R135: an outlet named twice is stored once, in ascending order. -/
theorem test_stage_gang : answerOf (after (.stageGang 9#8 [0x02#8, 0x09#8, 0x08#8, 0x09#8]) rich) =
    [0x00#8, 0x02#8, 0x02#8, 0x08#8, 0x09#8] := by decide +kernel
theorem test_discard_map : (after (.discardMap 9#8 []) (after (.stageMap 9#8 [0x0C#8, 0x00#8]) rich)).stagedMap =
    rich.activeMap := by decide +kernel
/-- R138: P1 is ON. -/
theorem test_apply_active : answerOf (after (.applyMap 9#8 []) rich) = [0x02#8, 0x0D#8] := by decide +kernel
/-- R139, check 1: P12 disabled leaves k = 11, and P1 with number 12 is above it. -/
theorem test_apply_numbering :
    answerOf (after (.applyMap 9#8 []) (after (.stageMap 9#8 [0x0C#8, 0x00#8, 0x01#8, 0x0C#8]) State.reset)) =
      [0x02#8, 0x0C#8, 0x01#8, 0x00#8, 0x01#8] := by decide +kernel
/-- R171 to R174: the RESTARTED notice of the part is delivered with number 1, and ALERT_N is released. -/
theorem test_fetch : answerOf (after (.fetchNotices 9#8 [0x00#8, 0x00#8, 0x04#8]) State.reset) =
    [0x00#8, 0x01#8, 0x00#8, 0x00#8, 0x01#8, 0x00#8, 0x01#8, 0x01#8, 0x00#8, 0x01#8, 0x13#8, 0x01#8, 0x00#8, 0x00#8,
     0x00#8, 0x00#8, 0x00#8, 0x00#8] := by decide +kernel
theorem test_fetch_alert : (after (.fetchNotices 9#8 [0x00#8, 0x00#8, 0x04#8]) State.reset).alertN = .high := by
  decide +kernel
/-- R190: the end of the RESTART reply resets, and BAUD is sampled (R191). -/
theorem test_restart : (after .answerTransmitted (after (.restart 9#8 []) rich)).queue = [] := by decide +kernel
theorem test_restart_baud :
    (after .answerTransmitted (after (.lineLevelChange .baud .high) (after (.restart 9#8 []) State.reset))).link.rate =
      .r460800 := by decide +kernel
/-- Log entry 24: an UNKNOWN_KIND with RESTART's kind is the RESTART command. -/
theorem test_unknown_restart : after (.unknownKind 9#8 0x50#8 []) rich = after (.restart 9#8 []) rich := by
  decide +kernel
/-- R180: SYNC starts a frame and the inter-byte timer; any other byte is discarded. -/
theorem test_sync : (after (.rxByte 0xB4#8 true) State.reset).link.rx = .headerLen := by decide +kernel
theorem test_no_sync : (after (.rxByte 0xB5#8 true) State.reset).link.rx = .hunting := by decide +kernel
/-- R181: a TIMEOUT NAK before the SEQ byte carries SEQ 0. -/
theorem test_inter_byte : (after .interByteTimeout (after (.rxByte 0xB4#8 true) State.reset)).link.answers =
    [.nak .timeout 0x00#8] := by decide +kernel
/-- R199. -/
theorem test_vdd : ((after .vddPowerOn rich).outlet 0).swEn = false := by decide +kernel
theorem test_reset_n : (after .resetNLow rich).alertN = .high := by decide +kernel
theorem test_reset_end : (after (.resetEnd .pin .high) (after .resetNLow rich)).link.rate = .r460800 := by decide +kernel
/-- R27: the loss of S1 leaves a budget of 0. -/
theorem test_supply_loss : (after (.supgoodInactive 0) rich).budget = 0 := by decide +kernel
theorem test_supgood : ((after (.supgoodActive 1) rich).supply 1).restoration = some 100 := by decide +kernel
/-- R86: a VSENSE at nominal and an ISENSE at the reference give 2000 dW and UP. -/
theorem test_scan : ((after (.meterScan 7 1200000 1000000) State.reset).outlet 7).latest = some (2000, .up) := by
  decide +kernel
/-- R86: just below 90 % is PARTIAL; the sample is rounded down. -/
theorem test_scan_partial : ((after (.meterScan 7 1079999 500000) State.reset).outlet 7).latest = some (899, .mid) := by
  decide +kernel
/-- R16: P3 is found DOWN, returns its allocation and is requeued behind P2, which the pass grants first. -/
theorem test_discharged : (after (.meterScan 2 0 0) rich).held = 500 := by decide +kernel
/-- R17: the pending POWER_ON completes FAULTED. -/
theorem test_discharge_timeout : (after (.dischargeTimeout 2) rich).slot 0 = .complete opThree .faulted := by
  decide +kernel
/-- R105: no scan has been made since the grant, so the ramp ends in a fault of the gang (R126). -/
theorem test_member_ramp : ((after (.memberRampExpiry 5) rich).gang 0).own.state = .stopping .fault .retryWait := by
  decide +kernel
/-- R113. -/
theorem test_stability : ((after (.stabilityExpiry 0) rich).outlet 0).own.stability = none := by decide +kernel
/-- R112: P5 is requeued, and the pass grants P2, then has 0 left for P5. -/
theorem test_backoff : ((after (.backoffExpiry 4) rich).outlet 4).own.state = .queued := by decide +kernel
/-- R18: the change starts the debounce timer with the debounce in force. -/
theorem test_pres : ((after (.presLevelChange 8 true) rich).outlet 8).debounce = some 100 := by decide +kernel
theorem test_debounce : ((after (.presenceDebounceExpiry 8) (after (.presLevelChange 8 true) rich)).outlet 8).presence =
    true := by decide +kernel
/-- R99: a condition that begins while the blanking runs is examined at the blanking's end. -/
theorem test_overcurrent : ((after (.overcurrentBegin 5) rich).outlet 5).width = none := by decide +kernel
theorem test_blanking : ((after (.blankingExpiry 5) (after (.overcurrentBegin 5) rich)).outlet 5).width = some 2 := by
  decide +kernel
theorem test_overcurrent_end : ((after (.overcurrentEnd 0) (after (.overcurrentBegin 0) rich)).outlet 0).width = none := by
  decide +kernel
/-- R102: the first pulse of PAIR mode opens the window. -/
theorem test_pulse : ((after (.qualifiedPulse 0) (after (.overcurrentBegin 0) rich)).outlet 0).pairWindow = some 40 := by
  decide +kernel
theorem test_pair_window : ((after (.pairWindowExpiry 0) (richWith 0 fun o => { o with pairWindow := some 40 })).outlet 0
    ).pairWindow = none := by decide +kernel
/-- R104: SHORT_N trips P1 at once. -/
theorem test_short : ((after (.shortNActive 0 true) rich).outlet 0).own.state = .stopping .fault .retryWait := by
  decide +kernel
/-- R95. -/
theorem test_overdraw : ((after (.overdrawWindowExpiry 0)
    (richWith 0 fun o => { o with overdrawWindow := some 1000 })).outlet 0).lastCause = some .overdraw := by decide +kernel
/-- R192: EOFF_N low starts its filter, whose expiry asserts EOFF and empties the queue (R193). -/
theorem test_line : (after (.lineLevelChange .eoffN .low) rich).eoffN.filter = some 1 := by decide +kernel
theorem test_eoff : (after (.lineFilterExpiry .eoffN) (after (.lineLevelChange .eoffN .low) rich)).queue = [] := by
  decide +kernel
/-- R50, R51: P2's entry rises to 4; alone in the queue it runs no pass. -/
theorem test_aging : (after (.agingStep (.solo 1))
    { rich with queue := [{ entryTwo with aging := some 5 }], policy := { rich.policy with aging := 5 } }).queue =
      [{ entryTwo with eff := 4, aging := some 5 }] := by decide +kernel
/-- R28. -/
theorem test_restored : ((after (.restorationTimerExpiry 1) (after (.supgoodActive 1) rich)).supply 1).good = true := by
  decide +kernel
/-- R125: P6's timeout makes G1's destination LATCHED. -/
theorem test_member_timeout : ((after (.memberDischargeTimeout 5) (updOutlet 5 (fun o => { o with discharge := some 200 })
    (gangIn (.stopping .host .off)))).gang 0).own.state = .stopping .host .latched := by decide +kernel
/-- R12: the latest scan was at UP. -/
theorem test_ramp : ((after (.rampExpiry 0) (richWith 0 fun o => { o with
    own := { o.own with state := .starting }, ramp := some 20, ring := [0], latest := some (0, .up) })).outlet 0).own.state =
      .on := by decide +kernel
/-- R123: the gang's stability timer sets its count to 0. -/
theorem test_gang_stability : ((after (.gangStabilityExpiry 0)
    (updFeed (.gang 0) (fun r => { r with state := .on, count := 2, stability := some 5 }) rich)).gang 0).own.count = 0 := by
  decide +kernel
/-- R127: the gang is requeued behind P2, and fits after P2's grant no more. -/
theorem test_gang_backoff : (after (.gangBackoffExpiry 0)
    (updFeed (.gang 0) (fun r => { r with state := .retryWait, count := 1, backoff := some 100 }) rich)).queue.map Entry.feed =
      [.gang 0] := by decide +kernel

/-! ## States that meet the hypotheses of the obligations

`witness_<Name>` shows, for the obligation `<Name>`, concrete states and operands that meet its hypotheses together; a
number at the end tells clauses apart. -/

theorem forall_feed {P : Feed → Prop} : (∀ f, P f) ↔ (∀ p, P (.solo p)) ∧ ∀ g, P (.gang g) :=
  ⟨fun h => ⟨fun p => h _, fun g => h _⟩, fun h f => by cases f; exacts [h.1 _, h.2 _]⟩

/-- `isFeed` as a test. -/
def feedHere (s : State) : Feed → Bool
  | .solo p => decide (s.feedOf p = some (.solo p))
  | .gang g => (s.membersOf g).isSome

theorem isFeed_iff (s : State) (f : Feed) : isFeed s f ↔ feedHere s f = true := by
  cases f <;> simp [isFeed, feedHere]

theorem rich_maps : mapsOk rich := by
  simp only [mapsOk, numbersOk, gangsOk, mapStored, listOk]
  decide +kernel

theorem rich_power : powerOk rich := by
  refine ⟨rich_maps, ?_, ?_, ?_, ?_⟩ <;>
    simp only [outletOk, queueOk, claimOk, totalsOk, isFeed_iff, forall_feed] <;> decide +kernel

/-- PENDING slots as a test. -/
theorem slotsOk_of {s : State}
    (h : ∀ n, match s.slot n with
      | .pending op f => feedHere s f = true ∧ (s.feedRec f).op = some n ∧
          (op.kind = .powerOn → onBound (s.feedState f) = true) ∧
          (op.kind = .powerOff → offStopping (s.feedState f) = true)
      | _ => True)
    (k : ∀ f, feedHere s f = true → ∀ n, (s.feedRec f).op = some n → ∃ op, s.slot n = .pending op f) : slotsOk s := by
  constructor
  · intro n op f e
    have := h n
    rw [e] at this
    rw [isFeed_iff]
    exact this
  · intro f n hf hn
    exact k f ((isFeed_iff s f).1 hf) n hn

theorem rich_slots : slotsOk rich := by
  refine slotsOk_of (fun n => ?_) ?_
  · fin_cases n
    · change _ ∧ _
      decide +kernel
    all_goals exact trivial
  · intro f hf n hn
    have h0 : f = .solo 2 ∧ n = 0 := by
      revert f n
      simp only [forall_feed]
      decide +kernel
    obtain ⟨rfl, rfl⟩ := h0
    exact ⟨opThree, by decide +kernel⟩

theorem rich_order : orderOk rich := by
  simp only [orderOk]
  decide +kernel

theorem rich_notices : noticesOk rich := by
  constructor
  · intro subj
    have h : noticesOn rich subj = if subj = .part then [Notice.restarted] else [] := by
      by_cases e : subj = .part
      · subst e; rfl
      · have e' : ¬ Subject.part = subj := fun x => e x.symm
        simp [noticesOn, rich, State.reset, Notice.restarted, e, e']
    rw [h]
    split <;> decide
  · decide +kernel

theorem rich_retry : retryOk rich := by
  simp only [retryOk, forall_feed, isFeed_iff]
  decide +kernel

theorem rich_emergency : emergencyOk rich := by
  simp only [emergencyOk]
  intro h
  exact absurd h (by decide +kernel)

theorem noPending {s : State} (h : ∀ n, s.slot n = .free) : ∀ n op f, s.slot n ≠ .pending op f :=
  fun n op f e => by rw [h n] at e; cases e

/-! ### The states -/

/-- HOLD asserted through AUX0. -/
def holdRich : State :=
  rich.setAux 0 { fn := .holdIn, input := { level := .low, active := true, filter := none }, out := none }
/-- EOFF asserted. -/
def eoffRich : State := { rich with eoffN := { level := .low, active := true, filter := none } }
/-- P2 claims exactly the headroom that is left. -/
def claimRich : State :=
  { rich with claim := some { feed := .solo 1, amount := 100 }, policy := { rich.policy with preemption := true } }
/-- P2 requests 1 dW more than the headroom that is left. -/
def tightRich : State :=
  updOutlet 1 (fun o => { o with profile := { o.profile with request := 101 } })
    { rich with queue := [{ entryTwo with amount := 101 }] }
/-- The same, with the claim. -/
def tightClaim : State := { tightRich with claim := some { feed := .solo 1, amount := 101 } }
/-- The same without the claim, in FIT_FIRST mode. -/
def tightFit : State := { tightRich with policy := { tightRich.policy with mode := .fitFirst } }
/-- Preemption is ON. -/
def eager : State := { rich with policy := { rich.policy with preemption := true } }
/-- P8's entry. -/
def entryEight : Entry := { entryTwo with feed := .solo 7, stamp := 2 }
/-- P8 waits behind P2, which does not fit, in FIT_FIRST mode: P8 fits. -/
def twoQueued : State :=
  updOutlet 7 (fun o => { o with own := { o.own with state := .queued } })
    { tightFit with queue := tightFit.queue ++ [entryEight], entryStamps := 2 }
/-- The same with 99 dW of headroom: neither fits. -/
def twoBlocked : State :=
  { twoQueued with budget := 499, supplies := tset twoQueued.supplies 0 { twoQueued.supply 0 with capacity := 499 } }
/-- The same with P2 the claimant. -/
def twoClaimed : State := { twoQueued with claim := some { feed := .solo 1, amount := 101 } }
/-- P2 waits alone with its fault inputs and profile as given. -/
def entering (short present : Bool) (blanking width : Nat) (mode : TripMode) : State :=
  richWith 1 fun o => { o with
    shortN := short, overcurrent := present
    profile := { o.profile with blanking := blanking, width := width, tripMode := mode } }
/-- G1 in QUEUED. -/
def gangQueued : State :=
  { gangIn .queued with
    outlets := tset (tset rich.outlets 5 OutletRec.reset) 6 OutletRec.reset
    held := 200, active := 100, entryStamps := 2
    queue := [entryTwo, { entryTwo with feed := .gang 0, amount := 200, stamp := 2 }] }
/-- No slot is FREE. -/
def slotless : State :=
  let done := Slot.complete opThree .powered
  { rich with slots := tset (tset (tset rich.slots 1 done) 2 done) 3 done }
/-- P12 is DISABLED. -/
def unmappedTwelve : State :=
  { State.reset with
    activeMap := { MapRec.default with numbers := tset MapRec.default.numbers 11 none }
    stagedMap := { MapRec.default with numbers := tset MapRec.default.numbers 11 none } }
/-- A queue entry of effective priority 4. -/
def entryFour (amount : Nat) : Entry := { entryTwo with amount := amount, eff := 4 }
/-- A part whose transmitter sends and whose receiver stands at a stage. -/
def receiving (st : RxStage) (tx : Option (List Byte)) : State :=
  { State.reset with link := { LinkRec.reset with rx := st, rxTimer := some 5, tx := tx } }
/-- A busy transmitter with answers to give. -/
def owing (l : List Answer) (f : Frame) : State :=
  { State.reset with link := { LinkRec.reset with tx := some [0#8], answers := l, places := #v[some f, none] } }

theorem claimRich_power : powerOk claimRich := by
  refine ⟨rich_maps, ?_, ?_, ?_, ?_⟩ <;>
    simp only [outletOk, queueOk, claimOk, totalsOk, isFeed_iff, forall_feed] <;> decide +kernel

theorem tightRich_power : powerOk tightRich := by
  refine ⟨rich_maps, ?_, ?_, ?_, ?_⟩ <;>
    simp only [outletOk, queueOk, claimOk, totalsOk, isFeed_iff, forall_feed] <;> decide +kernel

theorem tightClaim_power : powerOk tightClaim := by
  refine ⟨rich_maps, ?_, ?_, ?_, ?_⟩ <;>
    simp only [outletOk, queueOk, claimOk, totalsOk, isFeed_iff, forall_feed] <;> decide +kernel

theorem twoQueued_power : powerOk twoQueued := by
  refine ⟨rich_maps, ?_, ?_, ?_, ?_⟩ <;>
    simp only [outletOk, queueOk, claimOk, totalsOk, isFeed_iff, forall_feed] <;> decide +kernel

theorem twoBlocked_power : powerOk twoBlocked := by
  refine ⟨rich_maps, ?_, ?_, ?_, ?_⟩ <;>
    simp only [outletOk, queueOk, claimOk, totalsOk, isFeed_iff, forall_feed] <;> decide +kernel

theorem twoClaimed_power : powerOk twoClaimed := by
  refine ⟨rich_maps, ?_, ?_, ?_, ?_⟩ <;>
    simp only [outletOk, queueOk, claimOk, totalsOk, isFeed_iff, forall_feed] <;> decide +kernel

theorem entering_power (short present : Bool) (mode : TripMode) :
    powerOk (entering short present 0 0 mode) ∧ powerOk (entering short present 0 2 mode) := by
  constructor <;> refine ⟨rich_maps, ?_, ?_, ?_, ?_⟩ <;>
    simp only [outletOk, queueOk, claimOk, totalsOk, isFeed_iff, forall_feed] <;>
    cases mode <;> revert short present <;> decide +kernel

theorem gangQueued_power : powerOk gangQueued := by
  refine ⟨rich_maps, ?_, ?_, ?_, ?_⟩ <;>
    simp only [outletOk, queueOk, claimOk, totalsOk, isFeed_iff, forall_feed] <;> decide +kernel

theorem gangQueued_order : orderOk gangQueued := by
  simp only [orderOk]
  decide +kernel

/-! ### The machine as a whole -/

theorem witness_StepTakesFrontCommand : State.reset.pending = [] := rfl

theorem witness_ResetIgnoresCommands :
    (after .resetNLow rich).inReset = true ∧ actsInReset (.ident 0#8 []) = false := by decide +kernel

theorem witness_RequestCommandsAreRequestEvents_1 :
    requestOf (.powerOn 7#8 [0x01#8]) = some (7#8, 0x10#8, [0x01#8]) ∧
    (Instr.powerOn 7#8 [0x01#8]).wellFormed = true ∧ 0x10#8 ≠ 0x50#8 ∧ rich.takesRequests = true := by decide +kernel

theorem witness_RequestCommandsAreRequestEvents_2 :
    requestOf (.powerOn 7#8 [0xFF#8]) = some (7#8, 0x10#8, [0xFF#8]) ∧
    (Instr.powerOn 7#8 [0xFF#8]).wellFormed = true ∧ rich.takesRequests = true ∧
    (handle (mkFrame 7#8 0x10#8 [0xFF#8]) rich).2.head? = some 0x02#8 := by decide +kernel

theorem witness_RepliesFitTheFrame :
    mapsOk rich ∧ (handle (mkFrame 7#8 0x77#8 []) rich).2.head? = some 0x02#8 ∧ lengthFits 0x77#8 [] = none :=
  ⟨rich_maps, by decide +kernel, by decide⟩

theorem witness_KindAndLengthChecks :
    rich.takesRequests = true ∧ lengthFits 0x77#8 [] = none ∧ lengthFits 0x20#8 (List.replicate 28 0#8) = some false ∧
    lengthFits 0x20#8 (List.replicate 25 0#8) = some true ∧ lengthFits 0x01#8 [] = some true ∧
    lengthFits 0x23#8 [0x05#8, 0x01#8] = some false := by decide +kernel

/-! ### Shared operations -/

theorem witness_RaiseMergesOrAppends_1 :
    State.reset.notices = [] ++ Notice.restarted :: [] ∧ Notice.restarted.subject = .part ∧
    Notice.restarted.status = .opened ∧ ∀ m ∈ ([] : List Notice), m.subject = .part → m.status ≠ .opened := by
  decide +kernel

theorem witness_RaiseMergesOrAppends_2 :
    ∀ m ∈ State.reset.notices, m.subject = .outlet 0 → m.status ≠ .opened := by decide +kernel

theorem witness_CompletionFillsItsSlot :
    (rich.feedRec (.solo 2)).op = some 0 ∧ rich.slot 0 = .pending opThree (.solo 2) ∧ opThree.kind = .powerOn ∧
    (rich.feedRec (.solo 0)).op = none ∧ opThree.kind ≠ .powerOff := by decide +kernel

theorem witness_ClaimantIsTestedFirst_1 : holdRich.hold = true := by decide +kernel

theorem witness_ClaimantIsTestedFirst_2 :
    powerOk claimRich ∧ claimRich.hold = false ∧ claimRich.claim = some { feed := .solo 1, amount := 100 } ∧
    claimRich.held + 100 ≤ claimRich.budget :=
  ⟨claimRich_power, by decide +kernel, rfl, by decide +kernel⟩

theorem witness_ClaimantIsTestedFirst_3 :
    powerOk tightClaim ∧ tightClaim.hold = false ∧ tightClaim.claim = some { feed := .solo 1, amount := 101 } ∧
    tightClaim.budget < tightClaim.held + 101 :=
  ⟨tightClaim_power, by decide +kernel, rfl, by decide +kernel⟩

/-- Everything in the queue is skipped: P2 alone, with the claim. -/
theorem witness_ClaimantIsTestedFirst_skipped :
    powerOk tightClaim ∧ ∀ x ∈ tightClaim.queue, tightClaim.claim.map Claim.feed = some x.feed :=
  ⟨tightClaim_power, by decide +kernel⟩

/-- P8 fits behind P2 in FIT_FIRST mode; P2 alone fits in STRICT mode. -/
theorem witness_ClaimantIsTestedFirst_fits :
    powerOk twoQueued ∧ twoQueued.hold = false ∧ twoQueued.claim = none ∧ twoQueued.policy.mode = .fitFirst ∧
    twoQueued.queue = [{ entryTwo with amount := 101 }] ++ entryEight :: [] ∧ entryEight.unfit = false ∧
    twoQueued.held + 0 + entryEight.amount ≤ twoQueued.budget ∧ ¬ twoQueued.held + 0 + 101 ≤ twoQueued.budget ∧
    powerOk rich ∧ rich.policy.mode = .strict ∧ rich.queue = [] ++ entryTwo :: [] ∧ entryTwo.unfit = false ∧
    rich.held + 0 + entryTwo.amount ≤ rich.budget :=
  ⟨twoQueued_power, by decide +kernel, rfl, rfl, rfl, rfl, by decide +kernel, by decide +kernel, rich_power, rfl, rfl, rfl,
    by decide +kernel⟩

/-- P2 does not fit: in STRICT mode, and in FIT_FIRST mode with P8, which does not fit either, behind it. -/
theorem witness_ClaimantIsTestedFirst_blocked :
    powerOk tightRich ∧ tightRich.claim = none ∧ tightRich.policy.mode = .strict ∧
    tightRich.queue = [] ++ { entryTwo with amount := 101 } :: [] ∧ ¬ tightRich.held + 0 + 101 ≤ tightRich.budget ∧
    powerOk twoBlocked ∧ twoBlocked.hold = false ∧ twoBlocked.claim = none ∧
    twoBlocked.queue = [] ++ { entryTwo with amount := 101 } :: [entryEight] ∧
    ¬ twoBlocked.held + 0 + entryEight.amount ≤ twoBlocked.budget :=
  ⟨tightRich_power, rfl, rfl, rfl, by decide +kernel, twoBlocked_power, by decide +kernel, rfl, rfl, by decide +kernel⟩

/-- P8 is tested beside P2's claim. -/
theorem witness_ClaimantIsTestedFirst_beside :
    powerOk twoClaimed ∧ twoClaimed.hold = false ∧ twoClaimed.claim = some { feed := .solo 1, amount := 101 } ∧
    twoClaimed.budget < twoClaimed.held + 101 ∧
    twoClaimed.queue = [{ entryTwo with amount := 101 }] ++ entryEight :: [] ∧
    ¬ twoClaimed.held + 101 + entryEight.amount ≤ twoClaimed.budget :=
  ⟨twoClaimed_power, by decide +kernel, rfl, by decide +kernel, rfl, by decide +kernel⟩

/-- SHORT_N active; a condition that trips at the entry; a condition whose width is measured; one that opens the pair
window. -/
theorem witness_PassGrantsTheLoneEntry_faults :
    (∀ short present mode, powerOk (entering short present 0 0 mode) ∧ powerOk (entering short present 0 2 mode)) ∧
    (∀ short present width mode, (entering short present 0 width mode).hold = false ∧
      (entering short present 0 width mode).claim = none ∧ (entering short present 0 width mode).queue = [entryTwo] ∧
      (entering short present 0 width mode).outletsOf entryTwo.feed = [1]) ∧
    ((entering true true 0 0 .single).outlet 1).shortN = true ∧
    ((entering false true 0 0 .single).outlet 1).overcurrent = true ∧
    ((entering false true 0 0 .single).outlet 1).profile.tripMode = .single ∧
    ((entering false true 0 2 .single).outlet 1).profile.width = 2 ∧
    ((entering false true 0 0 .pair).outlet 1).profile.tripMode = .pair :=
  ⟨entering_power, fun _ _ _ _ => ⟨rfl, rfl, rfl, rfl⟩, by decide +kernel, by decide +kernel, by decide +kernel,
    by decide +kernel, by decide +kernel⟩

theorem witness_PassGrantsTheLoneEntry :
    powerOk rich ∧ rich.hold = false ∧ rich.claim = none ∧ rich.queue = [entryTwo] ∧
    rich.held + entryTwo.amount ≤ rich.budget ∧
    ∀ p ∈ rich.outletsOf entryTwo.feed, (rich.outlet p).shortN = false ∧ (rich.outlet p).overcurrent = false :=
  ⟨rich_power, by decide +kernel, rfl, rfl, by decide +kernel, by decide +kernel⟩

theorem witness_PassExhaustsTheHeadroom_1 :
    powerOk rich ∧ rich.hold = false ∧ rich.claim = none ∧ rich.policy.preemption = false ∧
    entryTwo ∈ rich.queue ∧ entryTwo ∉ (pass rich).queue ∧ rich.held ≤ rich.budget :=
  ⟨rich_power, by decide +kernel, rfl, rfl, by decide +kernel, by decide +kernel, by decide +kernel⟩

theorem witness_PassExhaustsTheHeadroom_2 :
    powerOk tightRich ∧ tightRich.hold = false ∧ tightRich.claim = none ∧ tightRich.policy.preemption = false ∧
    tightRich.policy.mode = .strict ∧ (pass tightRich).queue = [] ++ { entryTwo with amount := 101 } :: [] :=
  ⟨tightRich_power, by decide +kernel, rfl, rfl, rfl, by decide +kernel⟩

theorem witness_PassExhaustsTheHeadroom_3 :
    powerOk tightFit ∧ tightFit.hold = false ∧ tightFit.claim = none ∧ tightFit.policy.preemption = false ∧
    tightFit.policy.mode = .fitFirst ∧ ∃ e ∈ (pass tightFit).queue, e.unfit = false :=
  ⟨tightRich_power, by decide +kernel, rfl, rfl, rfl, by decide +kernel⟩

theorem witness_VictimsAreRankedAndStopped :
    mapsOk rich ∧ (∃ r ∈ rich.victims, r.feed = .gang 0) ∧ feedHere rich (.solo 0) = true ∧
    (rich.feedState (.solo 0)).powered = true ∧ rich.shedPolicyOf (.solo 0) = .requeue ∧
    (richWith 0 fun o => { o with profile := { o.profile with shedPolicy := .drop } }).shedPolicyOf (.solo 0) = .drop :=
  ⟨rich_maps, by decide +kernel, by decide +kernel, by decide +kernel, by decide +kernel, by decide +kernel⟩

theorem witness_PreemptionStopsShortestPrefix_1 :
    eager.policy.preemption = true ∧ eager.claim = none ∧ (entryFour 300).unfit = false ∧ eager.hold = false ∧
    1 ≤ (eager.victims.filter (fun r => decide (r.priority < 4))).length ∧
    300 + eager.held ≤ eager.budget +
      (((eager.victims.filter (fun r => decide (r.priority < 4))).take 1).map Running.alloc).sum ∧
    ¬ 300 + eager.held ≤ eager.budget := by decide +kernel

theorem witness_PreemptionStopsShortestPrefix_2 :
    eager.policy.preemption = true ∧ eager.claim = none ∧ (entryFour 401).unfit = false ∧ eager.hold = false ∧
    ¬ 401 + eager.held ≤ eager.budget +
      ((eager.victims.filter (fun r => decide (r.priority < 4))).map Running.alloc).sum := by decide +kernel

theorem witness_PreemptionStopsShortestPrefix_3 : ¬ rich.policy.preemption = true := by decide +kernel

theorem witness_SheddingStopsPrefixInOrder :
    mapsOk { rich with budget := 100 } ∧ (∀ p, outletOk { rich with budget := 100 } p) ∧
    ({ rich with budget := 100 } : State).active = allocSum { rich with budget := 100 }
      ({ rich with budget := 100 } : State).outletPowered ∧ 100 < rich.active :=
  ⟨rich_maps, rich_power.2.1, by decide +kernel, by decide +kernel⟩

/-- The same supply with another capacity. -/
def capacityOne (c : Nat) (s : State) : State := s.setSupply 0 { s.supply 0 with capacity := c }

theorem witness_BudgetChangesHaveConsequences :
    (recompute rich).1.budget = rich.budget ∧ (recompute (capacityOne 499 rich)).1.budget = 499 ∧ rich.claim = none ∧
    claimRich.claim ≠ none ∧ (recompute (capacityOne 501 rich)).1.budget = 501 := by decide +kernel

theorem witness_FaultsCountAndStop_1 : mapsOk rich ∧ rich.outletPowered 1 = false := ⟨rich_maps, by decide +kernel⟩

theorem witness_FaultsCountAndStop_2 :
    mapsOk rich ∧ rich.outletPowered 0 = true ∧ rich.feedOf 0 = some (.solo 0) ∧
    (rich.feedRec (.solo 0)).count + 1 < rich.thresholdOf (.solo 0) ∧ rich.outletPowered 5 = true ∧
    rich.feedOf 5 = some (.gang 0) ∧ (rich.feedRec (.gang 0)).count + 1 < rich.thresholdOf (.gang 0) :=
  ⟨rich_maps, by decide +kernel, by decide +kernel, by decide +kernel, by decide +kernel, by decide +kernel,
    by decide +kernel⟩

/-- P1 and G1 with another count. -/
def counted (n : Nat) : State :=
  updFeed (.solo 0) (fun r => { r with count := n }) (updFeed (.gang 0) (fun r => { r with count := n }) rich)

theorem witness_FaultsCountAndStop_3 :
    (counted 2).outletPowered 0 = true ∧ (counted 2).feedOf 0 = some (.solo 0) ∧
    (counted 2).thresholdOf (.solo 0) = 2 + 1 ∧ (counted 2).feedOf 5 = some (.gang 0) ∧
    (counted 2).thresholdOf (.gang 0) = 2 + 1 ∧ ¬ ((counted 15).feedRec (.solo 0)).count < 15 := by decide +kernel

/-! ### Requests that report -/

theorem witness_IdentAndStatusReport : rich.takesRequests = true := by decide +kernel

theorem witness_RecordsAndMetersAreRead :
    rich.takesRequests = true ∧ namesOutlet rich 0x41#8 0 ∧ namesOutlet rich 0x4C#8 11 ∧ namesOutlet rich 0x01#8 0 ∧
    namesOutlet rich 0x0C#8 11 := by
  simp only [namesOutlet]
  decide +kernel

theorem witness_QueueAndMapsAreRead : rich.takesRequests = true := by decide +kernel

/-! ### Targets and profile checks -/

theorem witness_TargetsAreChecked_1 :
    rich.takesRequests = true ∧ namesNoOutlet rich 0x40#8 ∧ namesNoOutlet rich 0x4D#8 ∧ namesNoOutlet rich 0x00#8 ∧
    namesNoOutlet rich 0x0D#8 ∧ namesNoOutlet unmappedTwelve 0x0C#8 := by
  simp only [namesNoOutlet]
  decide +kernel

theorem witness_TargetsAreChecked_2 :
    rich.takesRequests = true ∧ ¬ (0x81 ≤ (0x80#8).toNat ∧ (0x80#8).toNat ≤ 0x84) ∧
    ¬ (0x81 ≤ (0x85#8).toNat ∧ (0x85#8).toNat ≤ 0x84) := by decide +kernel

theorem witness_TargetsAreChecked_3 :
    rich.takesRequests = true ∧ rich.logicalOf 5 = some (0x06#8).toNat ∧
    (∀ q, rich.logicalOf q = some (0x06#8).toNat → q = 5) ∧ (rich.gangOf 5).isSome = true := by decide +kernel

theorem witness_TargetsAreChecked_4 :
    unmappedTwelve.takesRequests = true ∧ (∀ q, unmappedTwelve.logicalOf q ≠ some (0x0C#8).toNat) ∧
    ((0x84#8).toNat = 0x81 + (3 : GangId).val ∧ unmappedTwelve.membersOf 3 = none) ∧
    ∀ b ∈ [0x00#8, 0x0D#8, 0x41#8, 0x80#8, 0x85#8, 0xFF#8],
      ¬ ((1 ≤ b.toNat ∧ b.toNat ≤ 12) ∨ (0x81 ≤ b.toNat ∧ b.toNat ≤ 0x84)) := by decide +kernel

theorem outletState_seven : rich.outletState 7 = .mapped .off := by decide +kernel

theorem allowed_seven (id : Nat) : valueAllowed rich 7 id :=
  ⟨fun _ => by decide +kernel, fun _ => by rw [outletState_seven]; exact ⟨nofun, nofun⟩⟩

theorem witness_PairsAreCheckedInRounds_1 :
    rich.takesRequests = true ∧ namesOutlet rich 0x48#8 7 ∧ valueInRange 1 1 ∧ valueInRange 1 1000 ∧
    ¬ valueInRange 1 0 ∧ ¬ valueInRange 1 1001 ∧ ¬ valueInRange 0 0 ∧ ¬ valueInRange 17 0 := by
  refine ⟨by decide +kernel, by simp only [namesOutlet]; decide +kernel, ?_⟩
  simp [valueInRange]

theorem witness_PairsAreCheckedInRounds_2 :
    rich.takesRequests = true ∧ namesOutlet rich 0x41#8 0 ∧ valueInRange 2 7 ∧ valueAllowed rich 0 2 ∧
    valueInRange 1 1000 ∧ ¬ valueAllowed rich 0 1 := by
  refine ⟨by decide +kernel, by simp only [namesOutlet]; decide +kernel, by simp [valueInRange], ⟨by decide, by simp⟩,
    by simp [valueInRange], ?_⟩
  exact fun h => absurd (h.1 (by decide)) (by decide +kernel)

theorem witness_PairsAreCheckedInRounds_3 :
    rich.takesRequests = true ∧ gangValueInRange 1 7 ∧ ¬ gangValueInRange 1 8 ∧ ¬ gangValueInRange 2 0 ∧
    ¬ gangValueInRange 5 0 := by
  simp only [gangValueInRange]
  decide +kernel

theorem witness_PairsAreCheckedInRounds_4 :
    ((gangIn .retryWait).membersOf 0).isSome = true ∧ ((gangIn .retryWait).gang 0).own.state = .retryWait ∧
    gangValueInRange 2 15 ∧ gangValueInRange 2 1 ∧ (gangIn (.stopping .host .off)).takesRequests = true ∧
    ((gangIn (.stopping .host .off)).gang 0).own.state = .stopping .host .off := by
  simp only [gangValueInRange]
  decide +kernel

theorem witness_ProfilePairsAreWritten_1 :
    rich.takesRequests = true ∧ namesOutlet rich 0x48#8 7 ∧ valueInRange 13 0 ∧ valueInRange 15 5000 ∧
    (∀ id, valueAllowed rich 7 id) ∧ rich.outletState 7 ≠ .mapped .queued := by
  exact ⟨by decide +kernel, by simp only [namesOutlet]; decide +kernel, by simp [valueInRange], by simp [valueInRange],
    allowed_seven, by decide +kernel⟩

theorem outletState_one : rich.outletState 1 = .mapped .queued := by decide +kernel

theorem witness_ProfilePairsAreWritten_2 :
    namesOutlet rich 0x42#8 1 ∧ rich.outletState 1 = .mapped .queued ∧ valueInRange 10 15 ∧ valueAllowed rich 1 10 := by
  refine ⟨?_, outletState_one, ?_, ⟨by decide, fun _ => ?_⟩⟩
  · simp only [namesOutlet]; decide +kernel
  · simp [valueInRange]
  · rw [outletState_one]; exact ⟨nofun, nofun⟩

theorem witness_ProfilePairsAreWritten_3 :
    rich.takesRequests = true ∧ (rich.membersOf 0).isSome = true ∧ (rich.gang 0).own.state = .starting ∧
    gangValueInRange 1 7 ∧ gangValueInRange 2 15 ∧ rich.membersOf 3 = none := by
  simp only [gangValueInRange]
  decide +kernel

theorem witness_QueuedEntriesFollowProfileWrites_1 :
    rich.takesRequests = true ∧ powerOk rich ∧ orderOk rich ∧ namesOutlet rich 0x02#8 1 ∧
    rich.feedOf 1 = some (.solo 1) ∧ 1 ≤ 1000 ∧ rich.queue = [] ++ entryTwo :: [] ∧ entryTwo.feed = .solo 1 :=
  ⟨by decide +kernel, rich_power, rich_order, by simp only [namesOutlet]; decide +kernel, by decide +kernel, by decide,
    rfl, rfl⟩

theorem witness_QueuedEntriesFollowProfileWrites_2 :
    powerOk claimRich ∧ claimRich.claim.map Claim.feed = some (.solo 1) ∧
    claimRich.budget < claimRich.requestAmount (.solo 1) - (claimRich.outlet 1).profile.request + 501 ∧
    ¬ claimRich.budget < claimRich.requestAmount (.solo 1) - (claimRich.outlet 1).profile.request + 500 :=
  ⟨claimRich_power, rfl, by decide +kernel, by decide +kernel⟩

theorem witness_QueuedEntriesFollowProfileWrites_3 :
    gangQueued.takesRequests = true ∧ powerOk gangQueued ∧ orderOk gangQueued ∧ namesOutlet gangQueued 0x06#8 5 ∧
    gangQueued.feedOf 5 = some (.gang 0) ∧ ∃ e ∈ gangQueued.queue, e.feed = .gang 0 :=
  ⟨by decide +kernel, gangQueued_power, gangQueued_order, by simp only [namesOutlet]; decide +kernel,
    by decide +kernel, by decide +kernel⟩

/-! ### Power requests -/

theorem witness_PowerOnAnswersByRow_1 :
    rich.takesRequests = true ∧ namesFeed rich 0x01#8 (.solo 0) ∧ rich.feedState (.solo 0) = .on ∧
    namesFeed rich 0x04#8 (.solo 3) ∧ rich.feedState (.solo 3) = .latched ∧ namesFeed rich 0x03#8 (.solo 2) ∧
    (rich.feedRec (.solo 2)).op ≠ none ∧ namesFeed rich 0x0C#8 (.solo 11) ∧ rich.feedState (.solo 11) = .off ∧
    namesFeed rich 0x81#8 (.gang 0) ∧ rich.feedState (.gang 0) = .starting := by
  simp only [namesFeed]
  decide +kernel

theorem witness_PowerOnAnswersByRow_2 :
    eoffRich.takesRequests = true ∧ eoffRich.eoff = true ∧ namesFeed eoffRich 0x01#8 (.solo 0) ∧
    offStopping ((gangIn (.stopping .host .off)).feedState (.gang 0)) = true ∧
    (∀ n, slotless.slot n ≠ .free) ∧ namesFeed slotless 0x02#8 (.solo 1) ∧ slotless.feedState (.solo 1) = .queued ∧
    lowestFree rich 1 := by
  simp only [namesFeed, lowestFree]
  decide +kernel

theorem witness_PowerOnAnswersByRow_3 :
    let s := richWith 7 fun o => { o with profile := { o.profile with startMode := .onPresence } }
    s.startModeOf (.solo 7) = .onPresence ∧ (∀ p ∈ s.outletsOf (.solo 7), (s.outlet p).presence = false) ∧
    namesFeed s 0x08#8 (.solo 7) := by
  simp only [namesFeed]
  decide +kernel

theorem witness_PowerOffActsByState :
    rich.takesRequests = true ∧ mapsOk rich ∧ namesFeed rich 0x0C#8 (.solo 11) ∧ rich.feedState (.solo 11) = .off ∧
    namesFeed rich 0x04#8 (.solo 3) ∧ rich.feedState (.solo 3) = .latched ∧ namesFeed rich 0x02#8 (.solo 1) ∧
    rich.feedState (.solo 1) = .queued ∧ namesFeed rich 0x05#8 (.solo 4) ∧ rich.feedState (.solo 4) = .retryWait ∧
    namesFeed rich 0x03#8 (.solo 2) ∧ rich.feedState (.solo 2) = .stopping .shed .queued ∧
    rich.pendingKind (.solo 2) = some .powerOn ∧ namesFeed rich 0x01#8 (.solo 0) ∧ rich.feedState (.solo 0) = .on ∧
    namesFeed rich 0x81#8 (.gang 0) ∧ rich.feedState (.gang 0) = .starting := by
  refine ⟨by decide +kernel, rich_maps, ?_⟩
  simp only [namesFeed]
  decide +kernel

theorem witness_PowerOffActsByState_2 :
    let s := after (.powerOff 7#8 [0x01#8]) rich
    s.takesRequests = true ∧ namesFeed s 0x01#8 (.solo 0) ∧ s.pendingKind (.solo 0) = some .powerOff ∧
    (∀ n, slotless.slot n ≠ .free) ∧ namesFeed slotless 0x01#8 (.solo 0) ∧ slotless.feedState (.solo 0) = .on := by
  simp only [namesFeed]
  decide +kernel

theorem witness_PowerOffAllTurnsEveryFeedOff : rich.takesRequests = true ∧ powerOk rich ∧ slotsOk rich :=
  ⟨by decide +kernel, rich_power, rich_slots⟩

theorem witness_ClearFaultSetsTheCount :
    rich.takesRequests = true ∧ namesFeed rich 0x04#8 (.solo 3) ∧ rich.feedState (.solo 3) = .latched ∧
    namesFeed rich 0x05#8 (.solo 4) ∧ retryBound (rich.feedState (.solo 4)) = true ∧ namesFeed rich 0x81#8 (.gang 0) ∧
    retryBound (rich.feedState (.gang 0)) = false := by
  simp only [namesFeed]
  decide +kernel

theorem witness_RestartEndsInAReset :
    let s := after (.restart 7#8 []) rich
    rich.takesRequests = true ∧ s.link.restarting = true ∧ s.inReset = false ∧ s.link.tx.isSome = true ∧
    (requestOf (.ident 7#8 [])).isSome = true := by decide +kernel

/-! ### Settings of the part -/

theorem witness_SetSupplyWritesAndRecomputes :
    rich.takesRequests = true ∧ (∀ v ∈ some 4000, v < 65536) ∧ (∀ v ∈ some 4001, v < 65536) ∧
    (∀ v ∈ some 65535, v < 65536) ∧ ∀ v ∈ (none : Option Nat), v < 65536 := by
  refine ⟨by decide +kernel, ?_, ?_, ?_, ?_⟩ <;> simp

/-- A mask bit that names no field, alone and beside named ones. -/
theorem witness_SetSupplyWritesAndRecomputes_mask :
    8 ≤ (0x08#8).toNat ∧ ([] : List Byte).length = 2 * bitsSet 0x08#8 ∧ 8 ≤ (0xFF#8).toNat ∧
    (List.replicate 6 0#8).length = 2 * bitsSet 0xFF#8 := by decide

theorem witness_SetPolicyWritesWithConsequences_mask :
    8 ≤ (0x08#8).toNat ∧ ([] : List Byte).length = bitsSet 0x08#8 ∧ 8 ≤ (0xFF#8).toNat ∧
    (List.replicate 3 0#8).length = bitsSet 0xFF#8 := by decide

theorem witness_SetPolicyWritesWithConsequences :
    rich.takesRequests = true ∧ (∀ v ∈ some 60, v < 256) ∧ (∀ v ∈ some 61, v < 256) ∧ (∀ v ∈ some 255, v < 256) ∧
    ∀ v ∈ (none : Option Nat), v < 256 := by
  refine ⟨by decide +kernel, ?_, ?_, ?_, ?_⟩ <;> simp

theorem witness_SetLineChangesTheFunction :
    rich.takesRequests = true ∧ 3 < (4#8).toNat ∧ 6 < (7#8).toNat ∧ ¬ (1 ≤ (0#8).toNat ∧ (0#8).toNat ≤ 12) ∧
    ¬ (1 ≤ (13#8).toNat ∧ (13#8).toNat ≤ 12) ∧ (5#8).toNat ≠ 6 ∧ (1#8).toNat ≠ 0 := by decide +kernel

/-! ### The map -/

theorem witness_StagedMapIsEdited :
    rich.takesRequests = true ∧
    (∀ x ∈ [((0 : OutletId), (none : Option Nat)), (11, some 1), (11, some 12)], ∀ n ∈ x.2, 1 ≤ n ∧ n ≤ 12) ∧
    [(0 : OutletId)].length = 1 ∧ [(8 : OutletId), 7, 8, 11].length ≤ 4 ∧ ([] : List OutletId).length ≠ 1 := by
  refine ⟨by decide +kernel, ?_, rfl, by decide, by decide⟩
  simp

theorem witness_StagedMapIsEdited_values :
    rich.takesRequests = true ∧ (∀ b ∈ [0x00#8, 0x0D#8], ¬ (1 ≤ b.toNat ∧ b.toNat ≤ 12)) ∧ 12 < (0x0D#8).toNat ∧
    ∀ b ∈ [0x00#8, 0x05#8], ¬ (1 ≤ b.toNat ∧ b.toNat ≤ 4) := by decide +kernel

/-- A quiet part with G1 of P6 and P7 staged and P12 disabled in the staged map. -/
def staged : State :=
  { State.reset with stagedMap :=
    { numbers := tset MapRec.default.numbers 11 none, gangs := #v[some [5, 6], none, none, none] } }

/-- A quiet part whose G1 is LATCHED and takes P8 in the staged map. -/
def stagedLatched : State :=
  updFeed (.gang 0) (fun r => { r with state := .latched })
    { State.reset with
      activeMap := { MapRec.default with gangs := #v[some [5, 6], none, none, none] }
      stagedMap := { MapRec.default with gangs := #v[some [5, 6, 7], none, none, none] } }

theorem witness_ApplyActivatesTheStagedMap_1 :
    staged.takesRequests = true ∧ mapsOk staged ∧
    (∀ p, staged.outletState p = .unmapped ∨ staged.outletState p = .mapped .off ∨
      staged.outletState p = .mapped .latched) ∧
    (∀ n op f, staged.slot n ≠ .pending op f) ∧ numbersOk staged.stagedMap ∧ gangsOk staged.stagedMap ∧
    ∀ g p, staged.stagedMap.hasMember p g = true → staged.outletState p = .mapped .latched →
      staged.activeMap.hasMember p g = true := by
  refine ⟨by decide +kernel, ?_, by decide +kernel, noPending (by decide +kernel), ?_, ?_, by decide +kernel⟩ <;>
    simp only [mapsOk, numbersOk, gangsOk, mapStored, listOk] <;> decide +kernel

theorem witness_ApplyActivatesTheStagedMap_2 :
    stagedLatched.takesRequests = true ∧ mapsOk stagedLatched ∧
    (∀ p, stagedLatched.outletState p = .unmapped ∨ stagedLatched.outletState p = .mapped .off ∨
      stagedLatched.outletState p = .mapped .latched) ∧
    (∀ n op f, stagedLatched.slot n ≠ .pending op f) ∧ numbersOk stagedLatched.stagedMap ∧
    gangsOk stagedLatched.stagedMap ∧
    (∀ g p, stagedLatched.stagedMap.hasMember p g = true → stagedLatched.outletState p = .mapped .latched →
      stagedLatched.activeMap.hasMember p g = true) ∧
    ∃ p, stagedLatched.stagedMap.hasMember p 0 = true ∧ stagedLatched.outletState p = .mapped .latched := by
  refine ⟨by decide +kernel, ?_, by decide +kernel, noPending (by decide +kernel), ?_, ?_, by decide +kernel,
    by decide +kernel⟩ <;> simp only [mapsOk, numbersOk, gangsOk, mapStored, listOk] <;> decide +kernel

theorem witness_ApplyChecksInOrder_active :
    rich.takesRequests = true ∧ ¬ (rich.outletState 0 = .unmapped ∨ rich.outletState 0 = .mapped .off ∨
      rich.outletState 0 = .mapped .latched) := by decide +kernel

/-- A quiet part with a staged map. -/
def offering (m : MapRec) : State := { State.reset with stagedMap := m }

theorem offering_quiet (m : MapRec) :
    (offering m).takesRequests = true ∧ (∀ p, (offering m).outletState p = .mapped .off) ∧
    ∀ n op f, (offering m).slot n ≠ .pending op f :=
  ⟨rfl, (by decide +kernel : ∀ p, State.reset.outletState p = .mapped .off), noPending
    (by decide +kernel : ∀ n, State.reset.slot n = .free)⟩

theorem witness_ApplyChecksInOrder_check1 :
    let m : MapRec := { MapRec.default with numbers := tset MapRec.default.numbers 11 (some 1) }
    (m.enabled.length < 1 ∨ ∃ q, q ≠ 0 ∧ tget m.numbers q = some 1) ∧ tget m.numbers 0 = some 1 := by decide +kernel

theorem witness_ApplyChecksInOrder_check2 :
    let m : MapRec := { MapRec.default with gangs := #v[none, none, none, some [5]] }
    (∀ p, ¬ ∃ n, tget m.numbers p = some n ∧ (m.enabled.length < n ∨ ∃ q, q ≠ p ∧ tget m.numbers q = some n)) ∧
    tget m.gangs 3 = some [5] ∧ ([5] : List OutletId).dedup.length < 2 ∧ ∀ h, h < 3 → tget m.gangs h = none := by
  intro m
  have h : ∀ p, tget m.numbers p = some (p.val + 1) := by decide +kernel
  refine ⟨?_, by decide +kernel, by decide +kernel, by decide +kernel⟩
  rintro p ⟨n, e, k⟩
  rw [h] at e
  obtain rfl : p.val + 1 = n := by simpa using e
  rcases k with k | ⟨q, hq, k⟩
  · exact absurd k (by
      have : m.enabled.length = 12 := by decide +kernel
      omega)
  · rw [h] at k
    exact hq (Fin.ext (by simpa using k))

theorem witness_ApplyChecksInOrder_check3 :
    let m : MapRec := { MapRec.default with gangs := #v[some [5, 6], some [6, 7], none, none] }
    m.hasMember 6 1 = true ∧ (∃ h, h < (1 : GangId) ∧ m.hasMember 6 h = true) ∧
    (∀ q, q < (6 : OutletId) → m.hasMember q 1 = false) ∧
    ∀ q, m.hasMember q 0 = true → (tget m.numbers q).isSome = true := by decide +kernel

theorem witness_ApplyChecksInOrder_check4 :
    let s := (offering { MapRec.default with gangs := #v[some [5, 6], none, none, none] }).setOutlet 6
      (outletIn .latched)
    s.stagedMap.hasMember 6 0 = true ∧ s.outletState 6 = .mapped .latched ∧ s.activeMap.hasMember 6 0 = false ∧
    (∀ p, s.outletState p = .mapped .off ∨ s.outletState p = .mapped .latched) ∧
    ∀ q, q < (6 : OutletId) → s.outletState q ≠ .mapped .latched := by decide +kernel

/-! ### Notices and the Host Link -/

theorem witness_FetchAcknowledgesAndDelivers :
    rich.takesRequests = true ∧ 65535 < 65536 ∧ 4 ≤ 4 ∧ 4 < (5#8).toNat ∧
    ∃ n ∈ (after (.fetchNotices 7#8 [0#8, 0#8, 4#8]) rich).notices, n.status ≠ .opened := by decide +kernel

theorem witness_ReceiverCollectsAndExamines_1 :
    (receiving .hunting none).inReset = false ∧ (receiving .hunting none).link.restarting = false ∧
    (receiving .hunting none).link.answers = [] ∧ (receiving .headerLen (some [])).link.tx.isSome = true ∧
    (receiving .headerLen none).link.rx = .headerLen ∧ (48#8).toNat ≤ 48 ∧ 48 < (49#8).toNat ∧
    (receiving (.headerSeq 48#8) none).link.rx = .headerSeq 48#8 ∧
    (receiving (.headerKind 0#8 1#8) none).link.rx = .headerKind 0#8 1#8 ∧
    (receiving (.headerKind 1#8 1#8) none).link.rx = .headerKind 1#8 1#8 ∧
    (receiving (.payload 2#8 1#8 1#8 []) none).link.rx = .payload 2#8 1#8 1#8 [] ∧
    (receiving (.payload 1#8 1#8 1#8 []) none).link.rx = .payload 1#8 1#8 1#8 [] ∧
    (receiving (.checkHigh 0#8 1#8 1#8 []) none).link.rx = .checkHigh 0#8 1#8 1#8 [] := by decide +kernel

theorem witness_ReceiverCollectsAndExamines_2 :
    (receiving .headerLen (some [])).link.nakCount < 2 ∧
    2 ≤ (owing [.nak .crc 1#8, .nak .crc 2#8] (mkFrame 1#8 1#8 [])).link.nakCount ∧
    (receiving .headerLen none).link.tx = none ∧ (receiving .headerLen none).link.answers = [] := by decide +kernel

theorem witness_ReceiverCollectsAndExamines_3 :
    let s := receiving (.checkLow 0#8 1#8 1#8 [] 0#8) (some [])
    s.inReset = false ∧ s.link.restarting = false ∧ s.link.tx.isSome = true ∧
    s.link.rx = .checkLow 0#8 1#8 1#8 [] 0#8 ∧ tget s.link.places 0 = none ∧
    (∃ b : Byte, b = (frameCrc 1#8 1#8 []).setWidth 8 ∧ 0#8 ++ b ≠ frameCrc 1#8 1#8 []) := by decide +kernel

theorem witness_ReceiverCollectsAndExamines_idle :
    let s := receiving (.checkLow 0#8 1#8 1#8 [] 0#8) none
    s.inReset = false ∧ s.link.restarting = false ∧ s.link.tx = none ∧ s.link.answers = [] ∧
    s.link.rx = .checkLow 0#8 1#8 1#8 [] 0#8 ∧ 0#8 ++ 0#8 ≠ frameCrc 1#8 1#8 [] := by decide +kernel

theorem witness_ReceiverCollectsAndExamines_4 :
    let high : Byte := (frameCrc 1#8 1#8 []).extractLsb' 8 8
    let low : Byte := (frameCrc 1#8 1#8 []).extractLsb' 0 8
    let s := { owing [.frame 0 true, .frame 1 false] (mkFrame 1#8 1#8 []) with link :=
      { (owing [.frame 0 true, .frame 1 false] (mkFrame 1#8 1#8 [])).link with
        rx := .checkLow 0#8 1#8 1#8 [] high, places := #v[some (mkFrame 1#8 1#8 []), some (mkFrame 2#8 1#8 [])] } }
    high ++ low = frameCrc 1#8 1#8 [] ∧ (∀ i : Fin 2, tget s.link.places i ≠ none) ∧ s.link.nakCount < 2 := by
  decide +kernel

theorem witness_FrameBytesAreReceivedAsTheFrame :
    (List.replicate 48 0#8).length ≤ 48 ∧ State.reset.inReset = false ∧ State.reset.link.restarting = false ∧
    State.reset.link.rx = .hunting ∧ State.reset.link.tx = none ∧ State.reset.link.answers = [] ∧
    tget State.reset.link.places 0 = none ∧ State.reset.link.cache = none ∧
    (owing [.frame 0 true] (mkFrame 1#8 1#8 [])).link.tx.isSome = true ∧
    tget (owing [.frame 0 true] (mkFrame 1#8 1#8 [])).link.places 1 = none ∧
    (owing [.frame 0 true] (mkFrame 1#8 1#8 [])).link.rx = .hunting := by decide +kernel

theorem witness_TransmitterServesTheNextElement :
    let f := mkFrame 1#8 1#8 []
    let s := owing [.nak .crc 1#8, .frame 0 false] f
    s.inReset = false ∧ s.link.restarting = false ∧ s.link.tx.isSome = true ∧
    s.link.answers = .nak .crc 1#8 :: [.frame 0 false] ∧ tget s.link.places 0 = some f ∧ s.link.cache = none ∧
    (owing [.frame 0 true] f).link.answers = .frame 0 true :: [] ∧
    (owing [.frame 0 true, .nak .overrun 2#8] f).link.answers = .frame 0 true :: .nak .overrun 2#8 :: [] ∧
    ∃ c, (after (.ident 1#8 []) State.reset).link.cache = some c ∧ c.seq = f.seq ∧ c.kind = f.kind ∧ c.crc = f.crc := by
  refine ⟨by decide +kernel, by decide +kernel, by decide +kernel, by decide +kernel, by decide +kernel,
    by decide +kernel, rfl, rfl, _, rfl, by decide +kernel, by decide +kernel, by decide +kernel⟩

theorem witness_InterByteTimeoutEndsTheFrame :
    (receiving .headerLen none).inReset = false ∧ (receiving .headerLen none).link.restarting = false ∧
    (receiving .headerLen none).link.rxTimer.isSome = true ∧ (receiving .headerLen none).link.tx = none ∧
    (receiving .headerLen none).link.answers = [] ∧ (receiving (.headerKind 1#8 2#8) (some [])).link.tx.isSome = true ∧
    (receiving (.headerKind 1#8 2#8) (some [])).link.nakCount < 2 ∧
    2 ≤ (owing [.nak .crc 1#8, .nak .crc 2#8] (mkFrame 1#8 1#8 [])).link.nakCount := by decide +kernel

/-! ### Hard reset, supplies, and the queue's time -/

theorem witness_HardResetTakesAndEnds :
    (after .vddPowerOn rich).resetBy = { vdd := true, pin := false } ∧
    (after .resetNLow rich).resetBy = { vdd := false, pin := true } ∧
    (after .resetNLow (after .vddPowerOn rich)).resetBy = { vdd := true, pin := true } := by decide +kernel

theorem witness_SupgoodGovernsTheSupply :
    rich.inReset = false ∧ (rich.supply 0).good = true ∧ (rich.supply 1).good = false ∧
    (rich.supply 1).line = false ∧
    ((after (.supgoodActive 1) rich).supply 1).restoration.isSome = true := by decide +kernel

theorem witness_AgingStepRaisesAndReorders :
    let e : Entry := { entryTwo with eff := 6, aging := some 5 }
    let s := { gangQueued with
      queue := [{ entryTwo with feed := .gang 0, amount := 200, stamp := 2, eff := 6 }, e] }
    s.inReset = false ∧ (s.queue.map Entry.feed).Nodup ∧ e ∈ s.queue ∧ e.feed = .solo 1 ∧ e.aging.isSome = true := by
  decide +kernel

theorem witness_AgingStepRaisesAndReorders_moved :
    let e : Entry := { entryTwo with feed := .gang 0, amount := 200, stamp := 2, aging := some 5 }
    let s := { gangQueued with queue := [entryTwo, e] }
    (s.queue.map Entry.feed).Nodup ∧ e ∈ s.queue ∧ entryTwo ∈ s.queue ∧ entryTwo.feed ≠ .gang 0 ∧
    entryTwo.eff = e.eff ∧ entryTwo.stamp < e.stamp := by decide +kernel

/-! ### Scans, discharges and ramps -/

theorem witness_ScanMeasuresAndCompares :
    rich.inReset = false ∧ rich.outletState 7 ≠ .mapped .on ∧ rich.outletState 7 = .mapped .off ∧
    rich.outletState 0 = .mapped .on := by decide +kernel

theorem witness_SoloDischargeEndsTheStop :
    rich.inReset = false ∧ rich.feedOf 2 = some (.solo 2) ∧
    (rich.outlet 2).own.state = .stopping .shed .queued ∧ 10 * 119999 < 1200000 ∧
    (rich.outlet 2).discharge.isSome = true := by decide +kernel

/-- G1 stopping, P6 with its discharge still running, P7 as given. -/
def gangStopping (p7 : OutletRec) : State :=
  { gangIn (.stopping .host .off) with
    outlets := tset (tset rich.outlets 5 { outletIn .off with alloc := 100, discharge := some 200 }) 6 p7 }

theorem witness_MembersDischargeOneByOne :
    let s := gangStopping { outletIn .off with alloc := 100, discharge := some 200 }
    let t := gangStopping (outletIn .off)
    s.inReset = false ∧ s.feedOf 5 = some (.gang 0) ∧ (s.gang 0).own.state = .stopping .host .off ∧
    (s.outlet 5).alloc ≠ 0 ∧ (s.outlet 5).discharge.isSome = true ∧
    ¬ (∀ q ∈ s.outletsOf (.gang 0), q ≠ 5 → (s.outlet q).alloc = 0) ∧
    (∀ q ∈ t.outletsOf (.gang 0), q ≠ 5 → (t.outlet q).alloc = 0) ∧ t.feedOf 6 = some (.gang 0) ∧
    (t.outlet 6).alloc = 0 ∧ 10 * 119999 < 1200000 := by decide +kernel

theorem witness_RampExpiryReadsOutputGood :
    let good := fun (p : OutletId) => richWith p fun o => { o with ring := [0], latest := some (0, .up) }
    let solo := richWith 0 fun o => { o with own := { o.own with state := .starting }, ramp := some 20 }
    let lone := (good 5).setOutlet 6 { (good 5).outlet 6 with ramp := none }
    rich.inReset = false ∧ (solo.outlet 0).ramp.isSome = true ∧ solo.feedOf 0 = some (.solo 0) ∧
    (solo.outlet 0).own.state = .starting ∧ (rich.outlet 5).ramp.isSome = true ∧ rich.feedOf 5 = some (.gang 0) ∧
    (rich.gang 0).own.state = .starting ∧ (rich.outlet 5).ring = [] ∧ ((good 5).outlet 5).ring ≠ [] ∧
    ((good 5).outlet 5).latest = some (0, .up) ∧
    (∃ q ∈ (good 5).outletsOf (.gang 0), q ≠ 5 ∧ ((good 5).outlet q).ramp.isSome = true) ∧
    ∀ q ∈ lone.outletsOf (.gang 0), q ≠ 5 → (lone.outlet q).ramp = none := by decide +kernel

/-! ### Fault inputs, timers, presence and lines -/

theorem witness_FaultInputsAct :
    let s := richWith 0 fun o => { o with
      blanking := some 15, width := some 2, overdrawWindow := some 1000, overcurrent := true }
    rich.inReset = false ∧ (rich.outlet 0).overcurrent = false ∧ rich.outletPowered 0 = true ∧
    (s.outlet 0).blanking.isSome = true ∧ s.outletPowered 0 = true ∧ (s.outlet 0).width.isSome = true ∧
    (rich.outlet 0).shortN = false ∧ ((after (.shortNActive 7 true) rich).outlet 7).shortN = true ∧
    (s.outlet 0).overdrawWindow.isSome = true ∧ s.outletState 0 = .mapped .on := by decide +kernel

theorem witness_FeedTimersExpire :
    let on := updFeed (.gang 0) (fun r => { r with state := .on, stability := some 5 }) rich
    let waits := updFeed (.gang 0) (fun r => { r with state := .retryWait, backoff := some 100, count := 1 }) rich
    rich.inReset = false ∧ rich.feedOf 0 = some (.solo 0) ∧ (rich.outlet 0).own.stability.isSome = true ∧
    (rich.outlet 0).own.state = .on ∧ rich.feedOf 4 = some (.solo 4) ∧ (rich.outlet 4).own.backoff.isSome = true ∧
    (rich.outlet 4).own.state = .retryWait ∧ (on.membersOf 0).isSome = true ∧ (on.gang 0).own.stability.isSome = true ∧
    (on.gang 0).own.state = .on ∧ (waits.gang 0).own.backoff.isSome = true ∧
    (waits.gang 0).own.state = .retryWait := by decide +kernel

/-- An outlet with start mode ON_PRESENCE whose debounce timer runs. -/
def sensing (p : OutletId) (pres presence : Bool) : State :=
  richWith p fun o => { o with
    pres := pres, presence := presence, debounce := some 100, profile := { o.profile with startMode := .onPresence } }

theorem witness_PresenceIsDebouncedAndActs :
    rich.inReset = false ∧ true ≠ (rich.outlet 7).pres ∧
    (∀ p, p ≠ 5 → p ≠ 6 → ((sensing p true false).outlet p).debounce.isSome = true ∧
      (sensing p true false).feedOf p = some (.solo p) ∧
      ((sensing p true false).outlet p).profile.startMode = .onPresence ∧
      ((sensing p false true).outlet p).pres = false ∧ ((sensing p false true).outlet p).presence = true) ∧
    ((sensing 7 false false).outlet 7).pres = ((sensing 7 false false).outlet 7).presence ∧
    (sensing 5 true false).feedOf 5 ≠ some (.solo 5) := by decide +kernel

/-- EOFF_N at a level with its filter running. -/
def filtering (level : Level) (active : Bool) : State :=
  { rich with eoffN := { level := level, active := active, filter := some 1 } }

theorem witness_LinesAreFilteredAndRelease :
    rich.inReset = false ∧ (rich.inputLine .eoffN).level ≠ .low ∧ rich.isSource .eoffN = true ∧
    rich.isSource (.aux 0) = false ∧ (filtering .high true).isSource .eoffN = true ∧
    ((filtering .high true).inputLine .eoffN).filter.isSome = true ∧ (filtering .high true).eoff = true ∧
    (setInput .eoffN { level := .high, active := false, filter := none } (filtering .high true)).eoff = false := by
  decide +kernel

theorem witness_LinesAreFilteredAndRelease_hold :
    let s := holdRich.setAux 0
      { fn := .holdIn, input := { level := .high, active := true, filter := some 1 }, out := none }
    s.isSource (.aux 0) = true ∧ (s.inputLine (.aux 0)).filter.isSome = true ∧ s.hold = true ∧
    (setInput (.aux 0) { level := .high, active := false, filter := none } s).hold = false ∧
    (setInput (.aux 0) { level := .high, active := false, filter := none } s).eoff = s.eoff := by decide +kernel

theorem witness_EoffAssertionHoldsEverythingOff :
    (filtering .low false).inReset = false ∧ powerOk (filtering .low false) ∧ slotsOk (filtering .low false) ∧
    ((filtering .low false).inputLine .eoffN).filter.isSome = true ∧
    ((filtering .low false).inputLine .eoffN).level = .low ∧ (filtering .low false).eoff = false :=
  ⟨by decide +kernel, rich_power, rich_slots, by decide +kernel, by decide +kernel, by decide +kernel⟩

/-! ### Invariants: a sound state from which a step answers a next state -/

/-- The part at work with a command waiting. -/
def waiting : State := { rich with pending := [.powerOffAll 7#8] }

theorem waiting_step : ∃ t, step waiting = .next t := ⟨_, rfl⟩

theorem witness_StepsKeepTheBudgetLaw : powerOk waiting ∧ ∃ t, step waiting = .next t := ⟨rich_power, waiting_step⟩

theorem witness_StepsKeepEoffInForce :
    powerOk waiting ∧ emergencyOk waiting ∧ ∃ t, step waiting = .next t := ⟨rich_power, rich_emergency, waiting_step⟩

theorem witness_StepsKeepOrderBudgetAndRanges :
    orderOk waiting ∧ budgetOk waiting ∧ profilesOk waiting ∧ metersOk waiting ∧ ∃ t, step waiting = .next t := by
  refine ⟨rich_order, ?_, ?_, ?_, waiting_step⟩ <;>
    simp only [budgetOk, profilesOk, profileOk, gangProfileOk, metersOk, meterOk] <;> decide +kernel

theorem witness_StepsKeepTheOutputs :
    alertOk waiting ∧ auxOk waiting ∧ resetQuiet waiting ∧ ∃ t, step waiting = .next t := by
  refine ⟨?_, ?_, ?_, waiting_step⟩ <;> simp only [alertOk, auxOk, resetQuiet] <;> decide +kernel

theorem witness_StepsKeepTheLink : linkOk waiting.link ∧ ∃ t, step waiting = .next t := by
  refine ⟨?_, waiting_step⟩
  simp only [linkOk]
  exact ⟨trivial, by decide +kernel⟩

theorem witness_StepsKeepSlotsAndNotices :
    powerOk waiting ∧ slotsOk waiting ∧ noticesOk waiting ∧ ∃ t, step waiting = .next t :=
  ⟨rich_power, rich_slots, rich_notices, waiting_step⟩

theorem witness_StepsKeepRetriesBelowTheThreshold :
    mapsOk waiting ∧ retryOk waiting ∧ ∃ t, step waiting = .next t := ⟨rich_maps, rich_retry, waiting_step⟩

end Sys2Proof.Tests
end

/-! # What every command does: one effect each

`exec` wraps the effect of a command into a request event, an event of the part, or a reset. `EffectsKeep` lists the
effects; a property that every effect keeps is kept by every step. -/

section
namespace Sys2Proof.Machine

/-! ## Requests that report and change nothing -/

theorem reqIdent_state (f : Frame) (s : State) : (reqIdent f s).1 = s := by
  unfold reqIdent
  split <;> rfl

theorem reqStatus_state (f : Frame) (s : State) : (reqStatus f s).1 = s := by
  unfold reqStatus
  split <;> rfl

theorem reqReadOutlet_state (f : Frame) (s : State) : (reqReadOutlet f s).1 = s := by
  unfold reqReadOutlet
  split
  · split <;> rfl
  · rfl

theorem reqReadGang_state (f : Frame) (s : State) : (reqReadGang f s).1 = s := by
  unfold reqReadGang
  split
  · split <;> rfl
  · rfl

theorem reqReadQueue_state (f : Frame) (s : State) : (reqReadQueue f s).1 = s := by
  unfold reqReadQueue
  split
  · split <;> rfl
  · rfl

theorem reqReadMap_state (f : Frame) (s : State) : (reqReadMap f s).1 = s := by
  unfold reqReadMap
  split
  · dsimp only
    split
    · rfl
    · split <;> rfl
  · rfl

/-- A request that leaves the state as it is keeps every property. -/
theorem keeps_of_state {P : State → Prop} {eff : Frame → State → State × List Byte}
    (e : ∀ f s, (eff f s).1 = s) (f : Frame) (s : State) (h : P s) : P (eff f s).1 := by
  rw [e f s]
  exact h

/-- A guarded effect. -/
theorem ite_keeps {P : State → Prop} {c : Prop} [Decidable c] {s t : State} (hs : c → P s) (ht : P t) :
    P (if c then s else t) := by
  split
  · next hc => exact hs hc
  · exact ht

/-! ## The catalogue -/

theorem withKind_keeps {P : State → Prop} {k : Byte} {eff rest : Frame → State → State × List Byte}
    (h1 : ∀ f s, P s → P (eff f s).1) (h2 : ∀ f s, P s → P (rest f s).1) (f : Frame) (s : State) (h : P s) :
    P (withKind k eff rest f s).1 := by
  unfold withKind
  split
  · exact h1 f s h
  · exact h2 f s h

/-- What each effect of the part keeps: the requests of the catalogue, the events, the resets, and the bookkeeping
around them (link, auxiliary outputs, waiting commands). -/
structure EffectsKeep (P : State → Prop) : Prop where
  pending : ∀ s l, P s → P { s with pending := l }
  link : ∀ s h, P s → P (updLink h s)
  aux : ∀ s, P s → P (driveAux s)
  readMeter : ∀ f s, P s → P (reqReadMeter f s).1
  powerOn : ∀ f s, P s → P (reqPowerOn f s).1
  powerOff : ∀ f s, P s → P (reqPowerOff f s).1
  clearFault : ∀ f s, P s → P (reqClearFault f s).1
  setProfile : ∀ f s, P s → P (reqSetProfile f s).1
  setGangProfile : ∀ f s, P s → P (reqSetGangProfile f s).1
  setSupply : ∀ f s, P s → P (reqSetSupply f s).1
  setPolicy : ∀ f s, P s → P (reqSetPolicy f s).1
  setLine : ∀ f s, P s → P (reqSetLine f s).1
  stageMap : ∀ f s, P s → P (reqStageMap f s).1
  stageGang : ∀ f s, P s → P (reqStageGang f s).1
  applyMap : ∀ f s, P s → P (reqApplyMap f s).1
  discardMap : ∀ f s, P s → P (reqDiscardMap f s).1
  fetchNotices : ∀ f s, P s → P (reqFetchNotices f s).1
  resetBy : ∀ s r, P s → P { s with resetBy := r }
  enterReset : ∀ s, P s → P (enterReset s)
  finishReset : ∀ v s, P s → P (finishReset v s)
  outletPins : ∀ p (a b c : OutletRec → Bool) s, P s →
    P (updOutlet p (fun o => { o with pres := a o, shortN := b o, overcurrent := c o }) s)
  supgoodInReset : ∀ k l s, P s → P (supgoodInReset k l s)
  lineInput : ∀ l i s, P s → P (setInput l i s)
  supgoodLost : ∀ k s, P s → P (supgoodLost k s)
  supgoodFound : ∀ k s, P s → P (supgoodFound k s)
  supplyRestored : ∀ k s, P s → P (supplyRestored k s)
  ageEntry : ∀ f s, P s → P (ageEntry f s)
  scan : ∀ p v i s, P s → P (scan p v i s)
  dischargeExpired : ∀ p s, P s → P (dischargeExpired p s)
  memberDischargeExpired : ∀ p s, P s → P (memberDischargeExpired p s)
  rampExpired : ∀ p s, P s → P (rampExpired p s)
  memberRampExpired : ∀ p s, P s → P (memberRampExpired p s)
  blankingExpired : ∀ p s, P s → P (blankingExpired p s)
  stabilityExpired : ∀ f s, P s → P (stabilityExpired f s)
  backoffExpired : ∀ f s, Safety.isFeed s f → P s → P (backoffExpired f s)
  presChanged : ∀ p a s, P s → P (presChanged p a s)
  debounced : ∀ p s, P s → P (debounced p s)
  overcurrentBegins : ∀ p s, P s → P (overcurrentBegins p s)
  overcurrentEnds : ∀ p s, P s → P (overcurrentEnds p s)
  widthReached : ∀ p s, P s → P (widthReached p s)
  pairWindowExpired : ∀ p s, P s → P (pairWindowExpired p s)
  shortChanged : ∀ p a s, P s → P (shortChanged p a s)
  overdrawExpired : ∀ p s, P s → P (overdrawExpired p s)
  lineQualified : ∀ l s, P s → P (lineQualified l s)

namespace EffectsKeep

variable {P : State → Prop} (k : EffectsKeep P)
include k

/-! ## Requests that change the link at most -/

theorem restart (f : Frame) (s : State) (h : P s) : P (reqRestart f s).1 := by
  unfold reqRestart
  split
  · exact k.link s (fun l => { l with restarting := true }) h
  · exact h

/-- The Request Handler (R144, R145). -/
theorem handle (f : Frame) (s : State) (h : P s) : P (handle f s).1 :=
  withKind_keeps (keeps_of_state reqIdent_state)
    (withKind_keeps (keeps_of_state reqStatus_state) <| withKind_keeps (keeps_of_state reqReadOutlet_state) <|
      withKind_keeps (keeps_of_state reqReadGang_state) <|
      withKind_keeps k.readMeter <| withKind_keeps (keeps_of_state reqReadQueue_state) <| withKind_keeps k.powerOn <|
      withKind_keeps k.powerOff <| withKind_keeps k.clearFault <| withKind_keeps k.setProfile <|
      withKind_keeps k.setGangProfile <| withKind_keeps k.setSupply <| withKind_keeps k.setPolicy <|
      withKind_keeps k.setLine <| withKind_keeps k.stageMap <| withKind_keeps k.stageGang <|
      withKind_keeps k.applyMap <| withKind_keeps k.discardMap <| withKind_keeps (keeps_of_state reqReadMap_state) <|
      withKind_keeps k.fetchNotices <| withKind_keeps k.restart fun _ _ h => h) f s h

/-! ## Request events and the Host Link -/

theorem takeRequest {eff : Frame → State → State × List Byte} (he : ∀ f s, P s → P (eff f s).1) (f : Frame) (s : State)
    (h : P s) : P (takeRequest eff f s).1 :=
  k.link (eff f s).1 (fun l => { l with cache := _ }) (he f s h)

theorem asRequest {eff : Frame → State → State × List Byte} (he : ∀ f s, P s → P (eff f s).1) (kind seq : Byte)
    (payload : List Byte) (s : State) (h : P s) : P (asRequest kind eff seq payload s) := by
  unfold Machine.asRequest
  split
  · exact k.aux _ (k.takeRequest he _ s h)
  · exact h

theorem restartRequest (seq : Byte) (payload : List Byte) (s : State) (h : P s) : P (restartRequest seq payload s) := by
  have ht := k.takeRequest k.restart (mkFrame seq Config.kindRestart payload) s h
  unfold Machine.restartRequest
  split
  · dsimp only
    split
    · exact k.aux _ (k.link _ (fun l => { l with tx := some _ }) ht)
    · exact k.aux _ ht
  · exact h

theorem answerFrame (f : Frame) (s : State) (h : P s) : P (answerFrame f s) := by
  have ht := k.link _ (fun l => { l with tx := some (Machine.takeRequest Machine.handle f s).2 })
    (k.takeRequest k.handle f s h)
  unfold Machine.answerFrame
  split
  · split
    · exact k.link s _ h
    · exact ht
  · exact ht

theorem serve (s : State) (h : P s) : P (serve s) := by
  unfold Machine.serve takeHead
  split
  · exact h
  · split
    · exact h
    · split
      · exact k.link s _ h
      · split
        · exact k.answerFrame _ _ (k.link s _ h)
        · exact h

theorem rxEvent (b : Byte) (v : Bool) (s : State) (h : P s) : P (rxEvent b v s) := by
  unfold Machine.rxEvent
  split
  · exact k.serve _ (k.link s _ h)
  · exact h

theorem interByteEvent (s : State) (h : P s) : P (interByteEvent s) := by
  unfold Machine.interByteEvent
  split
  · split
    · exact k.link s _ h
    · exact k.serve _ (k.link s _ h)
  · exact h

/-! ## Events -/

theorem event {act : State → State} (ha : ∀ s, P s → P (act s)) (s : State) (h : P s) : P (event act s) := by
  unfold Machine.event
  split
  · exact h
  · exact k.aux _ (ha s h)

/-- An event that is followed, but not acted on, during a hard reset. -/
theorem eventOr {act quiet : State → State} (hq : ∀ s, P s → P (quiet s)) (ha : ∀ s, P s → P (act s)) (s : State)
    (h : P s) : P (if s.inReset then quiet s else Machine.event act s) := by
  split
  · exact hq s h
  · exact k.event ha s h

theorem resetEnds (c : ResetCause) (v : Level) (s : State) (h : P s) : P (resetEnds c v s) := by
  unfold Machine.resetEnds
  split
  · dsimp only
    split
    · exact k.resetBy s _ h
    · exact k.finishReset v _ (k.resetBy s _ h)
  · exact h

theorem lineChanged (l : LineId) (v : Level) (s : State) (h : P s) : P (lineChanged l v s) := by
  unfold Machine.lineChanged
  dsimp only
  split
  · exact h
  · split <;> exact k.lineInput l _ s h

/-- A property that every effect keeps is kept by every command. -/
theorem exec (c : Instr) (s t : State) (h : P s) (e : exec c s = .next t) : P t := by
  cases c with
  | ident seq d => cases e; exact k.asRequest (keeps_of_state reqIdent_state) _ seq d s h
  | status seq d => cases e; exact k.asRequest (keeps_of_state reqStatus_state) _ seq d s h
  | readOutlet seq d => cases e; exact k.asRequest (keeps_of_state reqReadOutlet_state) _ seq d s h
  | readGang seq d => cases e; exact k.asRequest (keeps_of_state reqReadGang_state) _ seq d s h
  | readMeter seq d => cases e; exact k.asRequest k.readMeter _ seq d s h
  | readQueue seq d => cases e; exact k.asRequest (keeps_of_state reqReadQueue_state) _ seq d s h
  | powerOn seq d => cases e; exact k.asRequest k.powerOn _ seq d s h
  | powerOff seq d => cases e; exact k.asRequest k.powerOff _ seq d s h
  | powerOffAll seq =>
    cases e
    exact k.asRequest (fun _ s h => k.powerOff (mkFrame seq Config.kindPowerOff [0xFF#8]) s h) _ seq _ s h
  | clearFault seq d => cases e; exact k.asRequest k.clearFault _ seq d s h
  | setProfile seq d => cases e; exact k.asRequest k.setProfile _ seq d s h
  | setGangProfile seq d => cases e; exact k.asRequest k.setGangProfile _ seq d s h
  | setSupply seq d => cases e; exact k.asRequest k.setSupply _ seq d s h
  | setPolicy seq d => cases e; exact k.asRequest k.setPolicy _ seq d s h
  | setLine seq d => cases e; exact k.asRequest k.setLine _ seq d s h
  | stageMap seq d => cases e; exact k.asRequest k.stageMap _ seq d s h
  | stageGang seq d => cases e; exact k.asRequest k.stageGang _ seq d s h
  | applyMap seq d => cases e; exact k.asRequest k.applyMap _ seq d s h
  | discardMap seq d => cases e; exact k.asRequest k.discardMap _ seq d s h
  | readMap seq d => cases e; exact k.asRequest (keeps_of_state reqReadMap_state) _ seq d s h
  | fetchNotices seq d => cases e; exact k.asRequest k.fetchNotices _ seq d s h
  | restart seq d => cases e; exact k.restartRequest seq d s h
  | unknownKind seq kind d =>
    cases e
    split
    · exact k.restartRequest seq d s h
    · exact k.asRequest k.handle _ seq d s h
  | rxByte b v => cases e; exact k.event (k.rxEvent b v) s h
  | interByteTimeout => cases e; exact k.event k.interByteEvent s h
  | answerTransmitted =>
    cases e
    split
    · exact h
    · split
      · exact k.finishReset _ s h
      · exact k.aux _ (k.serve _ (k.link s _ h))
  | vddPowerOn => cases e; exact k.enterReset _ (k.resetBy s _ h)
  | resetNLow => cases e; exact k.enterReset _ (k.resetBy s _ h)
  | resetEnd c v => cases e; exact k.resetEnds c v s h
  | supgoodInactive j => cases e; exact k.eventOr (k.supgoodInReset j false) (k.supgoodLost j) s h
  | supgoodActive j => cases e; exact k.eventOr (k.supgoodInReset j true) (k.supgoodFound j) s h
  | restorationTimerExpiry j => cases e; exact k.event (k.supplyRestored j) s h
  | agingStep f => cases e; exact k.event (k.ageEntry f) s h
  | meterScan p v i => cases e; exact k.event (k.scan p v i) s h
  | dischargeTimeout p => cases e; exact k.event (k.dischargeExpired p) s h
  | memberDischargeTimeout p => cases e; exact k.event (k.memberDischargeExpired p) s h
  | rampExpiry p => cases e; exact k.event (k.rampExpired p) s h
  | memberRampExpiry p => cases e; exact k.event (k.memberRampExpired p) s h
  | blankingExpiry p => cases e; exact k.event (k.blankingExpired p) s h
  | stabilityExpiry p => cases e; exact k.event (fun s h => ite_keeps (fun _ => k.stabilityExpired (.solo p) s h) h) s h
  | gangStabilityExpiry g =>
    cases e
    exact k.event (fun s h => ite_keeps (fun _ => k.stabilityExpired (.gang g) s h) h) s h
  | backoffExpiry p =>
    cases e
    exact k.event (fun s h => ite_keeps (fun hf : s.feedOf p = some (.solo p) =>
      k.backoffExpired (.solo p) s hf h) h) s h
  | gangBackoffExpiry g =>
    cases e
    exact k.event (fun s h => ite_keeps (fun hf : (s.membersOf g).isSome =>
      k.backoffExpired (.gang g) s hf h) h) s h
  | presLevelChange p a => cases e; exact k.eventOr (k.outletPins p (fun _ => a) _ _) (k.presChanged p a) s h
  | presenceDebounceExpiry p => cases e; exact k.event (k.debounced p) s h
  | overcurrentBegin p => cases e; exact k.eventOr (k.outletPins p _ _ (fun _ => true)) (k.overcurrentBegins p) s h
  | overcurrentEnd p => cases e; exact k.eventOr (k.outletPins p _ _ (fun _ => false)) (k.overcurrentEnds p) s h
  | qualifiedPulse p => cases e; exact k.event (k.widthReached p) s h
  | pairWindowExpiry p => cases e; exact k.event (k.pairWindowExpired p) s h
  | shortNActive p a => cases e; exact k.eventOr (k.outletPins p _ (fun _ => a) _) (k.shortChanged p a) s h
  | overdrawWindowExpiry p => cases e; exact k.event (k.overdrawExpired p) s h
  | lineLevelChange l v => cases e; exact k.eventOr (fun s h => k.lineInput l _ s h) (k.lineChanged l v) s h
  | lineFilterExpiry l => cases e; exact k.event (k.lineQualified l) s h

/-- A property that every effect keeps is kept by every step. -/
theorem step (s t : State) (h : P s) (e : step s = .next t) : P t := by
  unfold Machine.step at e
  split at e
  · cases e; exact h
  · next c rest _ => exact k.exec c _ t (k.pending s rest h) e

end EffectsKeep

end Sys2Proof.Machine
end


/-! # Order, budget and ranges at every step (O56) -/

section
namespace Sys2Proof.Machine

open Sys2Proof.Safety

/-! ## The order of a queue (R44, R46) -/

/-- The entries are in queue order, with distinct stamps of at most `n`. -/
def queueOrdered (q : List Entry) (n : Nat) : Prop :=
  q.Pairwise (fun a b => entryBefore a b = true) ∧ (q.map Entry.stamp).Nodup ∧ ∀ e ∈ q, e.stamp ≤ n

theorem orderOk_iff (s : State) : orderOk s ↔ queueOrdered s.queue s.entryStamps := Iff.rfl

theorem entryBefore_iff (a b : Entry) :
    entryBefore a b = true ↔ b.eff < a.eff ∨ a.eff = b.eff ∧ a.stamp < b.stamp := by
  simp [entryBefore]

theorem entryBefore_trans {a b c : Entry} (h : entryBefore a b = true) (h' : entryBefore b c = true) :
    entryBefore a c = true := by
  rw [entryBefore_iff] at *
  omega

/-- Of two entries with distinct stamps one comes first. -/
theorem entryBefore_of_not {a b : Entry} (h : entryBefore a b = false) (hne : a.stamp ≠ b.stamp) :
    entryBefore b a = true := by
  have h' : ¬ (b.eff < a.eff ∨ a.eff = b.eff ∧ a.stamp < b.stamp) := by
    rw [← entryBefore_iff, h]
    decide
  rw [entryBefore_iff]
  omega

theorem queueOrdered_nil (n : Nat) : queueOrdered [] n := ⟨List.Pairwise.nil, List.nodup_nil, by simp⟩

theorem queueOrdered.sublist {q r : List Entry} {n : Nat} (h : queueOrdered q n) (hr : r.Sublist q) :
    queueOrdered r n :=
  ⟨h.1.sublist hr, h.2.1.sublist (hr.map _), fun e he => h.2.2 e (hr.subset he)⟩

theorem queueOrdered.mono {q : List Entry} {n m : Nat} (h : queueOrdered q n) (hm : n ≤ m) : queueOrdered q m :=
  ⟨h.1, h.2.1, fun e he => (h.2.2 e he).trans hm⟩

/-- A change that keeps effective priority and stamp keeps the order. -/
theorem queueOrdered.map {q : List Entry} {n : Nat} (h : queueOrdered q n) {g : Entry → Entry}
    (he : ∀ e, (g e).eff = e.eff) (hs : ∀ e, (g e).stamp = e.stamp) : queueOrdered (q.map g) n := by
  obtain ⟨hp, hn, hle⟩ := h
  have hst : (q.map g).map Entry.stamp = q.map Entry.stamp := by simp [hs]
  refine ⟨List.pairwise_map.2 (hp.imp fun {a b} hab => ?_), hst ▸ hn, ?_⟩
  · rw [entryBefore_iff] at *
    rwa [he, he, hs, hs]
  · intro e hm
    obtain ⟨x, hx, rfl⟩ := List.mem_map.1 hm
    rw [hs]
    exact hle x hx

theorem insertBy_perm {α : Type} (before : α → α → Bool) (x : α) (l : List α) :
    (insertBy before x l).Perm (x :: l) := by
  obtain ⟨front, back, h1, h2, -, -⟩ := insertBy_split before x l
  rw [h2, h1]
  exact List.perm_middle

/-- An entry with a stamp of its own takes its place in the order (R46). -/
theorem queueOrdered.insert {q : List Entry} {n : Nat} (h : queueOrdered q n) {e : Entry}
    (hnew : ∀ x ∈ q, x.stamp ≠ e.stamp) (hle : e.stamp ≤ n) : queueOrdered (insertBy entryBefore e q) n := by
  obtain ⟨front, back, rfl, hins, hfront, hback⟩ := insertBy_split entryBefore e q
  obtain ⟨hp, hn, hb⟩ := h
  rw [hins]
  have hafter : ∀ y ∈ back, entryBefore e y = true := by
    cases back with
    | nil => simp
    | cons y l =>
      have hy : entryBefore e y = true := hback y (by simp)
      intro z hz
      rcases List.mem_cons.1 hz with rfl | hz
      · exact hy
      · exact entryBefore_trans hy (List.rel_of_pairwise_cons (List.pairwise_append.1 hp).2.1 hz)
  refine ⟨?_, ?_, ?_⟩
  · obtain ⟨hf, hbk, hfb⟩ := List.pairwise_append.1 hp
    refine List.pairwise_append.2 ⟨hf, List.pairwise_cons.2 ⟨hafter, hbk⟩, fun a ha b hb => ?_⟩
    rcases List.mem_cons.1 hb with rfl | hb
    · exact entryBefore_of_not (hfront a ha) (hnew a (by simp [ha])).symm
    · exact hfb a ha b hb
  · rw [← hins, ((insertBy_perm entryBefore e _).map Entry.stamp).nodup_iff, List.map_cons, List.nodup_cons]
    refine ⟨fun hm => ?_, hn⟩
    obtain ⟨x, hx, hxe⟩ := List.mem_map.1 hm
    exact hnew x hx hxe
  · intro x hx
    rcases List.mem_append.1 hx with hx | hx
    · exact hb x (by simp [hx])
    · rcases List.mem_cons.1 hx with rfl | hx
      · exact hle
      · exact hb x (by simp [hx])

/-! ## Tame changes -/

/-- `t` keeps what `s` has of queue order, budget, profile ranges and meter ranges. -/
structure Tame (s t : State) : Prop where
  order : orderOk s → orderOk t
  budget : budgetOk s → budgetOk t
  profiles : profilesOk s → profilesOk t
  meters : metersOk s → metersOk t

theorem Tame.refl (s : State) : Tame s s := ⟨id, id, id, id⟩

theorem Tame.trans {s t u : State} (a : Tame s t) (b : Tame t u) : Tame s u :=
  ⟨b.order ∘ a.order, b.budget ∘ a.budget, b.profiles ∘ a.profiles, b.meters ∘ a.meters⟩

theorem Tame.foldl {α : Type} {g : State → α → State} (hg : ∀ s x, Tame s (g s x)) (l : List α) (s : State) :
    Tame s (l.foldl g s) := by
  induction l generalizing s with
  | nil => exact Tame.refl s
  | cons x l ih => exact (hg s x).trans (ih (g s x))

/-- A change outside outlets, gangs, queue and budget. -/
theorem tame_of_eq {s t : State} (ho : t.outlets = s.outlets) (hg : t.gangs = s.gangs) (hq : t.queue = s.queue)
    (he : t.entryStamps = s.entryStamps) (hs : t.supplies = s.supplies) (hr : t.reserve = s.reserve)
    (hb : t.budget = s.budget) : Tame s t where
  order h := by rw [orderOk_iff, hq, he]; exact h
  budget h := by unfold budgetOk State.supply at *; rw [hs, hr, hb]; exact h
  profiles h := by
    refine ⟨fun p => ?_, fun g => ?_⟩
    · rw [outlet_of_outlets ho]; exact h.1 p
    · rw [gang_of_gangs hg]; exact h.2 g
  meters h p := by rw [outlet_of_outlets ho]; exact h p

/-- A change of the queue alone that keeps its order. -/
theorem tame_queue {s t : State} (ho : t.outlets = s.outlets) (hg : t.gangs = s.gangs)
    (hq : queueOrdered s.queue s.entryStamps → queueOrdered t.queue t.entryStamps) (hs : t.supplies = s.supplies)
    (hr : t.reserve = s.reserve) (hb : t.budget = s.budget) : Tame s t where
  order := hq
  budget h := by unfold budgetOk State.supply at *; rw [hs, hr, hb]; exact h
  profiles h := by
    refine ⟨fun p => ?_, fun g => ?_⟩
    · rw [outlet_of_outlets ho]; exact h.1 p
    · rw [gang_of_gangs hg]; exact h.2 g
  meters h p := by rw [outlet_of_outlets ho]; exact h p

theorem tame_setOutlet {p : OutletId} {o : OutletRec} {s : State}
    (hp : profileOk (s.outlet p).profile → profileOk o.profile) (hm : meterOk (s.outlet p) → meterOk o) :
    Tame s (s.setOutlet p o) where
  order := id
  budget := id
  profiles h := by
    refine ⟨fun q => ?_, h.2⟩
    rw [setOutlet_outlet]
    split
    · exact hp (h.1 p)
    · exact h.1 q
  meters h q := by
    rw [setOutlet_outlet]
    split
    · exact hm (h p)
    · exact h q

theorem tame_updOutlet {p : OutletId} {f : OutletRec → OutletRec} (s : State)
    (hp : ∀ o, profileOk o.profile → profileOk (f o).profile) (hm : ∀ o, meterOk o → meterOk (f o)) :
    Tame s (updOutlet p f s) := tame_setOutlet (hp _) (hm _)

theorem tame_updGang {g : GangId} {f : GangRec → GangRec} (s : State)
    (hp : ∀ r, gangProfileOk r.profile → gangProfileOk (f r).profile) : Tame s (updGang g f s) where
  order := id
  budget := id
  profiles h := by
    refine ⟨h.1, fun k => ?_⟩
    rw [updGang_gang]
    split
    · exact hp _ (h.2 g)
    · exact h.2 k
  meters := id

theorem tame_updFeed (f : Feed) (h : FeedRec → FeedRec) (s : State) : Tame s (updFeed f h s) := by
  cases f with
  | solo p => exact tame_updOutlet (f := fun o => { o with own := h o.own }) s (fun _ h => h) (fun _ h => h)
  | gang g => exact tame_updGang (f := fun r => { r with own := h r.own }) s (fun _ h => h)

theorem tame_setState (f : Feed) (st : FeedState) (s : State) : Tame s (setState f st s) := tame_updFeed f _ s

theorem tame_raise (subj : Subject) (fl : NoticeFlag) (s : State) : Tame s (raise subj fl s) :=
  tame_of_eq rfl rfl rfl rfl rfl rfl rfl

theorem tame_setSlot (n : SlotId) (x : Slot) (s : State) : Tame s (s.setSlot n x) :=
  tame_of_eq rfl rfl rfl rfl rfl rfl rfl

theorem tame_bindSlot (n : SlotId) (op : SlotOp) (f : Feed) (s : State) : Tame s (bindSlot n op f s) :=
  (tame_setSlot n _ s).trans (tame_updFeed f _ _)

theorem tame_completeOp (k : PowerKind) (o : Completion) (f : Feed) (s : State) : Tame s (completeOp k o f s) := by
  unfold completeOp
  split
  · exact Tame.refl s
  · split
    · split
      · exact ((tame_setSlot _ _ s).trans (tame_updFeed f _ _)).trans (tame_raise _ _ _)
      · exact Tame.refl s
    · exact Tame.refl s

/-! ## The queue -/

theorem dropEntry_sublist (f : Feed) (q : List Entry) : (dropEntry f q).Sublist q := List.filter_sublist

theorem tame_makeEntry (f : Feed) (o : Origin) (s : State) : Tame s (makeEntry f o s) := by
  refine tame_queue rfl rfl (fun h => ?_) rfl rfl rfl
  refine (h.mono (Nat.le_succ _)).insert (fun x hx => ?_) le_rfl
  have hle := h.2.2 x hx
  show x.stamp ≠ s.entryStamps + 1
  omega

theorem tame_enterQueued (f : Feed) (o : Origin) (s : State) : Tame s (enterQueued f o s) :=
  (tame_updFeed f _ s).trans (tame_makeEntry f o _)

/-- A change of a feed's entry that keeps its stamp (R46). -/
theorem tame_updEntry (f : Feed) {h : Entry → Entry} (hs : ∀ e, (h e).stamp = e.stamp) (s : State) :
    Tame s (updEntry f h s) := by
  unfold updEntry
  split
  · next e he =>
    refine tame_queue rfl rfl (fun hq => ?_) rfl rfl rfl
    have hmem : e ∈ s.queue := List.mem_of_find?_eq_some he
    have hfeed : e.feed = f := by simpa using List.find?_some he
    refine (hq.sublist (dropEntry_sublist f s.queue)).insert (fun x hx hxe => ?_) ?_
    · obtain ⟨hxq, hxf⟩ := List.mem_filter.1 hx
      rw [hs] at hxe
      have : x = e := List.inj_on_of_nodup_map hq.2.1 hxq hmem hxe
      simp [this, hfeed] at hxf
    · rw [hs]
      exact hq.2.2 e hmem
  · exact Tame.refl s

theorem tame_withdraw (f : Feed) (s : State) : Tame s (withdraw f s) := by
  refine Tame.trans ?_ (tame_setState f .off _)
  exact tame_queue rfl rfl (fun h => h.sublist (dropEntry_sublist f s.queue)) rfl rfl rfl

theorem tame_dropClaim (s : State) : Tame s (dropClaim s) := tame_of_eq rfl rfl rfl rfl rfl rfl rfl

/-! ## Stops, faults and grants -/

theorem tame_stopFeed (f : Feed) (c : StopCause) (d : Dest) (s : State) : Tame s (stopFeed f c d s) := by
  have hs : ∀ (s : State) (p : OutletId), Tame s (stopOutlet s p) := fun s p => by
    refine Tame.trans (tame_setOutlet (p := p) ?_ ?_) (tame_of_eq rfl rfl rfl rfl rfl rfl rfl) <;> exact id
  unfold stopFeed stopRecord
  cases f with
  | solo p => exact (Tame.foldl hs _ s).trans (tame_updFeed _ _ _)
  | gang g =>
    refine (Tame.foldl hs _ s).trans (tame_updGang _ ?_)
    exact fun _ h => h

theorem tame_recordFault (f : Feed) (p : OutletId) (c : FaultCause) (s : State) : Tame s (recordFault f p c s) := by
  have h := (tame_updFeed f (fun r => { r with count := countUp r.count }) s).trans
    (tame_updOutlet (p := p) (f := fun o => { o with lastCause := some c }) _ (fun _ h => h) (fun _ h => h))
  cases f with
  | solo q => exact h
  | gang g => exact h.trans (tame_updGang (f := fun r => { r with lastMember := some p }) _ (fun _ h => h))

theorem tame_raiseFault (f : Feed) (p : OutletId) (s : State) : Tame s (raiseFault f p s) := by
  cases f with
  | solo q => exact tame_raise _ _ s
  | gang g => exact (tame_raise _ _ s).trans (tame_raise _ _ _)

theorem tame_faultFeed (f : Feed) (p : OutletId) (c : FaultCause) (s : State) : Tame s (faultFeed f p c s) := by
  have h := tame_recordFault f p c s
  unfold faultFeed
  dsimp only
  split
  · exact ((h.trans (tame_stopFeed _ _ _ _)).trans (tame_raiseFault _ _ _)).trans (tame_raise _ _ _)
  · exact (((h.trans (tame_completeOp _ _ _ _)).trans (tame_stopFeed _ _ _ _)).trans (tame_raiseFault _ _ _)).trans
      (tame_raise _ _ _)

theorem tame_takeFault (p : OutletId) (c : FaultCause) (s : State) : Tame s (takeFault p c s) := by
  unfold takeFault
  split
  · exact Tame.refl s
  · split
    · exact tame_faultFeed _ _ _ _
    · exact Tame.refl s

theorem tame_qualify (p : OutletId) (s : State) : Tame s (qualify p s) := by
  have h := tame_updOutlet (p := p) (f := fun o => { o with width := none }) s (fun _ h => h) (fun _ h => h)
  unfold qualify
  dsimp only
  split
  · exact h.trans (tame_takeFault p _ _)
  · split
    · exact h.trans (tame_updOutlet _ (fun _ h => h) (fun _ h => h))
    · refine (h.trans (tame_updOutlet (p := p) (f := fun o => { o with pairWindow := none }) _ ?_ ?_)).trans
        (tame_takeFault p _ _) <;> exact fun _ h => h

theorem tame_examine (p : OutletId) (s : State) : Tame s (examine p s) := by
  unfold examine
  split
  · exact tame_qualify p s
  · exact tame_updOutlet _ (fun _ h => h) (fun _ h => h)

theorem tame_afterGrant (ps : List OutletId) (s : State) : Tame s (afterGrant ps s) := by
  unfold afterGrant
  split
  · split
    · exact tame_takeFault _ _ s
    · exact Tame.refl s
  · refine Tame.foldl (fun s p => ?_) ps s
    unfold examineAtEntry
    split
    · exact tame_examine p s
    · exact Tame.refl s

/-- A grant empties the ring and nothing else of the meter (R11, R87). -/
theorem meterOk_emptyRing {o : OutletRec} (h : meterOk o) {o' : OutletRec} (hr : o'.ring = []) (hp : o'.peak = o.peak)
    (hl : o'.latest = o.latest) : meterOk o' := by
  obtain ⟨_, _, hpeak, hlatest⟩ := h
  refine ⟨by simp [hr], by simp [hr], hp ▸ hpeak, ?_⟩
  rw [hl, hp]
  exact hlatest

theorem tame_grantFeed (f : Feed) (s : State) : Tame s (grantFeed f s) := by
  have hg : ∀ (n : Nat) (s : State) (p : OutletId), Tame s (grantOutlet n s p) := fun n s p => by
    refine Tame.trans (tame_setOutlet (p := p) ?_ ?_) (tame_of_eq rfl rfl rfl rfl rfl rfl rfl)
    · exact id
    · exact fun h => meterOk_emptyRing h rfl rfl rfl
  refine Tame.trans (t := { s with grantStamps := s.grantStamps + 1 }) (tame_of_eq rfl rfl rfl rfl rfl rfl rfl) ?_
  exact (((Tame.foldl (hg _) (s.outletsOf f) _).trans (tame_updFeed f _ _)).trans (tame_raise _ _ _)).trans
    (tame_afterGrant _ _)

theorem tame_stopVictim (c : StopCause) (f : Feed) (s : State) : Tame s (stopVictim c f s) := by
  have h := ((tame_stopFeed f c (destOf (s.shedPolicyOf f)) s).trans (tame_raise (subjectOf f) .shed _)).trans
    (tame_raise (subjectOf f) .state _)
  unfold stopVictim
  dsimp only
  split
  · exact h.trans (tame_completeOp _ _ _ _)
  · exact h

theorem tame_returnAlloc (p : OutletId) (s : State) : Tame s (returnAlloc p s) := by
  refine Tame.trans (tame_setOutlet (p := p) ?_ ?_) (tame_of_eq rfl rfl rfl rfl rfl rfl rfl) <;> exact id

theorem tame_enterDest (f : Feed) (d : Dest) (s : State) : Tame s (enterDest f d s) := by
  unfold enterDest
  cases d with
  | off => exact tame_setState f .off s
  | queued => exact tame_enterQueued _ _ _
  | retryWait => exact tame_updFeed f _ s
  | latched => exact tame_setState f .latched s

/-! ## The pass -/

theorem tame_grantEntry (e : Entry) (s : State) : Tame s (grantEntry e s) := by
  refine Tame.trans ?_ (tame_grantFeed e.feed _)
  exact tame_queue rfl rfl (fun h => h.sublist (dropEntry_sublist e.feed s.queue)) rfl rfl rfl

theorem tame_claimantStage (s : State) : Tame s (claimantStage s) := by
  unfold claimantStage
  split
  · exact Tame.refl s
  · split
    · exact Tame.refl s
    · split
      · exact tame_grantEntry _ s
      · exact Tame.refl s

theorem tame_walk (m : AdmissionMode) (es : List Entry) (b : Option Entry) (s : State) :
    Tame s (walk m es b s).1 := by
  induction es generalizing b s with
  | nil => exact Tame.refl s
  | cons e es ih =>
    rw [walk_cons]
    split
    · exact ih b s
    · split
      · exact (tame_grantEntry e s).trans (ih b _)
      · split
        · exact Tame.refl s
        · exact ih _ s

theorem tame_preempt (e : Entry) (s : State) : Tame s (preempt e s) := by
  unfold preempt
  split
  · split
    · exact Tame.refl s
    · next vs _ =>
      exact (Tame.foldl (fun t r => tame_stopVictim .preempt r.feed t) vs s).trans
        (tame_of_eq rfl rfl rfl rfl rfl rfl rfl)
  · exact Tame.refl s

theorem tame_pass (s : State) : Tame s (pass s) := by
  have h := (tame_claimantStage s).trans (tame_walk (claimantStage s).policy.mode (claimantStage s).queue none _)
  unfold pass
  split
  · exact Tame.refl s
  · dsimp only
    split
    · exact h
    · exact h.trans (tame_preempt _ _)

theorem tame_passIf (b : Bool) (s : State) : Tame s (passIf b s) := by
  cases b
  · exact Tame.refl s
  · exact tame_pass s

/-! ## The budget -/

theorem budgetOk_iff (s : State) : budgetOk s ↔ s.budget = s.budgetNow := Iff.rfl

theorem tame_shedAll (s : State) : Tame s (shedAll s).1 := by
  have key : ∀ (l : List Running) (t : State × Nat), Tame t.1 (l.foldl shedStep t).1 := by
    intro l
    induction l with
    | nil => exact fun t => Tame.refl t.1
    | cons r l ih =>
      intro t
      refine Tame.trans ?_ (ih (shedStep t r))
      unfold shedStep
      split
      · exact Tame.refl t.1
      · exact tame_stopVictim .shed r.feed t.1
  exact key s.victims (s, 0)

/-- The budget is rewritten and the unfit flags are evaluated (R38, R39, R52), whatever happens to the claim. -/
theorem order_refit {s t : State} (hq : t.queue = s.queue) (he : t.entryStamps = s.entryStamps) (h : orderOk s) :
    orderOk (refit t) := by
  rw [orderOk_iff] at *
  show queueOrdered (t.queue.map _) t.entryStamps
  rw [hq, he]
  exact h.map (fun _ => rfl) (fun _ => rfl)

/-- A recomputation gives the budget its value (R30) and is tame otherwise. -/
theorem budgetOk_recompute (s : State) : budgetOk (recompute s).1 := by
  have h := fixed_recompute s
  rw [budgetOk_iff, h.budget]
  unfold State.budgetNow
  rw [h.supply, h.supply, h.reserve]
  rfl

theorem tame_recompute (s : State) : Tame s (recompute s).1 := by
  have hrefit : ∀ (b : Nat) (c : Option Claim), orderOk s → orderOk (refit { s with budget := b, claim := c }) :=
    fun b c => order_refit rfl rfl
  suffices h : (orderOk s → orderOk (recompute s).1) ∧ (profilesOk s → profilesOk (recompute s).1) ∧
      (metersOk s → metersOk (recompute s).1) from
    ⟨h.1, fun _ => budgetOk_recompute s, h.2.1, h.2.2⟩
  unfold recompute
  dsimp only
  split
  · have h := ((tame_shedAll (refit { s with budget := s.budgetNow, claim := none })).trans
      (tame_raise .part .budget _)).trans (tame_passIf s.claim.isSome _)
    exact ⟨fun ho => h.order (hrefit _ none ho), h.profiles, h.meters⟩
  · split
    · have h := (tame_raise .part .budget (refit { s with budget := s.budgetNow })).trans (tame_pass _)
      exact ⟨fun ho => h.order (hrefit _ s.claim ho), h.profiles, h.meters⟩
    · exact ⟨id, id, id⟩

/-- A change of supplies or reserve with the recomputation that ends it (R27, R28, R37). -/
theorem tame_recompute_of {s t : State} (ho : t.outlets = s.outlets) (hg : t.gangs = s.gangs)
    (hq : t.queue = s.queue) (he : t.entryStamps = s.entryStamps) : Tame s (recompute t).1 := by
  have h := tame_recompute t
  refine ⟨fun ho => h.order ?_, fun _ => budgetOk_recompute t, fun hp => h.profiles ?_, fun hm => h.meters ?_⟩
  · rw [orderOk_iff, hq, he]
    exact ho
  · refine ⟨fun p => ?_, fun g => ?_⟩
    · rw [outlet_of_outlets ho]; exact hp.1 p
    · rw [gang_of_gangs hg]; exact hp.2 g
  · intro p
    rw [outlet_of_outlets ho]
    exact hm p

end Sys2Proof.Machine
end


/-! # The requests and events at every step (O56) -/

section
namespace Sys2Proof.Machine

open Sys2Proof.Safety

/-! ## Power requests -/

theorem tame_leaveRetry (f : Feed) (s : State) : Tame s (leaveRetry f s) := tame_updFeed f _ s

theorem tame_redirect (f : Feed) (c : StopCause) (d : Dest) (s : State) : Tame s (redirect f c d s) :=
  tame_setState f _ s

/-- A POWER_ON binds a slot and takes effect, or changes nothing (R150, R151). -/
theorem powerOnFeed_state (fr : Frame) (b : Byte) (f : Feed) (s : State) :
    (powerOnFeed fr b f s).1 = s ∨ ∃ n, (powerOnFeed fr b f s).1 =
      powerOnEffect f (bindSlot n { seq := fr.seq, kind := .powerOn, target := b } f s) := by
  unfold powerOnFeed
  iterate 6 (split; · exact .inl rfl)
  split
  · exact .inl rfl
  · next n _ => exact .inr ⟨n, rfl⟩

theorem tame_powerOnEffect (f : Feed) (s : State) : Tame s (powerOnEffect f s) := by
  unfold powerOnEffect
  split
  · exact ((tame_enterQueued _ _ s).trans (tame_raise _ _ _)).trans (tame_pass _)
  · exact Tame.refl s

theorem tame_powerOnFeed (fr : Frame) (b : Byte) (f : Feed) (s : State) : Tame s (powerOnFeed fr b f s).1 := by
  rcases powerOnFeed_state fr b f s with e | ⟨n, e⟩
  · rw [e]
    exact Tame.refl s
  · rw [e]
    exact (tame_bindSlot n _ f s).trans (tame_powerOnEffect f _)

theorem tame_reqPowerOn (fr : Frame) (s : State) : Tame s (reqPowerOn fr s).1 := by
  unfold reqPowerOn
  split
  · split
    · exact Tame.refl s
    · exact tame_powerOnFeed _ _ _ s
  · exact Tame.refl s

/-- A running feed is turned off by the host, its pending POWER_ON cancelled first (R152). -/
theorem tame_hostStop (f : Feed) (n : SlotId) (op : SlotOp) (s : State) :
    Tame s (bindSlot n op f (raise (subjectOf f) .state
      (stopFeed f .host .off (completeOp .powerOn .cancelled f s)))) :=
  (((tame_completeOp _ _ _ s).trans (tame_stopFeed _ _ _ _)).trans (tame_raise _ _ _)).trans (tame_bindSlot _ _ _ _)

/-- A queued feed is withdrawn, or a retry given up, with its notice and its completion. -/
theorem tame_withdrawTold (f : Feed) (o : Completion) (s : State) :
    Tame s (completeOp .powerOn o f (raise (subjectOf f) .state (withdraw f s))) :=
  ((tame_withdraw f s).trans (tame_raise _ _ _)).trans (tame_completeOp _ _ _ _)

theorem tame_leaveTold (f : Feed) (o : Completion) (s : State) :
    Tame s (completeOp .powerOn o f (raise (subjectOf f) .state (leaveRetry f s))) :=
  ((tame_leaveRetry f s).trans (tame_raise _ _ _)).trans (tame_completeOp _ _ _ _)

/-- A feed is stopped or redirected, with its notice and its completion. -/
theorem tame_stopTold (f : Feed) (c : StopCause) (o : Completion) (s : State) :
    Tame s (completeOp .powerOn o f (raise (subjectOf f) .state (stopFeed f c .off s))) :=
  ((tame_stopFeed f c .off s).trans (tame_raise _ _ _)).trans (tame_completeOp _ _ _ _)

theorem tame_redirectTold (f : Feed) (c : StopCause) (d : Dest) (o : Completion) (s : State) :
    Tame s (completeOp .powerOn o f (redirect f c d s)) :=
  (tame_redirect f c d s).trans (tame_completeOp _ _ _ _)

theorem tame_powerOffFeed (fr : Frame) (b : Byte) (f : Feed) (s : State) : Tame s (powerOffFeed fr b f s).1 := by
  unfold powerOffFeed
  dsimp only
  split
  · exact Tame.refl s
  · exact Tame.refl s
  · exact (tame_withdrawTold f .cancelled s).trans (tame_pass _)
  · exact tame_leaveTold f .cancelled s
  · split
    · exact Tame.refl s
    · exact tame_hostStop f _ _ s
  · split
    · exact Tame.refl s
    · exact tame_hostStop f _ _ s
  · split
    · exact Tame.refl s
    · split
      · exact Tame.refl s
      · exact (tame_redirectTold f _ _ .cancelled s).trans (tame_bindSlot _ _ _ _)

theorem tame_offOne (t : State × Nat) (f : Feed) : Tame t.1 (offOne t f).1 := by
  unfold offOne
  dsimp only
  split
  · exact Tame.refl t.1
  · exact Tame.refl t.1
  · exact tame_withdrawTold f .cancelled t.1
  · exact tame_leaveTold f .cancelled t.1
  · exact tame_stopTold f .host .cancelled t.1
  · exact tame_stopTold f .host .cancelled t.1
  · exact tame_redirectTold f _ _ .cancelled t.1
  · exact tame_redirectTold f _ _ .cancelled t.1
  · exact Tame.refl t.1
  · exact Tame.refl t.1

theorem tame_powerOffEvery (s : State) : Tame s (powerOffEvery s).1 := by
  have key : ∀ (l : List Feed) (t : State × Nat), Tame t.1 (l.foldl offOne t).1 := by
    intro l
    induction l with
    | nil => exact fun t => Tame.refl t.1
    | cons f l ih => exact fun t => (tame_offOne t f).trans (ih _)
  exact (key s.feeds (s, 0)).trans (tame_passIf _ _)

theorem tame_reqPowerOff (fr : Frame) (s : State) : Tame s (reqPowerOff fr s).1 := by
  unfold reqPowerOff
  split
  · split
    · exact tame_powerOffEvery s
    · split
      · exact Tame.refl s
      · exact tame_powerOffFeed _ _ _ s
  · exact Tame.refl s

theorem tame_clearFeed (f : Feed) (s : State) : Tame s (clearFeed f s) := by
  unfold clearFeed
  split
  · exact (tame_updFeed f _ s).trans (tame_raise _ _ _)
  · exact tame_updFeed f _ s

theorem tame_reqClearFault (fr : Frame) (s : State) : Tame s (reqClearFault fr s).1 := by
  unfold reqClearFault
  split
  · split
    · exact Tame.refl s
    · exact tame_clearFeed _ s
  · exact Tame.refl s

/-! ## Profile writes (R3, R120, R155 to R157) -/

/-- A value in its range keeps the profile in its ranges (R3). -/
theorem profileOk_writeField {f : ProfileField} {v : Nat} {r : Profile} (hv : fieldInRange f v = true)
    (h : profileOk r) : profileOk (writeField f v r) := by
  cases f <;> simp [fieldInRange, inRange, profileOk, writeField] at * <;> omega

theorem gangProfileOk_writeField {f : GangField} {v : Nat} {r : GangProfile} (hv : gangFieldInRange f v = true)
    (h : gangProfileOk r) : gangProfileOk (writeGangField f v r) := by
  cases f <;> simp [gangFieldInRange, inRange, gangProfileOk, writeGangField] at * <;> omega

/-- What the first round accepts lies in range (R155). -/
theorem checkPairs_inRange {l : List (Byte × Nat)} {ws : List (Byte × ProfileField × Nat)}
    (h : checkPairs l = .ok ws) : ∀ x ∈ ws, fieldInRange x.2.1 x.2.2 = true := by
  induction l generalizing ws with
  | nil => cases h; simp
  | cons x l ih =>
    unfold checkPairs at h
    split at h
    · cases h
    · split at h
      · next hf =>
        split at h
        · next hl =>
          cases h
          simpa [hf] using ih hl
        · cases h
      · cases h

theorem checkGangPairs_inRange {l : List (Byte × Nat)} {ws : List (Byte × GangField × Nat)}
    (h : checkGangPairs l = .ok ws) : ∀ x ∈ ws, gangFieldInRange x.2.1 x.2.2 = true := by
  induction l generalizing ws with
  | nil => cases h; simp
  | cons x l ih =>
    unfold checkGangPairs at h
    split at h
    · cases h
    · split at h
      · next hf =>
        split at h
        · next hl =>
          cases h
          simpa [hf] using ih hl
        · cases h
      · cases h

theorem tame_amountWritten (f : Feed) (s : State) : Tame s (amountWritten f s).1 := by
  have h := tame_updEntry f (h := fun e =>
    { e with amount := s.requestAmount f, unfit := decide (s.budget < s.requestAmount f) }) (fun _ => rfl) s
  unfold amountWritten
  dsimp only
  split
  · split
    · exact h.trans (tame_dropClaim _)
    · exact h.trans (tame_of_eq rfl rfl rfl rfl rfl rfl rfl)
  · exact h

theorem tame_priorityWritten (f : Feed) (v : Nat) (s : State) : Tame s (priorityWritten f v s).1 := by
  unfold priorityWritten
  split
  · exact tame_updEntry f (h := fun e => { e with base := v, eff := v, aging := s.agingFor v }) (fun _ => rfl) s
  · exact Tame.refl s

theorem tame_writePair {p : OutletId} {f : ProfileField} {v : Nat} (hv : fieldInRange f v = true) (s : State) :
    Tame s (writePair p f v s).1 := by
  have h : Tame s (updOutlet p (fun o => { o with profile := writeField f v o.profile }) s) :=
    tame_updOutlet s (fun _ => profileOk_writeField hv) (fun _ h => h)
  have hoff : ∀ g : OutletRec → OutletRec, (∀ o, (g o).profile = o.profile) → (∀ o, meterOk o → meterOk (g o)) →
      ∀ t, Tame t (updOutlet p g t) := fun g hp hm t => tame_updOutlet t (fun o h => (hp o).symm ▸ h) hm
  unfold writePair
  dsimp only
  split
  · split
    · split
      · exact h.trans (tame_amountWritten _ _)
      · exact h
    · exact h
  · split
    · exact h.trans (tame_priorityWritten _ _ _)
    · exact h
  · exact h.trans (hoff (fun o => { o with pairWindow := none }) (fun _ => rfl) (fun _ h => h) _)
  · split
    · exact h
    · exact h.trans (hoff (fun o => { o with overdrawWindow := none }) (fun _ => rfl) (fun _ h => h) _)
  · exact h.trans (hoff (fun o => { o with overdrawWindow := o.overdrawWindow.map (fun _ => v) }) (fun _ => rfl)
      (fun _ h => h) _)
  · exact h

theorem tame_writeGangPair {g : GangId} {f : GangField} {v : Nat} (hv : gangFieldInRange f v = true) (s : State) :
    Tame s (writeGangPair g f v s).1 := by
  have h : Tame s (updGang g (fun r => { r with profile := writeGangField f v r.profile }) s) :=
    tame_updGang s (fun _ => gangProfileOk_writeField hv)
  unfold writeGangPair
  dsimp only
  split
  · split
    · exact h.trans (tame_priorityWritten _ _ _)
    · exact h
  · exact h

/-- A fold of writes is tame if each write is. -/
theorem tame_foldWrites {α : Type} {w : α → State → State × Bool} (l : List α)
    (hw : ∀ x ∈ l, ∀ s, Tame s (w x s).1) (t : State × Bool) :
    Tame t.1 (l.foldl (fun t x => ((w x t.1).1, t.2 || (w x t.1).2)) t).1 := by
  induction l generalizing t with
  | nil => exact Tame.refl t.1
  | cons x l ih =>
    rw [List.foldl_cons]
    exact (hw x (by simp) t.1).trans (ih (fun y hy => hw y (by simp [hy])) ((w x t.1).1, t.2 || (w x t.1).2))

theorem tame_setProfileOf (p : OutletId) (l : List (Byte × Nat)) (s : State) : Tame s (setProfileOf p l s).1 := by
  unfold setProfileOf
  split
  · exact Tame.refl s
  · next ws hws =>
    split
    · exact Tame.refl s
    · refine (tame_foldWrites (w := fun x : ProfileField × Nat => writePair p x.1 x.2) _ (fun x hx => ?_)
        (s, false)).trans (tame_passIf _ _)
      obtain ⟨y, hy, rfl⟩ := List.mem_map.1 hx
      exact tame_writePair (checkPairs_inRange hws y hy)

theorem tame_setGangProfileOf (g : GangId) (l : List (Byte × Nat)) (s : State) :
    Tame s (setGangProfileOf g l s).1 := by
  unfold setGangProfileOf
  split
  · exact Tame.refl s
  · next ws hws =>
    split
    · exact Tame.refl s
    · refine (tame_foldWrites (w := fun x : GangField × Nat => writeGangPair g x.1 x.2) _ (fun x hx => ?_)
        (s, false)).trans (tame_passIf _ _)
      obtain ⟨y, hy, rfl⟩ := List.mem_map.1 hx
      exact tame_writeGangPair (checkGangPairs_inRange hws y hy)

theorem tame_reqSetProfile (fr : Frame) (s : State) : Tame s (reqSetProfile fr s).1 := by
  unfold reqSetProfile
  split
  · exact Tame.refl s
  · split
    · exact Tame.refl s
    · split
      · split
        · exact Tame.refl s
        · exact tame_setProfileOf _ _ s
      · exact Tame.refl s

theorem tame_reqSetGangProfile (fr : Frame) (s : State) : Tame s (reqSetGangProfile fr s).1 := by
  unfold reqSetGangProfile
  split
  · exact Tame.refl s
  · split
    · exact Tame.refl s
    · split
      · split
        · exact Tame.refl s
        · exact tame_setGangProfileOf _ _ s
      · exact Tame.refl s

/-! ## Supplies and policy -/

/-- A change of supplies and reserve and the recomputation after it. -/
theorem tame_setSupplyTo (c1 c2 r : Option Nat) (s : State) : Tame s (setSupplyTo c1 c2 r s).1 := by
  have hc : ∀ k v (s : State), (writeCapacity k v s).outlets = s.outlets ∧ (writeCapacity k v s).gangs = s.gangs ∧
      (writeCapacity k v s).queue = s.queue ∧ (writeCapacity k v s).entryStamps = s.entryStamps := by
    intro k v s
    unfold writeCapacity
    split
    · exact ⟨rfl, rfl, rfl, rfl⟩
    · split <;> exact ⟨rfl, rfl, rfl, rfl⟩
  obtain ⟨ho, hg, hq, he⟩ := hc 0 c1 s
  obtain ⟨ho', hg', hq', he'⟩ := hc 1 c2 (writeCapacity 0 c1 s)
  cases r with
  | none => exact tame_recompute_of (ho'.trans ho) (hg'.trans hg) (hq'.trans hq) (he'.trans he)
  | some r =>
    exact tame_recompute_of (t := { writeCapacity 1 c2 (writeCapacity 0 c1 s) with reserve := r }) (ho'.trans ho)
      (hg'.trans hg) (hq'.trans hq) (he'.trans he)

theorem tame_reqSetSupply (fr : Frame) (s : State) : Tame s (reqSetSupply fr s).1 := by
  unfold reqSetSupply
  split
  · exact Tame.refl s
  · split
    · dsimp only
      split
      · exact tame_setSupplyTo _ _ _ s
      · exact Tame.refl s
    · exact Tame.refl s

theorem retime_eff (n : Nat) (e : Entry) : (retime n e).eff = e.eff := by
  unfold retime
  split
  · split <;> rfl
  · rfl

theorem retime_stamp (n : Nat) (e : Entry) : (retime n e).stamp = e.stamp := by
  unfold retime
  split
  · split <;> rfl
  · rfl

theorem tame_writePolicy (n : Policy) (s : State) : Tame s (writePolicy n s) := by
  refine Tame.trans (tame_queue (t := { s with
    policy := n
    queue := if n.aging = s.policy.aging then s.queue else s.queue.map (retime n.aging)
    claim := if s.policy.preemption && !n.preemption then none else s.claim }) rfl rfl (fun h => ?_) rfl rfl rfl)
    (tame_passIf _ _)
  dsimp only
  split
  · exact h
  · exact h.map (retime_eff _) (retime_stamp _)

theorem tame_reqSetPolicy (fr : Frame) (s : State) : Tame s (reqSetPolicy fr s).1 := by
  unfold reqSetPolicy
  split
  · exact Tame.refl s
  · split
    · dsimp only
      split
      · exact tame_writePolicy _ s
      · exact Tame.refl s
    · exact Tame.refl s

/-- A supply's line and timer are no part of the budget (R30). -/
theorem tame_updSupply (k : SupplyId) {h : SupplyRec → SupplyRec} (s : State)
    (hb : ∀ r, (h r).brings = r.brings) : Tame s (updSupply k h s) where
  order := id
  budget hs := by
    rw [budgetOk_iff] at *
    have hj : ∀ j, ((updSupply k h s).supply j).brings = (s.supply j).brings := by
      intro j
      show ((s.setSupply k _).supply j).brings = _
      rw [setSupply_supply]
      split
      · next e => rw [hb, e]
      · rfl
    unfold State.budgetNow at *
    rw [hj, hj]
    exact hs
  profiles := id
  meters := id

theorem tame_supgoodLost (k : SupplyId) (s : State) : Tame s (supgoodLost k s) := by
  unfold supgoodLost
  split
  · exact tame_recompute_of rfl rfl rfl rfl
  · exact tame_updSupply k s (fun _ => rfl)

theorem tame_supgoodFound (k : SupplyId) (s : State) : Tame s (supgoodFound k s) := by
  unfold supgoodFound
  split
  · exact Tame.refl s
  · exact tame_updSupply k s (fun _ => rfl)

theorem tame_supplyRestored (k : SupplyId) (s : State) : Tame s (supplyRestored k s) := by
  unfold supplyRestored
  split
  · exact tame_recompute_of rfl rfl rfl rfl
  · exact Tame.refl s

theorem tame_ageEntry (f : Feed) (s : State) : Tame s (ageEntry f s) := by
  unfold ageEntry
  split
  · exact Tame.refl s
  · split
    · exact (tame_updEntry f (h := fun x => { x with eff := x.eff + 1, aging := s.agingFor (x.eff + 1) })
        (fun _ => rfl) s).trans (tame_passIf _ _)
    · exact Tame.refl s

/-! ## Lines and EOFF -/

theorem tame_emergencyFeed (s : State) (f : Feed) : Tame s (emergencyFeed s f) := by
  unfold emergencyFeed
  split
  · exact tame_stopTold f .emergency .emergency s
  · exact tame_stopTold f .emergency .emergency s
  · exact tame_redirectTold f _ _ .emergency s
  · exact tame_redirectTold f _ _ .emergency s
  · exact Tame.refl s
  · exact Tame.refl s
  · exact tame_withdrawTold f .emergency s
  · exact tame_leaveTold f .emergency s
  · exact Tame.refl s
  · exact Tame.refl s

theorem tame_assertEoff (s : State) : Tame s (assertEoff s) :=
  (((tame_raise _ _ s).trans (Tame.foldl tame_emergencyFeed s.feeds _)).trans (tame_dropClaim _)).trans (tame_pass _)

theorem tame_releaseEoff (s : State) : Tame s (releaseEoff s) := by
  refine (tame_raise _ _ s).trans (Tame.foldl (fun s p => ?_) allOutlets _)
  unfold releaseOutlet
  split
  · exact (tame_enterQueued _ _ s).trans (tame_raise _ _ _)
  · exact Tame.refl s

theorem tame_sourcesChanged {s t : State} (h : Tame s t) : Tame s (sourcesChanged s t) := by
  unfold sourcesChanged
  split
  · exact h.trans (tame_assertEoff t)
  · split
    · exact (h.trans (tame_releaseEoff t)).trans (tame_pass _)
    · split
      · exact h.trans (tame_pass t)
      · exact h

theorem tame_setInput (l : LineId) (i : InputLine) (s : State) : Tame s (setInput l i s) := by
  cases l <;> exact tame_of_eq rfl rfl rfl rfl rfl rfl rfl

theorem tame_lineQualified (l : LineId) (s : State) : Tame s (lineQualified l s) := by
  unfold lineQualified
  dsimp only
  split
  · exact tame_sourcesChanged (tame_setInput l _ s)
  · exact Tame.refl s

theorem tame_changeLine (k : AuxId) (fn : LineFn) (s : State) : Tame s (changeLine k fn s) := by
  unfold changeLine
  split
  · exact Tame.refl s
  · exact tame_sourcesChanged (tame_of_eq rfl rfl rfl rfl rfl rfl rfl)

theorem tame_reqSetLine (fr : Frame) (s : State) : Tame s (reqSetLine fr s).1 := by
  unfold reqSetLine
  split
  · split
    · exact tame_changeLine _ _ s
    · exact Tame.refl s
  · exact Tame.refl s

/-! ## Maps, notices and meters -/

theorem tame_reqStageMap (fr : Frame) (s : State) : Tame s (reqStageMap fr s).1 := by
  unfold reqStageMap
  repeat' split
  all_goals exact tame_of_eq rfl rfl rfl rfl rfl rfl rfl

theorem tame_reqStageGang (fr : Frame) (s : State) : Tame s (reqStageGang fr s).1 := by
  unfold reqStageGang
  repeat' split
  all_goals exact tame_of_eq rfl rfl rfl rfl rfl rfl rfl

theorem tame_reqDiscardMap (fr : Frame) (s : State) : Tame s (reqDiscardMap fr s).1 := by
  unfold reqDiscardMap
  split <;> exact tame_of_eq rfl rfl rfl rfl rfl rfl rfl

theorem applyStaged_outlet (s : State) (p : OutletId) : (applyStaged s).outlet p = s.outletAfter p := by
  fin_cases p <;> rfl

theorem applyStaged_gang (s : State) (g : GangId) : (applyStaged s).gang g = s.gangAfter g := by
  fin_cases g <;> rfl

/-- An apply changes the feed part and the last cause of an outlet's record at most (R140). -/
theorem outletAfter_eq (s : State) (p : OutletId) :
    s.outletAfter p =
      { s.outlet p with own := (s.outletAfter p).own, lastCause := (s.outletAfter p).lastCause } := by
  unfold State.outletAfter
  dsimp only
  split <;> rfl

theorem gangAfter_profile (s : State) (g : GangId) : (s.gangAfter g).profile = (s.gang g).profile := by
  unfold State.gangAfter
  dsimp only
  split
  · split
    · rfl
    · split <;> rfl
  · rfl

theorem tame_applyStaged (s : State) : Tame s (applyStaged s) where
  order := id
  budget := id
  profiles h := by
    refine ⟨fun p => ?_, fun g => ?_⟩
    · rw [applyStaged_outlet, outletAfter_eq]
      exact h.1 p
    · rw [applyStaged_gang, gangAfter_profile]
      exact h.2 g
  meters h p := by
    rw [applyStaged_outlet, outletAfter_eq]
    exact h p

theorem tame_applyNotices (s t : State) : Tame t (applyNotices s t) :=
  ((tame_raise _ _ t).trans (Tame.foldl (fun u p => tame_raise (.outlet p) .state u) _ _)).trans
    (Tame.foldl (fun u g => tame_raise (.gang g) .state u) _ _)

theorem tame_reqApplyMap (fr : Frame) (s : State) : Tame s (reqApplyMap fr s).1 := by
  unfold reqApplyMap
  split
  · split
    · split
      · exact Tame.refl s
      · exact (tame_applyStaged s).trans (tame_applyNotices s _)
    · exact Tame.refl s
  · exact Tame.refl s

theorem tame_acknowledge (a : Nat) (s : State) : Tame s (acknowledge a s) := by
  unfold acknowledge
  split
  · refine Tame.trans (t := { s with notices := s.notices.filter (fun n => !ackedBy s.nextNumber a n) })
      (tame_of_eq rfl rfl rfl rfl rfl rfl rfl) (Tame.foldl (fun s n => ?_) _ _)
    unfold freeSlotOf
    split
    · exact tame_setSlot _ _ s
    · exact Tame.refl s
  · exact Tame.refl s

theorem tame_reqFetchNotices (fr : Frame) (s : State) : Tame s (reqFetchNotices fr s).1 := by
  unfold reqFetchNotices fetch
  split
  · split
    · exact (tame_acknowledge _ s).trans (tame_of_eq rfl rfl rfl rfl rfl rfl rfl)
    · exact Tame.refl s
  · exact Tame.refl s

/-- After READ_METER the peak is the latest sample (R89). -/
theorem meterOk_peakAfterRead {o : OutletRec} (h : meterOk o) : meterOk { o with peak := peakAfterRead o } := by
  obtain ⟨hlen, hring, hpeak, hlatest⟩ := h
  refine ⟨hlen, hring, ?_, ?_⟩
  · unfold peakAfterRead
    split
    · next x l hx => exact (hlatest _ hx).trans hpeak
    · exact Nat.zero_le _
  · intro x hx
    have hx' : o.latest = some x := hx
    unfold peakAfterRead
    rw [hx']

theorem tame_reqReadMeter (fr : Frame) (s : State) : Tame s (reqReadMeter fr s).1 := by
  unfold reqReadMeter
  split
  · split
    · exact tame_updOutlet (f := fun o => { o with peak := peakAfterRead o }) s (fun _ h => h)
        (fun _ => meterOk_peakAfterRead)
    · exact Tame.refl s
  · exact Tame.refl s

/-- A scan keeps ring, peak and latest sample in their ranges (R86, R87, R89). -/
theorem meterOk_measured (v i : Nat) {o : OutletRec} (h : meterOk o) : meterOk (measured v i o) := by
  obtain ⟨hlen, hring, hpeak, -⟩ := h
  have hx : sampleOf v i ≤ 2000 := Nat.min_le_left _ _
  refine ⟨?_, ?_, ?_, ?_⟩
  · show (pushSample o.ring (sampleOf v i)).length ≤ 8
    unfold pushSample Config.ringSize
    split <;> simp <;> omega
  · intro x hxm
    have hxm' : x ∈ pushSample o.ring (sampleOf v i) := hxm
    have : x ∈ o.ring ∨ x = sampleOf v i := by
      unfold pushSample at hxm'
      split at hxm'
      · simpa using hxm'
      · rcases List.mem_append.1 hxm' with hm | hm
        · exact .inl (List.mem_of_mem_drop hm)
        · exact .inr (by simpa using hm)
    rcases this with hm | rfl
    · exact hring x hm
    · exact hx
  · exact Nat.max_le.2 ⟨hpeak, hx⟩
  · intro x hxm
    cases hxm
    exact Nat.le_max_right _ _

theorem compareDraw_meter (o : OutletRec) :
    compareDraw o = { o with overdrawWindow := (compareDraw o).overdrawWindow } := by
  unfold compareDraw
  split
  · rfl
  · split
    · split
      · split <;> rfl
      · rfl
    · rfl

/-! ## Events of outlets and gangs -/

theorem tame_soloDischarged (p : OutletId) (d : Dest) (s : State) : Tame s (soloDischarged p d s) :=
  ((((tame_returnAlloc p s).trans (tame_enterDest _ _ _)).trans (tame_raise _ _ _)).trans
    (tame_completeOp _ _ _ _)).trans (tame_pass _)

theorem tame_recordTimeout (p : OutletId) (s : State) :
    Tame s (updOutlet p (fun o => { o with lastCause := some .dischargeTimeout }) (returnAlloc p s)) :=
  (tame_returnAlloc p s).trans (tame_updOutlet _ (fun _ h => h) (fun _ h => h))

theorem tame_soloTimeout (p : OutletId) (s : State) : Tame s (soloTimeout p s) :=
  ((((((tame_recordTimeout p s).trans (tame_setState _ _ _)).trans (tame_raise _ _ _)).trans
    (tame_completeOp _ _ _ _)).trans (tame_completeOp _ _ _ _)).trans (tame_raise _ _ _)).trans (tame_pass _)

theorem tame_gangLeaves (g : GangId) (s : State) : Tame s (gangLeaves g s) := by
  unfold gangLeaves
  split
  · exact ((tame_enterDest _ _ s).trans (tame_completeOp _ _ _ _)).trans (tame_raise _ _ _)
  · exact Tame.refl s

theorem tame_memberReturned (g : GangId) (s : State) : Tame s (memberReturned g s) := by
  unfold memberReturned
  split
  · exact (tame_gangLeaves g s).trans (tame_pass _)
  · exact tame_pass s

theorem tame_memberTimeout (g : GangId) (c : StopCause) (p : OutletId) (s : State) :
    Tame s (memberTimeout g c p s) :=
  ((((((tame_recordTimeout p s).trans (tame_redirect _ _ _ _)).trans
    (tame_updGang (f := fun r => { r with lastMember := some p, timedOut := true }) _ (fun _ h => h))).trans
    (tame_completeOp _ _ _ _)).trans (tame_raise _ _ _)).trans (tame_raise _ _ _)).trans (tame_memberReturned g _)

theorem tame_reportDown (p : OutletId) (s : State) : Tame s (reportDown p s) := by
  unfold reportDown
  split
  · exact Tame.refl s
  · split
    · exact tame_soloDischarged _ _ s
    · exact Tame.refl s
  · split
    · split
      · exact Tame.refl s
      · exact (tame_returnAlloc _ s).trans (tame_memberReturned _ _)
    · exact Tame.refl s

theorem tame_scan (p : OutletId) (v i : Nat) (s : State) : Tame s (scan p v i s) := by
  have h : Tame s (updOutlet p (measured v i) s) := tame_updOutlet s (fun _ h => h) (fun _ => meterOk_measured v i)
  unfold scan
  dsimp only
  split
  · refine h.trans (tame_updOutlet _ (fun o h => ?_) (fun o h => ?_))
    · rw [compareDraw_meter]; exact h
    · rw [compareDraw_meter]; exact h
  · split
    · exact h.trans (tame_reportDown p _)
    · exact h

theorem tame_dischargeExpired (p : OutletId) (s : State) : Tame s (dischargeExpired p s) := by
  unfold dischargeExpired
  split
  · split
    · exact tame_soloTimeout p s
    · exact Tame.refl s
  · exact Tame.refl s

theorem tame_memberDischargeExpired (p : OutletId) (s : State) : Tame s (memberDischargeExpired p s) := by
  unfold memberDischargeExpired
  split
  · split
    · split
      · exact tame_memberTimeout _ _ p s
      · exact Tame.refl s
    · exact Tame.refl s
  · exact Tame.refl s

/-- A ramp timer stops. -/
theorem tame_rampEnds (p : OutletId) (s : State) : Tame s (updOutlet p (fun o => { o with ramp := none }) s) :=
  tame_updOutlet s (fun _ h => h) (fun _ h => h)

theorem tame_rampExpired (p : OutletId) (s : State) : Tame s (rampExpired p s) := by
  unfold rampExpired
  split
  · dsimp only
    split
    · exact (((tame_rampEnds p s).trans (tame_updFeed _ _ _)).trans (tame_raise _ _ _)).trans (tame_completeOp _ _ _ _)
    · exact (tame_rampEnds p s).trans (tame_takeFault _ _ _)
  · exact Tame.refl s

theorem tame_memberRampIn (g : GangId) (p : OutletId) (s : State) : Tame s (memberRampIn g p s) := by
  unfold memberRampIn
  dsimp only
  split
  · split
    · exact (((tame_rampEnds p s).trans (tame_updFeed _ _ _)).trans (tame_completeOp _ _ _ _)).trans (tame_raise _ _ _)
    · exact tame_rampEnds p s
  · exact (tame_rampEnds p s).trans (tame_takeFault _ _ _)

theorem tame_memberRampExpired (p : OutletId) (s : State) : Tame s (memberRampExpired p s) := by
  unfold memberRampExpired
  split
  · split
    · exact tame_memberRampIn _ p s
    · exact Tame.refl s
  · exact Tame.refl s

theorem tame_blankingExpired (p : OutletId) (s : State) : Tame s (blankingExpired p s) := by
  have h := tame_updOutlet (p := p) (f := fun o => { o with blanking := none }) s (fun _ h => h) (fun _ h => h)
  unfold blankingExpired
  split
  · dsimp only
    split
    · exact h.trans (tame_examine p _)
    · exact h
  · exact Tame.refl s

theorem tame_backoffExpired (f : Feed) (s : State) : Tame s (backoffExpired f s) := by
  unfold backoffExpired
  split
  · exact ((tame_enterQueued _ _ s).trans (tame_raise _ _ _)).trans (tame_pass _)
  · exact Tame.refl s

theorem tame_presenceActs (p : OutletId) (a : Bool) (s : State) : Tame s (presenceActs p a s) := by
  unfold presenceActs
  split
  · split
    · unfold arrived
      split
      · exact ((tame_enterQueued _ _ s).trans (tame_raise _ _ _)).trans (tame_pass _)
      · exact Tame.refl s
    · unfold departed
      split
      · exact Tame.refl s
      · exact Tame.refl s
      · exact (tame_withdrawTold _ .removed s).trans (tame_pass _)
      · exact tame_stopTold _ .removal .removed s
      · exact tame_stopTold _ .removal .removed s
      · exact tame_redirectTold _ _ _ .removed s
      · exact tame_redirectTold _ _ _ .removed s
      · exact Tame.refl s
      · exact Tame.refl s
      · exact tame_leaveTold _ .removed s
  · exact Tame.refl s

theorem tame_debounced (p : OutletId) (s : State) : Tame s (debounced p s) := by
  have h := tame_updOutlet (p := p) (f := fun o => { o with debounce := none }) s (fun _ h => h) (fun _ h => h)
  unfold debounced
  split
  · dsimp only
    split
    · exact h
    · exact ((h.trans (tame_updOutlet (p := p) (f := fun o => { o with presence := o.pres }) _ (fun _ h => h)
        (fun _ h => h))).trans (tame_raise _ _ _)).trans (tame_presenceActs _ _ _)
  · exact Tame.refl s

theorem tame_overcurrentBegins (p : OutletId) (s : State) : Tame s (overcurrentBegins p s) := by
  have h := tame_updOutlet (p := p) (f := fun o => { o with overcurrent := true }) s (fun _ h => h) (fun _ h => h)
  unfold overcurrentBegins
  split
  · exact Tame.refl s
  · dsimp only
    split
    · exact h.trans (tame_examine p _)
    · exact h

theorem tame_shortChanged (p : OutletId) (a : Bool) (s : State) : Tame s (shortChanged p a s) := by
  have h := tame_updOutlet (p := p) (f := fun o => { o with shortN := a }) s (fun _ h => h) (fun _ h => h)
  unfold shortChanged
  split
  · exact Tame.refl s
  · dsimp only
    split
    · exact h.trans (tame_takeFault p _ _)
    · exact h

theorem tame_overdrawExpired (p : OutletId) (s : State) : Tame s (overdrawExpired p s) := by
  unfold overdrawExpired
  split
  · exact (tame_updOutlet (p := p) (f := fun o => { o with overdrawWindow := none }) s (fun _ h => h)
      (fun _ h => h)).trans (tame_takeFault p _ _)
  · exact Tame.refl s

/-! ## Hard reset (R25, R42, R131) -/

theorem blocksReset_outlet (s : State) (p : OutletId) : (blocksReset s).outlet p = resetOutlet (s.outlet p) := by
  fin_cases p <;> rfl

theorem blocksReset_supply (s : State) (k : SupplyId) : (blocksReset s).supply k = resetSupply (s.supply k) := by
  fin_cases k <;> rfl

theorem blocksReset_gang (s : State) (g : GangId) : (blocksReset s).gang g = GangRec.reset := by
  fin_cases g <;> rfl

theorem tame_blocksReset (s : State) : Tame s (blocksReset s) where
  order _ := queueOrdered_nil 0
  budget _ := by
    rw [budgetOk_iff]
    unfold State.budgetNow
    rw [blocksReset_supply, blocksReset_supply]
    rfl
  profiles _ := by
    refine ⟨fun p => ?_, fun g => ?_⟩
    · rw [blocksReset_outlet]
      show profileOk Profile.default
      simp only [profileOk, Profile.default]
      decide
    · rw [blocksReset_gang]
      show gangProfileOk GangProfile.default
      simp only [gangProfileOk, GangProfile.default]
      decide
  meters _ p := by
    rw [blocksReset_outlet]
    exact ⟨Nat.zero_le _, by simp [resetOutlet, OutletRec.reset], Nat.zero_le _,
      by simp [resetOutlet, OutletRec.reset]⟩

/-- What the pins found active at the end of a reset start is timers alone. -/
theorem tame_wake (s : State) : Tame s (wakeEoff (wakeSupply (wakeSupply (allOutlets.foldl wakeOutlet s) 0) 1)) := by
  have ho : ∀ (s : State) (p : OutletId), Tame s (wakeOutlet s p) := fun s p => by
    unfold wakeOutlet
    split
    · exact tame_updOutlet (f := fun o => { o with debounce := some o.profile.debounce }) s (fun _ h => h)
        (fun _ h => h)
    · exact Tame.refl s
  have hk : ∀ (s : State) (k : SupplyId), Tame s (wakeSupply s k) := fun s k => by
    unfold wakeSupply
    split
    · exact tame_updSupply k (h := fun r => { r with restoration := some Config.restorationMs }) s (fun _ => rfl)
    · exact Tame.refl s
  have he : ∀ s : State, Tame s (wakeEoff s) := fun s => by
    unfold wakeEoff
    split
    · exact tame_of_eq rfl rfl rfl rfl rfl rfl rfl
    · exact Tame.refl s
  exact (((Tame.foldl ho allOutlets s).trans (hk _ 0)).trans (hk _ 1)).trans (he _)

theorem tame_finishReset (v : Level) (s : State) : Tame s (finishReset v s) := by
  unfold finishReset
  refine ((tame_blocksReset s).trans ?_).trans (tame_wake _)
  exact tame_of_eq rfl rfl rfl rfl rfl rfl rfl

/-! ## Every step -/

/-- Every effect of the part is tame. -/
theorem effectsKeep_tame (s₀ : State) : EffectsKeep (Tame s₀) where
  pending _ _ h := h.trans (tame_of_eq rfl rfl rfl rfl rfl rfl rfl)
  link _ _ h := h.trans (tame_of_eq rfl rfl rfl rfl rfl rfl rfl)
  aux _ h := h.trans (tame_of_eq rfl rfl rfl rfl rfl rfl rfl)
  readMeter f s h := h.trans (tame_reqReadMeter f s)
  powerOn f s h := h.trans (tame_reqPowerOn f s)
  powerOff f s h := h.trans (tame_reqPowerOff f s)
  clearFault f s h := h.trans (tame_reqClearFault f s)
  setProfile f s h := h.trans (tame_reqSetProfile f s)
  setGangProfile f s h := h.trans (tame_reqSetGangProfile f s)
  setSupply f s h := h.trans (tame_reqSetSupply f s)
  setPolicy f s h := h.trans (tame_reqSetPolicy f s)
  setLine f s h := h.trans (tame_reqSetLine f s)
  stageMap f s h := h.trans (tame_reqStageMap f s)
  stageGang f s h := h.trans (tame_reqStageGang f s)
  applyMap f s h := h.trans (tame_reqApplyMap f s)
  discardMap f s h := h.trans (tame_reqDiscardMap f s)
  fetchNotices f s h := h.trans (tame_reqFetchNotices f s)
  resetBy _ _ h := h.trans (tame_of_eq rfl rfl rfl rfl rfl rfl rfl)
  enterReset s h := (h.trans (tame_blocksReset s)).trans (tame_of_eq rfl rfl rfl rfl rfl rfl rfl)
  finishReset v s h := h.trans (tame_finishReset v s)
  outletPins _ _ _ _ s h := h.trans (tame_updOutlet s (fun _ h => h) (fun _ h => h))
  supgoodInReset k _ s h := h.trans (tame_updSupply k s (fun _ => rfl))
  lineInput l i s h := h.trans (tame_setInput l i s)
  supgoodLost k s h := h.trans (tame_supgoodLost k s)
  supgoodFound k s h := h.trans (tame_supgoodFound k s)
  supplyRestored k s h := h.trans (tame_supplyRestored k s)
  ageEntry f s h := h.trans (tame_ageEntry f s)
  scan p v i s h := h.trans (tame_scan p v i s)
  dischargeExpired p s h := h.trans (tame_dischargeExpired p s)
  memberDischargeExpired p s h := h.trans (tame_memberDischargeExpired p s)
  rampExpired p s h := h.trans (tame_rampExpired p s)
  memberRampExpired p s h := h.trans (tame_memberRampExpired p s)
  blankingExpired p s h := h.trans (tame_blankingExpired p s)
  stabilityExpired f s h := ite_keeps (fun _ => h.trans (tame_updFeed f _ s)) h
  backoffExpired f s _ h := h.trans (tame_backoffExpired f s)
  presChanged p a s h := by
    unfold presChanged
    split
    · exact h
    · exact h.trans (tame_updOutlet s (fun _ h => h) (fun _ h => h))
  debounced p s h := h.trans (tame_debounced p s)
  overcurrentBegins p s h := h.trans (tame_overcurrentBegins p s)
  overcurrentEnds _ s h := h.trans (tame_updOutlet s (fun _ h => h) (fun _ h => h))
  widthReached p s h := ite_keeps (fun _ => h.trans (tame_qualify p s)) h
  pairWindowExpired _ s h := h.trans (tame_updOutlet s (fun _ h => h) (fun _ h => h))
  shortChanged p a s h := h.trans (tame_shortChanged p a s)
  overdrawExpired p s h := h.trans (tame_overdrawExpired p s)
  lineQualified l s h := h.trans (tame_lineQualified l s)

/-- Every step is tame. -/
theorem step_tame {s t : State} (h : step s = .next t) : Tame s t :=
  (effectsKeep_tame s).step s t (Tame.refl s) h

/-- Settles O56: every effect of the part is tame, and so is every step. -/
theorem stepsKeepOrderBudgetAndRanges : Obligations.StepsKeepOrderBudgetAndRanges :=
  ⟨fun _ _ ho hb h => ⟨(step_tame h).order ho, (step_tame h).budget hb⟩,
   fun _ _ hp hm h => ⟨(step_tame h).profiles hp, (step_tame h).meters hm⟩⟩

end Sys2Proof.Machine
end


/-! # The budget law: its parts and the moves that keep them (O54)

`Balanced` is the budget law but for its bound; `Beside f` is the part of it that does not speak of the feed `f`. An
operation on one feed is a move beside that feed (`Apart`), after which the feed's own part is put back. -/

section
namespace Sys2Proof.Machine

open Sys2Proof.Safety

/-! ## An outlet in a state of its feed (R5 to R8) -/

/-- No timer and no measurement of STARTING and ON runs (R8, R100). -/
def OutletRec.atRest (o : OutletRec) : Prop :=
  o.ramp = none ∧ o.blanking = none ∧ o.pairWindow = none ∧ o.overdrawWindow = none ∧ o.width = none

/-- The outlet is off, holds nothing and is at rest. -/
def OutletRec.idle (o : OutletRec) : Prop := o.swEn = false ∧ o.alloc = 0 ∧ o.atRest

/-- What `outletOk` asks of an outlet whose feed is in a state, `solo` saying that it is a solo feed. -/
def soundIn (st : FeedState) (solo : Prop) (o : OutletRec) : Prop :=
  o.swEn = st.powered ∧ (st.powered = true → o.alloc = o.profile.request) ∧ (st.holding = false → o.alloc = 0) ∧
  (st.holding = true → o.alloc ≠ 0 ∨ solo → o.alloc = o.profile.request) ∧ (st.powered = false → o.atRest)

theorem soundIn_idle {st : FeedState} (h : st.holding = false) (solo : Prop) (o : OutletRec) :
    soundIn st solo o ↔ o.idle := by
  unfold soundIn OutletRec.idle
  cases st <;> simp_all [FeedState.holding, FeedState.powered]

theorem soundIn_powered {st : FeedState} (h : st.powered = true) (solo : Prop) (o : OutletRec) :
    soundIn st solo o ↔ o.swEn = true ∧ o.alloc = o.profile.request := by
  unfold soundIn
  cases st <;> simp_all [FeedState.holding, FeedState.powered]

theorem soundIn_stopping (c : StopCause) (d : Dest) (solo : Prop) (o : OutletRec) :
    soundIn (.stopping c d) solo o ↔
      o.swEn = false ∧ (o.alloc ≠ 0 ∨ solo → o.alloc = o.profile.request) ∧ o.atRest := by
  simp [soundIn, FeedState.holding, FeedState.powered]

theorem outletState_of_feed {s : State} {p : OutletId} {f : Feed} (h : s.feedOf p = some f) :
    s.outletState p = .mapped (s.feedState f) := by
  simp [State.outletState, h]

theorem outletState_unmapped {s : State} {p : OutletId} (h : s.feedOf p = none) : s.outletState p = .unmapped := by
  simp [State.outletState, h]

theorem outletPowered_of_feed {s : State} {p : OutletId} {f : Feed} (h : s.feedOf p = some f) :
    s.outletPowered p = (s.feedState f).powered := by
  simp [State.outletPowered, outletState_of_feed h]

theorem outletHolding_of_feed {s : State} {p : OutletId} {f : Feed} (h : s.feedOf p = some f) :
    outletHolding s p = (s.feedState f).holding := by
  simp [outletHolding, outletState_of_feed h]

theorem outletOk_of_feed {s : State} {p : OutletId} {f : Feed} (h : s.feedOf p = some f) :
    outletOk s p ↔ soundIn (s.feedState f) (f = .solo p) (s.outlet p) := by
  simp [outletOk, outletPowered_of_feed h, outletHolding_of_feed h, h, soundIn, OutletRec.atRest]

theorem outletOk_unmapped {s : State} {p : OutletId} (h : s.feedOf p = none) : outletOk s p ↔ (s.outlet p).idle := by
  simp [outletOk, State.outletPowered, outletHolding, outletState_unmapped h, OutletRec.idle, OutletRec.atRest]

/-- Outside STARTING, ON and STOPPING nothing is held; the switch says whether the outlet is powered. -/
theorem outletOk_holds {s : State} {p : OutletId} (h : outletOk s p) :
    (s.outlet p).swEn = s.outletPowered p ∧ (outletHolding s p = false → (s.outlet p).alloc = 0) := ⟨h.1, h.2.2.1⟩

/-! ## The totals as sums over the outlets (R31) -/

/-- The sum of a quantity over P1 to P12. -/
def outletSum (c : OutletId → Nat) : Nat := (allOutlets.map c).sum

/-- What an outlet adds to the active total. -/
def OutletRec.draw (o : OutletRec) : Nat := if o.swEn = true then o.alloc else 0

def heldSum (s : State) : Nat := outletSum fun p => (s.outlet p).alloc
def drawSum (s : State) : Nat := outletSum fun p => (s.outlet p).draw

theorem outletSum_eq (c : OutletId → Nat) : outletSum c = ∑ p, c p := (Fin.sum_univ_def c).symm

theorem outletSum_congr {c c' : OutletId → Nat} (h : ∀ p, c' p = c p) : outletSum c' = outletSum c := by
  rw [funext h]

/-- A change at a list of distinct outlets changes the sum by what it changes there. -/
theorem outletSum_change {l : List OutletId} (hl : l.Nodup) {c c' : OutletId → Nat} (h : ∀ p, p ∉ l → c' p = c p) :
    outletSum c' + (l.map c).sum = outletSum c + (l.map c').sum := by
  have hs : ∀ d : OutletId → Nat, (l.map d).sum = ∑ p ∈ l.toFinset, d p := fun d => (List.sum_toFinset d hl).symm
  have hc : ∑ p ∈ l.toFinsetᶜ, c' p = ∑ p ∈ l.toFinsetᶜ, c p :=
    Finset.sum_congr rfl fun p hp => h p (by simpa using hp)
  rw [outletSum_eq, outletSum_eq, hs, hs, ← Finset.sum_add_sum_compl l.toFinset c', hc,
    ← Finset.sum_add_sum_compl l.toFinset c]
  omega

theorem totals_iff {s : State} (h : ∀ p, outletOk s p) :
    totalsOk s ↔ s.held = heldSum s ∧ s.active = drawSum s ∧ s.active ≤ s.budget := by
  have hheld : allocSum s (outletHolding s) = heldSum s := by
    refine outletSum_congr fun p => ?_
    split
    · rfl
    · next hp => exact ((outletOk_holds (h p)).2 (by simpa using hp)).symm
  have hdraw : allocSum s s.outletPowered = drawSum s := by
    refine outletSum_congr fun p => ?_
    rw [OutletRec.draw, (outletOk_holds (h p)).1]
  rw [totalsOk, hheld, hdraw]

/-- An outlet draws at most what it holds, so the active total is at most the held total. -/
theorem drawSum_le_heldSum (s : State) : drawSum s ≤ heldSum s := by
  unfold drawSum heldSum
  rw [outletSum_eq, outletSum_eq]
  refine Finset.sum_le_sum fun p _ => ?_
  unfold OutletRec.draw
  split
  · exact le_rfl
  · exact Nat.zero_le _

/-! ## The budget law but for its bound -/

/-- The budget law without the bound R32 puts on the active total. -/
structure Balanced (s : State) : Prop where
  maps : mapsOk s
  outlets : ∀ p, outletOk s p
  queue : queueOk s
  claim : claimOk s
  held : s.held = heldSum s
  active : s.active = drawSum s

theorem powerOk_iff (s : State) : powerOk s ↔ Balanced s ∧ s.active ≤ s.budget := by
  constructor
  · rintro ⟨hm, ho, hq, hc, ht⟩
    obtain ⟨hh, ha, hb⟩ := (totals_iff ho).1 ht
    exact ⟨⟨hm, ho, hq, hc, hh, ha⟩, hb⟩
  · rintro ⟨h, hb⟩
    exact ⟨h.maps, h.outlets, h.queue, h.claim, (totals_iff h.outlets).2 ⟨h.held, h.active, hb⟩⟩

theorem Balanced.active_le_held {s : State} (h : Balanced s) : s.active ≤ s.held := by
  rw [h.active, h.held]
  exact drawSum_le_heldSum s

/-! ## Feeds under one active map -/

theorem feedOf_congr {s t : State} (h : t.activeMap = s.activeMap) (p : OutletId) : t.feedOf p = s.feedOf p := by
  simp only [State.feedOf, State.logicalOf, State.gangOf, h]

theorem membersOf_congr {s t : State} (h : t.activeMap = s.activeMap) (g : GangId) : t.membersOf g = s.membersOf g := by
  simp only [State.membersOf, h]

theorem outletsOf_congr {s t : State} (h : t.activeMap = s.activeMap) (f : Feed) : t.outletsOf f = s.outletsOf f := by
  cases f with
  | solo p => rfl
  | gang g => simp only [State.outletsOf, membersOf_congr h]

theorem isFeed_congr {s t : State} (h : t.activeMap = s.activeMap) (f : Feed) : isFeed t f ↔ isFeed s f := by
  cases f with
  | solo p => simp only [isFeed, feedOf_congr h]
  | gang g => simp only [isFeed, membersOf_congr h]

theorem mapsOk_congr {s t : State} (h : t.activeMap = s.activeMap) (h' : t.stagedMap = s.stagedMap) :
    mapsOk t ↔ mapsOk s := by
  simp only [mapsOk, h, h']

/-- The request amount of a feed depends on its own outlets' requests. -/
theorem requestAmount_congr {s t : State} (h : t.activeMap = s.activeMap) {f : Feed}
    (hr : ∀ p ∈ s.outletsOf f, (t.outlet p).profile.request = (s.outlet p).profile.request) :
    t.requestAmount f = s.requestAmount f := by
  unfold State.requestAmount
  rw [outletsOf_congr h, List.map_congr_left hr]

/-! ## Outlets that go on drawing as they do -/

/-- `o'` has the switch, the allocation and the request of `o`, and starts no timer unless it is powered. -/
structure Still (on : Bool) (o o' : OutletRec) : Prop where
  swEn : o'.swEn = o.swEn
  alloc : o'.alloc = o.alloc
  request : o'.profile.request = o.profile.request
  rest : on = false → o.atRest → o'.atRest

theorem Still.refl (on : Bool) (o : OutletRec) : Still on o o := ⟨rfl, rfl, rfl, fun _ h => h⟩

theorem Still.trans {on : Bool} {o o' o'' : OutletRec} (a : Still on o o') (b : Still on o' o'') : Still on o o'' :=
  ⟨b.swEn.trans a.swEn, b.alloc.trans a.alloc, b.request.trans a.request, fun h r => b.rest h (a.rest h r)⟩

theorem Still.draw {on : Bool} {o o' : OutletRec} (h : Still on o o') : o'.draw = o.draw := by
  simp only [OutletRec.draw, h.swEn, h.alloc]

theorem Still.idle {o o' : OutletRec} (h : Still false o o') (hi : o.idle) : o'.idle :=
  ⟨h.swEn.trans hi.1, h.alloc.trans hi.2.1, h.rest rfl hi.2.2⟩

theorem Still.sound {st : FeedState} {solo : Prop} {o o' : OutletRec} (h : Still st.powered o o')
    (ho : soundIn st solo o) : soundIn st solo o' := by
  obtain ⟨hsw, hpow, hnone, hhold, hrest⟩ := ho
  refine ⟨h.swEn.trans hsw, ?_, ?_, ?_, fun hp => h.rest hp (hrest hp)⟩ <;>
    rw [h.alloc]
  · rw [h.request]; exact hpow
  · exact hnone
  · rw [h.request]; exact hhold

/-- An outlet whose feed stays in its state, and that is still, stays sound. -/
theorem outletOk_still {s t : State} (h : t.activeMap = s.activeMap) {p : OutletId}
    (hst : ∀ f, s.feedOf p = some f → t.feedState f = s.feedState f)
    (ho : Still (s.outletPowered p) (s.outlet p) (t.outlet p)) (hok : outletOk s p) : outletOk t p := by
  cases hf : s.feedOf p with
  | none =>
    rw [outletOk_unmapped (by rw [feedOf_congr h, hf])]
    have hp : s.outletPowered p = false := by simp [State.outletPowered, outletState_unmapped hf]
    exact (hp ▸ ho).idle ((outletOk_unmapped hf).1 hok)
  | some f =>
    rw [outletOk_of_feed ((feedOf_congr h p).trans hf), hst f hf]
    exact (outletPowered_of_feed hf ▸ ho).sound ((outletOk_of_feed hf).1 hok)

/-! ## Calm changes: nothing the budget law speaks of -/

/-- What the budget law reads of an entry. -/
def Entry.core (e : Entry) : Feed × Nat × Bool := (e.feed, e.amount, e.unfit)

/-- `t` differs from `s` in nothing the budget law speaks of, but that a claim may be dropped and timers may stop, or
start at powered outlets. -/
structure Calm (s t : State) : Prop where
  activeMap : t.activeMap = s.activeMap
  stagedMap : t.stagedMap = s.stagedMap
  budget : t.budget = s.budget
  held : t.held = s.held
  active : t.active = s.active
  queue : t.queue.map Entry.core = s.queue.map Entry.core
  claim : ∀ c ∈ t.claim, c ∈ s.claim
  state : ∀ f, t.feedState f = s.feedState f
  outlet : ∀ p, Still (s.outletPowered p) (s.outlet p) (t.outlet p)

theorem Calm.refl (s : State) : Calm s s :=
  ⟨rfl, rfl, rfl, rfl, rfl, rfl, fun _ h => h, fun _ => rfl, fun _ => Still.refl _ _⟩

section
variable {s t : State} (h : Calm s t)
include h

theorem Calm.feedOf (p : OutletId) : t.feedOf p = s.feedOf p := feedOf_congr h.activeMap p
theorem Calm.isFeed (f : Feed) : isFeed t f ↔ isFeed s f := isFeed_congr h.activeMap f
theorem Calm.outletsOf (f : Feed) : t.outletsOf f = s.outletsOf f := outletsOf_congr h.activeMap f

theorem Calm.outletState (p : OutletId) : t.outletState p = s.outletState p := by
  unfold State.outletState
  rw [h.feedOf]
  split
  · rfl
  · rw [h.state]

theorem Calm.outletPowered (p : OutletId) : t.outletPowered p = s.outletPowered p := by
  unfold State.outletPowered
  rw [h.outletState]

theorem Calm.trans {u : State} (h' : Calm t u) : Calm s u where
  activeMap := h'.activeMap.trans h.activeMap
  stagedMap := h'.stagedMap.trans h.stagedMap
  budget := h'.budget.trans h.budget
  held := h'.held.trans h.held
  active := h'.active.trans h.active
  queue := h'.queue.trans h.queue
  claim c hc := h.claim c (h'.claim c hc)
  state f := (h'.state f).trans (h.state f)
  outlet p := (h.outlet p).trans (h.outletPowered p ▸ h'.outlet p)

theorem Calm.requestAmount (f : Feed) : t.requestAmount f = s.requestAmount f :=
  requestAmount_congr h.activeMap fun p _ => (h.outlet p).request

theorem Calm.feeds_queue : t.queue.map Entry.feed = s.queue.map Entry.feed := by
  have e := congrArg (List.map fun x : Feed × Nat × Bool => x.1) h.queue
  rw [List.map_map, List.map_map] at e
  exact e

/-- The entries of `t` are those of `s` as far as the budget law reads them. -/
theorem Calm.entry {e : Entry} (he : e ∈ t.queue) :
    ∃ e' ∈ s.queue, e'.feed = e.feed ∧ e'.amount = e.amount ∧ e'.unfit = e.unfit := by
  have hm : e.core ∈ s.queue.map Entry.core := h.queue ▸ List.mem_map_of_mem he
  obtain ⟨e', he', hc⟩ := List.mem_map.1 hm
  simp only [Entry.core, Prod.mk.injEq] at hc
  exact ⟨e', he', hc⟩

theorem Calm.entry_kept {e : Entry} (he : e ∈ s.queue) :
    ∃ e' ∈ t.queue, e'.feed = e.feed ∧ e'.amount = e.amount ∧ e'.unfit = e.unfit := by
  have hm : e.core ∈ t.queue.map Entry.core := h.queue.symm ▸ List.mem_map_of_mem he
  obtain ⟨e', he', hc⟩ := List.mem_map.1 hm
  simp only [Entry.core, Prod.mk.injEq] at hc
  exact ⟨e', he', hc⟩

theorem Calm.queueOk (hq : queueOk s) : queueOk t := by
  obtain ⟨hent, hnd, hlist⟩ := hq
  refine ⟨fun e he => ?_, h.feeds_queue ▸ hnd, fun f hf hst => ?_⟩
  · obtain ⟨e', he', hfeed, ham, hun⟩ := h.entry he
    obtain ⟨h1, h2, h3, h4⟩ := hent e' he'
    rw [h.isFeed, h.state, h.requestAmount, h.budget, ← hfeed, ← ham, ← hun]
    exact ⟨h1, h2, h3, h4⟩
  · rw [h.feeds_queue]
    exact hlist f ((h.isFeed f).1 hf) ((h.state f).symm.trans hst)

theorem Calm.claimOk (hc : claimOk s) : claimOk t := by
  intro c hm
  obtain ⟨e, he, hfeed, ham, hun⟩ := hc c (h.claim c hm)
  obtain ⟨e', he', hfeed', ham', hun'⟩ := h.entry_kept he
  exact ⟨e', he', hfeed'.trans hfeed, ham'.trans ham, hun'.trans hun⟩

theorem Calm.balanced (hb : Balanced s) : Balanced t where
  maps := (mapsOk_congr h.activeMap h.stagedMap).2 hb.maps
  outlets p := outletOk_still h.activeMap (fun f _ => h.state f) (h.outlet p) (hb.outlets p)
  queue := h.queueOk hb.queue
  claim := h.claimOk hb.claim
  held := by
    rw [h.held, hb.held]
    exact (outletSum_congr fun p => (h.outlet p).alloc).symm
  active := by
    rw [h.active, hb.active]
    exact (outletSum_congr fun p => (h.outlet p).draw).symm

end

/-! ## Lowering changes: the active total does not rise -/

/-- `t` keeps the balance of `s`, at the same budget and with an active total that has not risen. -/
def Lowers (s t : State) : Prop := Balanced s → Balanced t ∧ t.active ≤ s.active ∧ t.budget = s.budget

theorem Lowers.refl (s : State) : Lowers s s := fun h => ⟨h, le_rfl, rfl⟩

theorem Lowers.trans {s t u : State} (a : Lowers s t) (b : Lowers t u) : Lowers s u := fun h => by
  obtain ⟨ht, hle, hbt⟩ := a h
  obtain ⟨hu, hle', hbu⟩ := b ht
  exact ⟨hu, hle'.trans hle, hbu.trans hbt⟩

theorem Calm.lowers {s t : State} (h : Calm s t) : Lowers s t := fun hb => ⟨h.balanced hb, h.active.le, h.budget⟩

theorem Lowers.powerOk {s t : State} (h : Lowers s t) (hs : powerOk s) : powerOk t := by
  obtain ⟨hb, hle⟩ := (powerOk_iff s).1 hs
  obtain ⟨ht, hle', hbt⟩ := h hb
  exact (powerOk_iff t).2 ⟨ht, hbt ▸ hle'.trans hle⟩

/-! ## Beside one feed -/

/-- What the budget law says of everything but the feed `f`: no entry and no claim is that feed's. -/
structure Beside (f : Feed) (s : State) : Prop where
  maps : mapsOk s
  feed : isFeed s f
  outlets : ∀ p, s.feedOf p ≠ some f → outletOk s p
  entries : ∀ e ∈ s.queue, e.feed ≠ f ∧ isFeed s e.feed ∧ s.feedState e.feed = .queued ∧
    e.amount = s.requestAmount e.feed ∧ e.unfit = decide (s.budget < e.amount)
  nodup : (s.queue.map Entry.feed).Nodup
  listed : ∀ g, g ≠ f → isFeed s g → s.feedState g = .queued → g ∈ s.queue.map Entry.feed
  claim : claimOk s

/-- The state without the entry of a feed and without a claim on it. -/
def dequeued (f : Feed) (s : State) : State :=
  { s with queue := dropEntry f s.queue, claim := if s.isClaimant f then none else s.claim }

theorem mem_dropEntry {f : Feed} {q : List Entry} {e : Entry} : e ∈ dropEntry f q ↔ e ∈ q ∧ e.feed ≠ f := by
  simp [dropEntry]

/-- A claim that is not the feed's. -/
theorem claim_of_not_claimant {s : State} {f : Feed} {c : Claim}
    (h : c ∈ (if s.isClaimant f then none else s.claim)) : c ∈ s.claim ∧ c.feed ≠ f := by
  split at h
  · cases h
  · next hn =>
    refine ⟨h, fun e => hn ?_⟩
    rw [isClaimant_iff, Option.mem_def.1 h, Option.map_some, e]

/-- Without the entry and the claim of a feed, a balanced part is balanced beside that feed. -/
theorem Balanced.beside {s : State} (h : Balanced s) {f : Feed} (hf : isFeed s f) : Beside f (dequeued f s) where
  maps := h.maps
  feed := hf
  outlets p _ := h.outlets p
  entries e he := by
    obtain ⟨hm, hne⟩ := mem_dropEntry.1 he
    exact ⟨hne, h.queue.1 e hm⟩
  nodup := h.queue.2.1.sublist ((dropEntry_sublist f s.queue).map _)
  listed g hne hg hst := by
    obtain ⟨e, he, rfl⟩ := List.mem_map.1 (h.queue.2.2 g hg hst)
    exact List.mem_map_of_mem (mem_dropEntry.2 ⟨he, hne⟩)
  claim c hc := by
    obtain ⟨hm, hne⟩ := claim_of_not_claimant hc
    obtain ⟨e, he, hfeed, ham, hun⟩ := h.claim c hm
    exact ⟨e, mem_dropEntry.2 ⟨he, hfeed ▸ hne⟩, hfeed, ham, hun⟩

/-- A feed that is not QUEUED has no entry and no claim to lose. -/
theorem Balanced.dequeued_eq {s : State} (h : Balanced s) {f : Feed} (hf : s.feedState f ≠ .queued) :
    dequeued f s = s := by
  have hent : ∀ e ∈ s.queue, e.feed ≠ f := fun e he hfe => hf (hfe ▸ (h.queue.1 e he).2.1)
  have hq : dropEntry f s.queue = s.queue := List.filter_eq_self.2 fun e he => by simpa using hent e he
  have hc : s.isClaimant f = false := by
    rw [Bool.eq_false_iff]
    intro hcl
    obtain ⟨c, hc, hcf⟩ := Option.map_eq_some_iff.1 ((isClaimant_iff s f).1 hcl)
    obtain ⟨e, he, hfe, -⟩ := h.claim c hc
    exact hent e he (hfe.trans hcf)
  simp [dequeued, hq, hc]

theorem Balanced.beside_of_not_queued {s : State} (h : Balanced s) {f : Feed} (hf : isFeed s f)
    (hq : s.feedState f ≠ .queued) : Beside f s := h.dequeued_eq hq ▸ h.beside hf

/-- `t` differs from `s` at the feed `f` alone, as far as the budget law reads, totals apart. -/
structure Apart (f : Feed) (s t : State) : Prop where
  activeMap : t.activeMap = s.activeMap
  stagedMap : t.stagedMap = s.stagedMap
  budget : t.budget = s.budget
  queue : t.queue = s.queue
  claim : t.claim = s.claim
  state : ∀ g, g ≠ f → t.feedState g = s.feedState g
  outlet : ∀ p, s.feedOf p ≠ some f → Still (s.outletPowered p) (s.outlet p) (t.outlet p)

theorem Apart.beside {f : Feed} {s t : State} (m : Apart f s t) (b : Beside f s) : Beside f t := by
  have hreq : ∀ g, g ≠ f → isFeed s g → t.requestAmount g = s.requestAmount g := fun g hne hg =>
    requestAmount_congr m.activeMap fun p hp => (m.outlet p fun hpf => hne (by
      rw [feedOf_of_mem b.maps hg hp] at hpf; exact Option.some.inj hpf)).request
  refine ⟨(mapsOk_congr m.activeMap m.stagedMap).2 b.maps, (isFeed_congr m.activeMap f).2 b.feed, fun p hp => ?_,
    fun e he => ?_, m.queue.symm ▸ b.nodup, fun g hne hg hst => ?_, fun c hc => ?_⟩
  · rw [feedOf_congr m.activeMap] at hp
    refine outletOk_still m.activeMap (fun g hg => m.state g fun e => hp (e ▸ hg)) (m.outlet p hp) (b.outlets p hp)
  · rw [m.queue] at he
    obtain ⟨hne, h1, h2, h3, h4⟩ := b.entries e he
    rw [isFeed_congr m.activeMap, m.state _ hne, hreq _ hne h1, m.budget]
    exact ⟨hne, h1, h2, h3, h4⟩
  · rw [m.queue]
    exact b.listed g hne ((isFeed_congr m.activeMap g).1 hg) ((m.state g hne).symm.trans hst)
  · rw [m.queue]
    exact b.claim c (m.claim ▸ hc)

/-- The feed put back outside QUEUED: its outlets fit its state, and the totals are their sums. -/
theorem Beside.balanced {f : Feed} {s : State} (b : Beside f s)
    (ho : ∀ p, s.feedOf p = some f → soundIn (s.feedState f) (f = .solo p) (s.outlet p))
    (hq : s.feedState f ≠ .queued) (hh : s.held = heldSum s) (ha : s.active = drawSum s) : Balanced s where
  maps := b.maps
  outlets p := by
    by_cases hp : s.feedOf p = some f
    · exact (outletOk_of_feed hp).2 (ho p hp)
    · exact b.outlets p hp
  queue := ⟨fun e he => (b.entries e he).2, b.nodup, fun g hg hst => b.listed g (fun e => hq (e ▸ hst)) hg hst⟩
  claim := b.claim
  held := hh
  active := ha

/-- The feed put back in QUEUED, with its entry (R45). -/
theorem Beside.enter {f : Feed} {s : State} (b : Beside f s) (ho : ∀ p, s.feedOf p = some f → (s.outlet p).idle)
    (hq : s.feedState f = .queued) (hh : s.held = heldSum s) (ha : s.active = drawSum s) {e : Entry}
    (hfeed : e.feed = f) (ham : e.amount = s.requestAmount f) (hun : e.unfit = decide (s.budget < e.amount)) :
    Balanced { s with queue := insertBy entryBefore e s.queue } := by
  have hmem : ∀ x, x ∈ insertBy entryBefore e s.queue ↔ x = e ∨ x ∈ s.queue := fun x => mem_insertBy _ _ _ _
  refine ⟨b.maps, fun p => ?_, ⟨fun x hx => ?_, ?_, fun g hg hst => ?_⟩, fun c hc => ?_, hh, ha⟩
  · by_cases hp : s.feedOf p = some f
    · refine (outletOk_of_feed (s := s) hp).2 ?_
      rw [hq]
      exact (soundIn_idle rfl _ _).2 (ho p hp)
    · exact b.outlets p hp
  · rcases (hmem x).1 hx with rfl | hx
    · rw [← hfeed] at hq ham
      exact ⟨hfeed ▸ b.feed, hq, ham, hun⟩
    · exact (b.entries x hx).2
  · rw [((insertBy_perm entryBefore e s.queue).map Entry.feed).nodup_iff, List.map_cons, List.nodup_cons]
    refine ⟨fun hm => ?_, b.nodup⟩
    obtain ⟨x, hx, hxe⟩ := List.mem_map.1 hm
    exact (b.entries x hx).1 (hxe.trans hfeed)
  · by_cases hgf : g = f
    · rw [hgf, ← hfeed]
      exact List.mem_map_of_mem ((hmem e).2 (.inl rfl))
    · obtain ⟨x, hx, rfl⟩ := List.mem_map.1 (b.listed g hgf hg hst)
      exact List.mem_map_of_mem ((hmem x).2 (.inr hx))
  · obtain ⟨x, hx, hx'⟩ := b.claim c hc
    exact ⟨x, (hmem x).2 (.inr hx), hx'⟩

end Sys2Proof.Machine
end


/-! # The budget law under the shared operations (O54) -/

section
namespace Sys2Proof.Machine

open Sys2Proof.Safety

/-! ## Calm updates -/

theorem calm_of_eq {s t : State} (ho : t.outlets = s.outlets) (hg : t.gangs = s.gangs)
    (ha : t.activeMap = s.activeMap) (hm : t.stagedMap = s.stagedMap) (hb : t.budget = s.budget)
    (hh : t.held = s.held) (hd : t.active = s.active) (hq : t.queue.map Entry.core = s.queue.map Entry.core)
    (hc : ∀ c ∈ t.claim, c ∈ s.claim) : Calm s t where
  activeMap := ha
  stagedMap := hm
  budget := hb
  held := hh
  active := hd
  queue := hq
  claim := hc
  state f := by
    cases f with
    | solo p => simp only [State.feedState, State.feedRec, outlet_of_outlets ho]
    | gang g => simp only [State.feedState, State.feedRec, gang_of_gangs hg]
  outlet p := by
    rw [outlet_of_outlets ho]
    exact Still.refl _ _

theorem feedState_updOutlet {p : OutletId} {h : OutletRec → OutletRec} (s : State)
    (hs : (h (s.outlet p)).own.state = (s.outlet p).own.state) (f : Feed) :
    (updOutlet p h s).feedState f = s.feedState f := by
  cases f with
  | gang g => rfl
  | solo q =>
    simp only [State.feedState, State.feedRec, updOutlet_outlet]
    split
    · next e => rw [hs, e]
    · rfl

theorem calm_updOutlet {p : OutletId} {h : OutletRec → OutletRec} (s : State)
    (hs : (h (s.outlet p)).own.state = (s.outlet p).own.state)
    (ho : Still (s.outletPowered p) (s.outlet p) (h (s.outlet p))) : Calm s (updOutlet p h s) where
  activeMap := rfl
  stagedMap := rfl
  budget := rfl
  held := rfl
  active := rfl
  queue := rfl
  claim _ hc := hc
  state := feedState_updOutlet s hs
  outlet q := by
    rw [updOutlet_outlet]
    split
    · next e => rw [e]; exact ho
    · exact Still.refl _ _

theorem feedState_updGang {g : GangId} {h : GangRec → GangRec} (s : State)
    (hs : (h (s.gang g)).own.state = (s.gang g).own.state) (f : Feed) :
    (updGang g h s).feedState f = s.feedState f := by
  cases f with
  | solo p => rfl
  | gang k =>
    simp only [State.feedState, State.feedRec, updGang_gang]
    split
    · next e => rw [hs, e]
    · rfl

theorem calm_updGang {g : GangId} {h : GangRec → GangRec} (s : State)
    (hs : (h (s.gang g)).own.state = (s.gang g).own.state) : Calm s (updGang g h s) where
  activeMap := rfl
  stagedMap := rfl
  budget := rfl
  held := rfl
  active := rfl
  queue := rfl
  claim _ hc := hc
  state := feedState_updGang s hs
  outlet _ := Still.refl _ _

theorem calm_updFeed (f : Feed) {h : FeedRec → FeedRec} (s : State) (hs : ∀ r, (h r).state = r.state) :
    Calm s (updFeed f h s) := by
  cases f with
  | solo p => exact calm_updOutlet (h := fun o => { o with own := h o.own }) s (hs _) ⟨rfl, rfl, rfl, fun _ h => h⟩
  | gang g => exact calm_updGang (h := fun r => { r with own := h r.own }) s (hs _)

theorem calm_raise (subj : Subject) (fl : NoticeFlag) (s : State) : Calm s (raise subj fl s) :=
  calm_of_eq rfl rfl rfl rfl rfl rfl rfl rfl (fun _ h => h)

theorem calm_setSlot (n : SlotId) (x : Slot) (s : State) : Calm s (s.setSlot n x) :=
  calm_of_eq rfl rfl rfl rfl rfl rfl rfl rfl (fun _ h => h)

theorem calm_bindSlot (n : SlotId) (op : SlotOp) (f : Feed) (s : State) : Calm s (bindSlot n op f s) :=
  (calm_setSlot n _ s).trans (calm_updFeed f _ fun _ => rfl)

theorem calm_completeOp (k : PowerKind) (o : Completion) (f : Feed) (s : State) : Calm s (completeOp k o f s) := by
  unfold completeOp
  split
  · exact Calm.refl s
  · split
    · split
      · exact ((calm_setSlot _ _ s).trans
          (calm_updFeed f (h := fun r => { r with op := none }) _ fun _ => rfl)).trans (calm_raise _ _ _)
      · exact Calm.refl s
    · exact Calm.refl s

theorem calm_dropClaim (s : State) : Calm s (dropClaim s) :=
  calm_of_eq rfl rfl rfl rfl rfl rfl rfl rfl (fun _ h => by cases h)

theorem calm_driveAux (s : State) : Calm s (driveAux s) :=
  calm_of_eq rfl rfl rfl rfl rfl rfl rfl rfl (fun _ h => h)

/-! ## A change of one feed's state -/

theorem feedState_updFeed_same (f : Feed) (h : FeedRec → FeedRec) (s : State) :
    (updFeed f h s).feedState f = (h (s.feedRec f)).state := by
  simp [State.feedState]

theorem feedState_updFeed_other {f g : Feed} (h : FeedRec → FeedRec) (s : State) (hne : g ≠ f) :
    (updFeed f h s).feedState g = s.feedState g := by
  simp [State.feedState, updFeed_feedRec_other s f g h hne]

/-- A feed part is no part of what an outlet draws. -/
theorem updFeed_still (f : Feed) (h : FeedRec → FeedRec) (s : State) (on : Bool) (p : OutletId) :
    Still on (s.outlet p) ((updFeed f h s).outlet p) := by
  rw [updFeed_outlet]
  split <;> exact ⟨rfl, rfl, rfl, fun _ h => h⟩

theorem apart_updFeed (f : Feed) (h : FeedRec → FeedRec) (s : State) : Apart f s (updFeed f h s) where
  activeMap := updFeed_activeMap s f h
  stagedMap := updFeed_stagedMap s f h
  budget := updFeed_budget s f h
  queue := updFeed_queue s f h
  claim := updFeed_claim s f h
  state _ hne := feedState_updFeed_other h s hne
  outlet p _ := updFeed_still f h s _ p

theorem heldSum_congr {s t : State} (h : ∀ p, (t.outlet p).alloc = (s.outlet p).alloc) : heldSum t = heldSum s :=
  outletSum_congr h

theorem drawSum_congr {s t : State} (h : ∀ p, (t.outlet p).draw = (s.outlet p).draw) : drawSum t = drawSum s :=
  outletSum_congr h

theorem updFeed_totals {f : Feed} {h : FeedRec → FeedRec} {s : State} (hh : s.held = heldSum s)
    (ha : s.active = drawSum s) :
    (updFeed f h s).held = heldSum (updFeed f h s) ∧ (updFeed f h s).active = drawSum (updFeed f h s) := by
  rw [updFeed_held, updFeed_active, heldSum_congr fun p => (updFeed_still f h s false p).alloc,
    drawSum_congr fun p => (updFeed_still f h s false p).draw]
  exact ⟨hh, ha⟩

/-- A feed changes between two states that fit what its outlets are. -/
theorem Balanced.updState {s : State} (hb : Balanced s) {f : Feed} (hf : isFeed s f) {h : FeedRec → FeedRec}
    (hq : s.feedState f ≠ .queued) (hq' : (h (s.feedRec f)).state ≠ .queued)
    (hs : ∀ solo o, soundIn (s.feedState f) solo o → soundIn (h (s.feedRec f)).state solo o) :
    Balanced (updFeed f h s) := by
  have b := (apart_updFeed f h s).beside (hb.beside_of_not_queued hf hq)
  obtain ⟨hh, ha⟩ := updFeed_totals (f := f) (h := h) hb.held hb.active
  refine b.balanced (fun p hp => ?_) (by rwa [feedState_updFeed_same]) hh ha
  rw [updFeed_feedOf] at hp
  have ho := hs _ _ ((outletOk_of_feed hp).1 (hb.outlets p))
  rw [feedState_updFeed_same]
  exact (updFeed_still f h s _ p).sound ho

/-- A stopping feed keeps stopping (R15). -/
theorem lowers_redirect {f : Feed} {s : State} (hf : isFeed s f) {c : StopCause} {d : Dest}
    (hst : s.feedState f = .stopping c d) (c' : StopCause) (d' : Dest) : Lowers s (redirect f c' d' s) := by
  intro hb
  refine ⟨hb.updState (h := fun r => { r with state := .stopping c' d' }) hf (by simp [hst]) (by simp)
    fun solo o ho => ?_, le_of_eq (setState_active s _ _), setState_budget s _ _⟩
  rw [hst] at ho
  exact (soundIn_stopping c' d' solo o).2 ((soundIn_stopping c d solo o).1 ho)

/-- A starting feed enters ON (R12, R123). -/
theorem lowers_enterOn {f : Feed} {s : State} (hf : isFeed s f) (hst : s.feedState f = .starting) :
    Lowers s (enterOn f s) := by
  intro hb
  refine ⟨hb.updState hf (by simp [hst]) (by simp) fun solo o ho => ?_, le_of_eq (updFeed_active s _ _),
    updFeed_budget s _ _⟩
  rw [hst] at ho
  exact (soundIn_powered rfl solo o).2 ((soundIn_powered rfl solo o).1 ho)

/-! ## A feed that holds nothing -/

/-- Everything but the state of the feed is balanced, the feed has no entry, and its outlets are idle. -/
structure Vacant (f : Feed) (s : State) : Prop where
  beside : Beside f s
  idle : ∀ p, s.feedOf p = some f → (s.outlet p).idle
  held : s.held = heldSum s
  active : s.active = drawSum s

theorem Balanced.vacant {s : State} (hb : Balanced s) {f : Feed} (hf : isFeed s f)
    (hst : (s.feedState f).holding = false) : Vacant f (dequeued f s) where
  beside := hb.beside hf
  idle p hp := (soundIn_idle hst _ _).1 ((outletOk_of_feed (s := s) hp).1 (hb.outlets p))
  held := hb.held
  active := hb.active

theorem Balanced.vacant_of_quiet {s : State} (hb : Balanced s) {f : Feed} (hf : isFeed s f)
    (hst : (s.feedState f).holding = false) (hq : s.feedState f ≠ .queued) : Vacant f s :=
  hb.dequeued_eq hq ▸ hb.vacant hf hst

theorem Vacant.updFeed {f : Feed} {s : State} (v : Vacant f s) (h : FeedRec → FeedRec) : Vacant f (updFeed f h s) where
  beside := (apart_updFeed f h s).beside v.beside
  idle p hp := by
    rw [updFeed_feedOf] at hp
    exact (updFeed_still f h s false p).idle (v.idle p hp)
  held := (updFeed_totals v.held v.active).1
  active := (updFeed_totals v.held v.active).2

/-- The feed settles in a state that holds nothing and has no entry. -/
theorem Vacant.settle {f : Feed} {s : State} (v : Vacant f s) {h : FeedRec → FeedRec}
    (hh : (h (s.feedRec f)).state.holding = false) (hq : (h (s.feedRec f)).state ≠ .queued) :
    Balanced (Machine.updFeed f h s) := by
  have v' := v.updFeed h
  rw [← feedState_updFeed_same] at hh hq
  exact v'.beside.balanced (fun p hp => (soundIn_idle hh _ _).2 (v'.idle p hp)) hq v'.held v'.active

/-- The entry the Admission Controller makes for a feed (R47). -/
def State.entryFor (s : State) (f : Feed) (o : Origin) : Entry :=
  { feed := f, amount := s.requestAmount f, base := s.priorityOf f, eff := s.priorityOf f,
    stamp := s.entryStamps + 1, origin := o, unfit := decide (s.budget < s.requestAmount f),
    aging := s.agingFor (s.priorityOf f) }

/-- Making an entry puts it into its place and counts the stamp. -/
theorem calm_makeEntry (f : Feed) (o : Origin) (s : State) :
    Calm { s with queue := insertBy entryBefore (s.entryFor f o) s.queue } (makeEntry f o s) :=
  calm_of_eq rfl rfl rfl rfl rfl rfl rfl rfl (fun _ h => h)

/-- The feed enters QUEUED with its entry (R9, R47). -/
theorem Vacant.enterQueued {f : Feed} {s : State} (v : Vacant f s) (o : Origin) : Balanced (enterQueued f o s) := by
  have v' := v.updFeed fun r => { r with state := .queued, backoff := none }
  exact (calm_makeEntry f o _).balanced (v'.beside.enter v'.idle (feedState_updFeed_same f _ s) v'.held v'.active
    rfl rfl rfl)

theorem enterQueued_active (f : Feed) (o : Origin) (s : State) : (enterQueued f o s).active = s.active :=
  updFeed_active s f _

/-- A feed that holds nothing and has no entry enters QUEUED (R9, R47). -/
theorem lowers_enterQueued {f : Feed} {s : State} (hf : isFeed s f) (hst : (s.feedState f).holding = false)
    (hq : s.feedState f ≠ .queued) (o : Origin) : Lowers s (enterQueued f o s) := fun hb =>
  ⟨(hb.vacant_of_quiet hf hst hq).enterQueued o, le_of_eq (enterQueued_active f o s), (fixed_enterQueued f o s).budget⟩

/-- A feed that holds nothing and has no entry changes to another such state. -/
theorem lowers_settle {f : Feed} {s : State} (hf : isFeed s f) (hst : (s.feedState f).holding = false)
    (hq : s.feedState f ≠ .queued) {h : FeedRec → FeedRec} (hh : (h (s.feedRec f)).state.holding = false)
    (hq' : (h (s.feedRec f)).state ≠ .queued) : Lowers s (updFeed f h s) := fun hb =>
  ⟨(hb.vacant_of_quiet hf hst hq).settle hh hq', le_of_eq (updFeed_active s _ _), updFeed_budget s _ _⟩

/-- A feed that holds nothing is withdrawn (R60). -/
theorem lowers_withdraw {f : Feed} {s : State} (hf : isFeed s f) (hst : (s.feedState f).holding = false) :
    Lowers s (withdraw f s) := fun hb =>
  ⟨(hb.vacant hf hst).settle (h := fun r => { r with state := .off }) rfl (by simp),
    le_of_eq (setState_active _ f .off), setState_budget _ f .off⟩

/-- A feed in RETRY_WAIT gives its retry up (R10). -/
theorem lowers_leaveRetry {f : Feed} {s : State} (hf : isFeed s f) (hst : s.feedState f = .retryWait) :
    Lowers s (leaveRetry f s) :=
  lowers_settle hf (by rw [hst]; rfl) (by simp [hst]) rfl (by simp)

/-! ## The return of an allocation (R7, R36) -/

theorem returnAlloc_outlet (p q : OutletId) (s : State) :
    (returnAlloc p s).outlet q = if q = p then returned (s.outlet p) else s.outlet q :=
  setOutlet_outlet s p q _

theorem feedState_returnAlloc (p : OutletId) (s : State) (f : Feed) :
    (returnAlloc p s).feedState f = s.feedState f :=
  feedState_updOutlet (h := returned) s rfl f

theorem apart_returnAlloc {p : OutletId} {s : State} {f : Feed} (hp : s.feedOf p = some f) :
    Apart f s (returnAlloc p s) where
  activeMap := rfl
  stagedMap := rfl
  budget := rfl
  queue := rfl
  claim := rfl
  state g _ := feedState_returnAlloc p s g
  outlet q hq := by
    rw [returnAlloc_outlet, if_neg fun e : q = p => hq (e ▸ hp)]
    exact Still.refl _ _

/-- An outlet in STOPPING returns what it holds: the held total falls by it, the active total does not change. -/
theorem returnAlloc_totals {p : OutletId} {s : State} (hh : s.held = heldSum s) (ha : s.active = drawSum s)
    (hsw : (s.outlet p).swEn = false) :
    (returnAlloc p s).held = heldSum (returnAlloc p s) ∧ (returnAlloc p s).active = drawSum (returnAlloc p s) := by
  have hother : ∀ q, q ∉ [p] → (returnAlloc p s).outlet q = s.outlet q := fun q hq => by
    rw [returnAlloc_outlet, if_neg (by simpa using hq)]
  have hself : (returnAlloc p s).outlet p = returned (s.outlet p) := by rw [returnAlloc_outlet, if_pos rfl]
  constructor
  · have hc := outletSum_change (List.nodup_singleton p) (c := fun q => (s.outlet q).alloc)
      (c' := fun q => ((returnAlloc p s).outlet q).alloc) fun q hq => by rw [hother q hq]
    simp only [List.map_cons, List.map_nil, List.sum_cons, List.sum_nil, hself] at hc
    show s.held - (s.outlet p).alloc = heldSum _
    have hz : (returned (s.outlet p)).alloc = 0 := rfl
    unfold heldSum at *
    omega
  · show s.active = _
    rw [ha]
    refine (drawSum_congr fun q => ?_).symm
    rw [returnAlloc_outlet]
    split
    · next e => rw [e]; simp [OutletRec.draw, returned, hsw]
    · rfl

/-- A solo feed in STOPPING returns its allocation and holds nothing more. -/
theorem Balanced.vacant_returned {s : State} (hb : Balanced s) {p : OutletId} (hf : s.feedOf p = some (.solo p))
    {c : StopCause} {d : Dest} (hst : s.feedState (.solo p) = .stopping c d) :
    Vacant (.solo p) (returnAlloc p s) := by
  have ho := (outletOk_of_feed hf).1 (hb.outlets p)
  rw [hst] at ho
  obtain ⟨hsw, -, hrest⟩ := (soundIn_stopping c d _ _).1 ho
  obtain ⟨hh, ha⟩ := returnAlloc_totals hb.held hb.active hsw
  refine ⟨(apart_returnAlloc hf).beside (hb.beside_of_not_queued hf (by simp [hst])),
    fun q hq => ?_, hh, ha⟩
  have e : p = q := feedOf_solo (s := s) hq
  rw [returnAlloc_outlet, if_pos e.symm]
  exact ⟨hsw, rfl, hrest⟩

/-- A member of a stopping gang returns its allocation (R125). -/
theorem Balanced.returnAlloc {s : State} (hb : Balanced s) {p : OutletId} {g : GangId}
    (hf : s.feedOf p = some (.gang g)) {c : StopCause} {d : Dest} (hst : s.feedState (.gang g) = .stopping c d) :
    Balanced (returnAlloc p s) := by
  have ho : ∀ q, s.feedOf q = some (.gang g) → _ := fun q hq => (soundIn_stopping c d _ _).1
    (hst ▸ (outletOk_of_feed hq).1 (hb.outlets q))
  obtain ⟨hsw, -, hrest⟩ := ho p hf
  obtain ⟨hh, ha⟩ := returnAlloc_totals hb.held hb.active hsw
  have b := (apart_returnAlloc hf).beside (hb.beside_of_not_queued (isFeed_of_feedOf hf) (by simp [hst]))
  refine b.balanced (fun q hq => ?_) (by rw [feedState_returnAlloc, hst]; simp) hh ha
  rw [feedState_returnAlloc, hst, soundIn_stopping, returnAlloc_outlet]
  split
  · exact ⟨hsw, by simp [returned], hrest⟩
  · exact ho q hq

/-- A stopping feed whose outlets have all returned their allocation holds nothing. -/
theorem Balanced.vacant_discharged {s : State} (hb : Balanced s) {f : Feed} (hf : isFeed s f) {c : StopCause}
    {d : Dest} (hst : s.feedState f = .stopping c d) (hz : ∀ p ∈ s.outletsOf f, (s.outlet p).alloc = 0) :
    Vacant f s where
  beside := hb.beside_of_not_queued hf (by simp [hst])
  idle p hp := by
    obtain ⟨hsw, -, hrest⟩ := (soundIn_stopping c d _ _).1 (hst ▸ (outletOk_of_feed hp).1 (hb.outlets p))
    exact ⟨hsw, hz p (mem_outletsOf hp), hrest⟩
  held := hb.held
  active := hb.active

/-- A feed that holds nothing enters its destination (R16, R125). -/
theorem Vacant.enterDest {f : Feed} {s : State} (v : Vacant f s) (d : Dest) : Balanced (enterDest f d s) := by
  unfold Machine.enterDest
  cases d with
  | off => exact v.settle (h := fun r => { r with state := .off }) rfl (by simp)
  | queued => exact v.enterQueued .requeue
  | retryWait => exact v.settle (h := fun r => { r with state := .retryWait, backoff := _ }) rfl (by simp)
  | latched => exact v.settle (h := fun r => { r with state := .latched }) rfl (by simp)

theorem enterDest_active (f : Feed) (d : Dest) (s : State) : (enterDest f d s).active = s.active := by
  unfold enterDest
  cases d with
  | off => exact setState_active s f _
  | queued => exact enterQueued_active f _ s
  | retryWait => exact updFeed_active s f _
  | latched => exact setState_active s f _

/-! ## Stops (R13, R124) -/

theorem afterStop_outside {f : Feed} {c : StopCause} {d : Dest} {s t : State} (h : afterStop f c d s t)
    (hm : mapsOk s) (hf : isFeed s f) {p : OutletId} (hp : s.feedOf p ≠ some f) : t.outlet p = s.outlet p := by
  have h1 : f ≠ .solo p := fun e => hp (by rw [e] at hf ⊢; exact hf)
  have h2 : p ∉ s.outletsOf f := fun e => hp (feedOf_of_mem hm hf e)
  rw [h.1 p, if_neg h1, if_neg h2]

/-- An outlet of the stopped feed has stopped (R13). -/
theorem afterStop_inside {f : Feed} {c : StopCause} {d : Dest} {s t : State} (h : afterStop f c d s t)
    {p : OutletId} (hp : s.feedOf p = some f) :
    (t.outlet p).swEn = false ∧ (t.outlet p).alloc = (s.outlet p).alloc ∧
      (t.outlet p).profile = (s.outlet p).profile ∧ (t.outlet p).atRest := by
  have hm : p ∈ s.outletsOf f := mem_outletsOf hp
  rw [h.1 p]
  split
  · exact ⟨rfl, rfl, rfl, rfl, rfl, rfl, rfl, rfl⟩
  · exact ⟨rfl, rfl, rfl, rfl, rfl, rfl, rfl, rfl⟩

theorem afterStop_feedState {f : Feed} {c : StopCause} {d : Dest} {s t : State} (h : afterStop f c d s t) :
    t.feedState f = .stopping c d ∧ ∀ g, g ≠ f → t.feedState g = s.feedState g := by
  obtain ⟨ho, hg, -⟩ := h
  constructor
  · cases f with
    | solo p => simp [State.feedState, State.feedRec, ho p, stoppedFeed]
    | gang g => simp [State.feedState, State.feedRec, hg g, stoppedFeed]
  · intro g hne
    cases g with
    | solo q =>
      simp only [State.feedState, State.feedRec, ho q, if_neg hne.symm]
      split <;> rfl
    | gang k => simp only [State.feedState, State.feedRec, hg k, if_neg hne.symm]

theorem apart_afterStop {f : Feed} {c : StopCause} {d : Dest} {s t : State} (h : afterStop f c d s t)
    (hm : mapsOk s) (hf : isFeed s f) : Apart f s t where
  activeMap := by rw [h.2.2]
  stagedMap := by rw [h.2.2]
  budget := by rw [h.2.2]
  queue := by rw [h.2.2]
  claim := by rw [h.2.2]
  state := (afterStop_feedState h).2
  outlet p hp := by
    rw [afterStop_outside h hm hf hp]
    exact Still.refl _ _

/-- The outlets of a feed in STARTING or ON. -/
theorem Balanced.outlet_powered {s : State} (hb : Balanced s) {f : Feed} (hp : (s.feedState f).powered = true)
    {p : OutletId} (h : s.feedOf p = some f) :
    (s.outlet p).swEn = true ∧ (s.outlet p).alloc = (s.outlet p).profile.request :=
  (soundIn_powered hp _ _).1 ((outletOk_of_feed h).1 (hb.outlets p))

/-- The allocations of the stopped feed leave the active total (R35). -/
theorem afterStop_totals {f : Feed} {c : StopCause} {d : Dest} {s t : State} (h : afterStop f c d s t)
    (hb : Balanced s) (hf : isFeed s f) (hp : (s.feedState f).powered = true) :
    t.held = heldSum t ∧ t.active = drawSum t := by
  have hin : ∀ q ∈ s.outletsOf f, s.feedOf q = some f := fun q hq => feedOf_of_mem hb.maps hf hq
  have hout : ∀ q, q ∉ s.outletsOf f → t.outlet q = s.outlet q := fun q hq =>
    afterStop_outside h hb.maps hf fun e => hq (mem_outletsOf e)
  have ht : t.held = s.held ∧ t.active = s.active - s.allocOf f :=
    ⟨by rw [h.2.2], by rw [h.2.2]⟩
  constructor
  · rw [ht.1, hb.held]
    refine (heldSum_congr fun q => ?_).symm
    by_cases hq : s.feedOf q = some f
    · exact (afterStop_inside h hq).2.1
    · rw [afterStop_outside h hb.maps hf hq]
  · have hc := outletSum_change (outletsOf_nodup hb.maps f) (c := fun q => (s.outlet q).draw)
      (c' := fun q => (t.outlet q).draw) fun q hq => by rw [hout q hq]
    have h0 : (s.outletsOf f).map (fun q => (t.outlet q).draw) = (s.outletsOf f).map fun _ => 0 :=
      List.map_congr_left fun q hq => by simp [OutletRec.draw, (afterStop_inside h (hin q hq)).1]
    have h1 : (s.outletsOf f).map (fun q => (s.outlet q).draw) = (s.outletsOf f).map fun q => (s.outlet q).alloc :=
      List.map_congr_left fun q hq => by simp [OutletRec.draw, (hb.outlet_powered hp (hin q hq)).1]
    rw [h0, h1] at hc
    simp only [List.map_const', List.sum_replicate, smul_zero, Nat.add_zero] at hc
    rw [ht.2, hb.active]
    unfold drawSum State.allocOf
    omega

/-- A running feed stops (R13, R124). -/
theorem lowers_stopFeed {f : Feed} {s : State} (hf : isFeed s f) (hp : (s.feedState f).powered = true)
    (c : StopCause) (d : Dest) : Lowers s (stopFeed f c d s) := by
  intro hb
  have h := stopFeed_spec f c d s (outletsOf_nodup hb.maps f)
  have hnq : s.feedState f ≠ .queued := fun e => by rw [e] at hp; cases hp
  have m := apart_afterStop h hb.maps hf
  obtain ⟨hh, ha⟩ := afterStop_totals h hb hf hp
  obtain ⟨hst, -⟩ := afterStop_feedState h
  refine ⟨(m.beside (hb.beside_of_not_queued hf hnq)).balanced (fun p hq => ?_) (by simp [hst]) hh ha, ?_,
    m.budget⟩
  · rw [feedOf_congr m.activeMap] at hq
    obtain ⟨hsw, hal, hpr, hrest⟩ := afterStop_inside h hq
    rw [hst, soundIn_stopping, hal, hpr, (hb.outlet_powered hp hq).2]
    exact ⟨hsw, fun _ => rfl, hrest⟩
  · rw [h.2.2]
    exact Nat.sub_le _ _

theorem stopFeed_feedState_other {s : State} (hm : mapsOk s) (f : Feed) (c : StopCause) (d : Dest) {g : Feed}
    (hne : g ≠ f) : (stopFeed f c d s).feedState g = s.feedState g :=
  (afterStop_feedState (stopFeed_spec f c d s (outletsOf_nodup hm f))).2 g hne

/-! ## Faults (R107, R126) -/

theorem calm_recordFault (f : Feed) (p : OutletId) (c : FaultCause) (s : State) : Calm s (recordFault f p c s) := by
  have h := (calm_updFeed f (h := fun r => { r with count := countUp r.count }) s fun _ => rfl).trans
    (calm_updOutlet (p := p) (h := fun o => { o with lastCause := some c }) _ rfl ⟨rfl, rfl, rfl, fun _ h => h⟩)
  cases f with
  | solo q => exact h
  | gang g => exact h.trans (calm_updGang (h := fun r => { r with lastMember := some p }) _ rfl)

theorem calm_raiseFault (f : Feed) (p : OutletId) (s : State) : Calm s (raiseFault f p s) := by
  cases f with
  | solo q => exact calm_raise _ _ s
  | gang g => exact (calm_raise _ _ s).trans (calm_raise _ _ _)

/-- A running feed stops after calm changes. -/
theorem lowers_stop_of_calm {s t : State} (h : Calm s t) {f : Feed} (hf : isFeed s f)
    (hp : (s.feedState f).powered = true)
    (c : StopCause) (d : Dest) : Lowers s (stopFeed f c d t) :=
  h.lowers.trans (lowers_stopFeed ((h.isFeed f).2 hf) (by rw [h.state]; exact hp) c d)

theorem lowers_faultFeed {f : Feed} {s : State} (hf : isFeed s f) (hp : (s.feedState f).powered = true)
    (p : OutletId) (c : FaultCause) : Lowers s (faultFeed f p c s) := by
  have h := calm_recordFault f p c s
  unfold faultFeed
  dsimp only
  split
  · exact ((lowers_stop_of_calm h hf hp _ _).trans (calm_raiseFault _ _ _).lowers).trans (calm_raise _ _ _).lowers
  · exact ((lowers_stop_of_calm (h.trans (calm_completeOp _ _ _ _)) hf hp _ _).trans
      (calm_raiseFault _ _ _).lowers).trans (calm_raise _ _ _).lowers

theorem lowers_takeFault (p : OutletId) (c : FaultCause) (s : State) : Lowers s (takeFault p c s) := by
  unfold takeFault
  split
  · exact Lowers.refl s
  · next f hf =>
    split
    · next hp => exact lowers_faultFeed (isFeed_of_feedOf hf) hp p c
    · exact Lowers.refl s

/-! ## The overcurrent condition (R98 to R103) -/

/-- A timer or measurement of a powered outlet starts. -/
theorem calm_powered {p : OutletId} {h : OutletRec → OutletRec} {s : State} (hp : s.outletPowered p = true)
    (hs : (h (s.outlet p)).own.state = (s.outlet p).own.state) (hsw : (h (s.outlet p)).swEn = (s.outlet p).swEn)
    (hal : (h (s.outlet p)).alloc = (s.outlet p).alloc)
    (hr : (h (s.outlet p)).profile.request = (s.outlet p).profile.request) : Calm s (updOutlet p h s) :=
  calm_updOutlet s hs ⟨hsw, hal, hr, fun hn => by rw [hp] at hn; cases hn⟩

theorem calm_widthOff (p : OutletId) (s : State) : Calm s (updOutlet p (fun o => { o with width := none }) s) :=
  calm_updOutlet s rfl ⟨rfl, rfl, rfl, fun _ ⟨h1, h2, h3, h4, _⟩ => ⟨h1, h2, h3, h4, rfl⟩⟩

theorem calm_pairOff (p : OutletId) (s : State) : Calm s (updOutlet p (fun o => { o with pairWindow := none }) s) :=
  calm_updOutlet s rfl ⟨rfl, rfl, rfl, fun _ ⟨h1, h2, _, h4, h5⟩ => ⟨h1, h2, rfl, h4, h5⟩⟩

theorem calm_overdrawOff (p : OutletId) (s : State) :
    Calm s (updOutlet p (fun o => { o with overdrawWindow := none }) s) :=
  calm_updOutlet s rfl ⟨rfl, rfl, rfl, fun _ ⟨h1, h2, h3, _, h5⟩ => ⟨h1, h2, h3, rfl, h5⟩⟩

theorem calm_rampOff (p : OutletId) (s : State) : Calm s (updOutlet p (fun o => { o with ramp := none }) s) :=
  calm_updOutlet s rfl ⟨rfl, rfl, rfl, fun _ ⟨_, h2, h3, h4, h5⟩ => ⟨rfl, h2, h3, h4, h5⟩⟩

theorem calm_blankingOff (p : OutletId) (s : State) : Calm s (updOutlet p (fun o => { o with blanking := none }) s) :=
  calm_updOutlet s rfl ⟨rfl, rfl, rfl, fun _ ⟨h1, _, h3, h4, h5⟩ => ⟨h1, rfl, h3, h4, h5⟩⟩

/-- A qualified pulse at a powered outlet (R101, R102). -/
theorem lowers_qualify {p : OutletId} {s : State} (hp : s.outletPowered p = true) : Lowers s (qualify p s) := by
  have h := calm_widthOff p s
  unfold qualify
  dsimp only
  split
  · exact h.lowers.trans (lowers_takeFault p _ _)
  · split
    · exact (h.trans (calm_powered (by rw [h.outletPowered]; exact hp) rfl rfl rfl rfl)).lowers
    · exact (h.trans (calm_pairOff p _)).lowers.trans (lowers_takeFault p _ _)

theorem lowers_examine {p : OutletId} {s : State} (hp : s.outletPowered p = true) : Lowers s (examine p s) := by
  unfold examine
  split
  · exact lowers_qualify hp
  · exact (calm_powered hp rfl rfl rfl rfl).lowers

end Sys2Proof.Machine
end


/-! # The budget law under grants, preemption and shedding (O54) -/

section
namespace Sys2Proof.Machine

open Sys2Proof.Safety

/-! ## Grants (R11, R34, R59, R122) -/

theorem afterGrantOf_outside {f : Feed} {s t : State} (h : afterGrantOf f s t) (hm : mapsOk s) (hf : isFeed s f)
    {p : OutletId} (hp : s.feedOf p ≠ some f) : t.outlet p = s.outlet p := by
  have h1 : f ≠ .solo p := fun e => hp (by rw [e] at hf ⊢; exact hf)
  have h2 : p ∉ s.outletsOf f := fun e => hp (feedOf_of_mem hm hf e)
  rw [h.1 p, if_neg h1, if_neg h2]

/-- An outlet of the granted feed is on with its request for an allocation (R11). -/
theorem afterGrantOf_inside {f : Feed} {s t : State} (h : afterGrantOf f s t) {p : OutletId}
    (hp : s.feedOf p = some f) :
    (t.outlet p).swEn = true ∧ (t.outlet p).alloc = (s.outlet p).profile.request ∧
      (t.outlet p).profile = (s.outlet p).profile ∧ (t.outlet p).pairWindow = (s.outlet p).pairWindow := by
  have hm : p ∈ s.outletsOf f := mem_outletsOf hp
  rw [h.1 p]
  split <;> exact ⟨rfl, rfl, rfl, rfl⟩

theorem afterGrantOf_feedState {f : Feed} {s t : State} (h : afterGrantOf f s t) :
    t.feedState f = .starting ∧ ∀ g, g ≠ f → t.feedState g = s.feedState g := by
  obtain ⟨ho, hg, -⟩ := h
  constructor
  · cases f with
    | solo p => simp [State.feedState, State.feedRec, ho p]
    | gang g => simp [State.feedState, State.feedRec, hg g]
  · intro g hne
    cases g with
    | solo q =>
      simp only [State.feedState, State.feedRec, ho q, if_neg hne.symm]
      split <;> rfl
    | gang k => simp only [State.feedState, State.feedRec, hg k, if_neg hne.symm]

theorem apart_afterGrantOf {f : Feed} {s t : State} (h : afterGrantOf f s t) (hm : mapsOk s) (hf : isFeed s f) :
    Apart f s t where
  activeMap := by rw [h.2.2]
  stagedMap := by rw [h.2.2]
  budget := by rw [h.2.2]
  queue := by rw [h.2.2]
  claim := by rw [h.2.2]
  state := (afterGrantOf_feedState h).2
  outlet p hp := by
    rw [afterGrantOf_outside h hm hf hp]
    exact Still.refl _ _

/-- Both totals rise by the request amount (R34). -/
theorem Vacant.grant_totals {f : Feed} {s t : State} (v : Vacant f s) (h : afterGrantOf f s t) :
    t.held = heldSum t ∧ t.active = drawSum t := by
  have hin : ∀ q ∈ s.outletsOf f, s.feedOf q = some f := fun q hq => feedOf_of_mem v.beside.maps v.beside.feed hq
  have hout : ∀ q, q ∉ s.outletsOf f → t.outlet q = s.outlet q := fun q hq =>
    afterGrantOf_outside h v.beside.maps v.beside.feed fun e => hq (mem_outletsOf e)
  have hnd := outletsOf_nodup v.beside.maps f
  have hheld := outletSum_change hnd (c := fun q => (s.outlet q).alloc) (c' := fun q => (t.outlet q).alloc)
    fun q hq => by rw [hout q hq]
  have hdraw := outletSum_change hnd (c := fun q => (s.outlet q).draw) (c' := fun q => (t.outlet q).draw)
    fun q hq => by rw [hout q hq]
  have h0 : (s.outletsOf f).map (fun q => (s.outlet q).alloc) = (s.outletsOf f).map fun _ => 0 :=
    List.map_congr_left fun q hq => (v.idle q (hin q hq)).2.1
  have h0' : (s.outletsOf f).map (fun q => (s.outlet q).draw) = (s.outletsOf f).map fun _ => 0 :=
    List.map_congr_left fun q hq => by simp [OutletRec.draw, (v.idle q (hin q hq)).1]
  have h1 : (s.outletsOf f).map (fun q => (t.outlet q).alloc) = (s.outletsOf f).map fun q =>
      (s.outlet q).profile.request :=
    List.map_congr_left fun q hq => (afterGrantOf_inside h (hin q hq)).2.1
  have h1' : (s.outletsOf f).map (fun q => (t.outlet q).draw) = (s.outletsOf f).map fun q =>
      (s.outlet q).profile.request :=
    List.map_congr_left fun q hq => by
      obtain ⟨hsw, hal, -⟩ := afterGrantOf_inside h (hin q hq)
      simp [OutletRec.draw, hsw, hal]
  rw [h0, h1] at hheld
  rw [h0', h1'] at hdraw
  simp only [List.map_const', List.sum_replicate, smul_zero, Nat.add_zero] at hheld hdraw
  have hth : t.held = s.held + s.requestAmount f := by rw [h.2.2]
  have hta : t.active = s.active + s.requestAmount f := by rw [h.2.2]
  rw [hth, hta, v.held, v.active]
  exact ⟨hheld.symm, hdraw.symm⟩

theorem Vacant.grant {f : Feed} {s t : State} (v : Vacant f s) (h : afterGrantOf f s t) : Balanced t := by
  have m := apart_afterGrantOf h v.beside.maps v.beside.feed
  obtain ⟨hst, -⟩ := afterGrantOf_feedState h
  obtain ⟨hh, ha⟩ := v.grant_totals h
  refine (m.beside v.beside).balanced (fun p hp => ?_) (by simp [hst]) hh ha
  rw [feedOf_congr m.activeMap] at hp
  obtain ⟨hsw, hal, hpr, -⟩ := afterGrantOf_inside h hp
  rw [hst, soundIn_powered rfl, hal, hpr]
  exact ⟨hsw, rfl⟩

/-! ## The fault inputs at the entry (R99, R104) -/

/-- Without a fault at the entry an outlet starts its measurement or opens its pair window, and no other changes. -/
theorem examineAtEntry_calm {p : OutletId} {s : State} (hp : s.outletPowered p = true)
    (hw : (s.outlet p).pairWindow = none) (hf : entryFault (s.outlet p) = none) :
    Calm s (examineAtEntry s p) ∧ ∀ q, q ≠ p → (examineAtEntry s p).outlet q = s.outlet q := by
  have hwidth := calm_widthOff p s
  unfold examineAtEntry
  split
  · next hc =>
    unfold examine
    split
    · next h0 =>
      have hpair : (s.outlet p).profile.tripMode = .pair := by
        cases hm : (s.outlet p).profile.tripMode with
        | pair => rfl
        | single => cases hs : (s.outlet p).shortN <;> simp [entryFault, hc, h0, hm, hs] at hf
      unfold qualify
      simp only [updOutlet_outlet_same, hpair, hw]
      refine ⟨hwidth.trans (calm_powered (by rw [hwidth.outletPowered]; exact hp) rfl rfl rfl rfl), fun q hq => ?_⟩
      rw [updOutlet_outlet_other _ _ _ _ hq, updOutlet_outlet_other _ _ _ _ hq]
    · exact ⟨calm_powered hp rfl rfl rfl rfl, fun q hq => updOutlet_outlet_other _ _ _ _ hq⟩
  · exact ⟨Calm.refl s, fun _ _ => rfl⟩

theorem examineAll_calm {ps : List OutletId} (hnd : ps.Nodup) {s : State}
    (h : ∀ p ∈ ps, s.outletPowered p = true ∧ (s.outlet p).pairWindow = none ∧ entryFault (s.outlet p) = none) :
    Calm s (ps.foldl examineAtEntry s) := by
  induction ps generalizing s with
  | nil => exact Calm.refl s
  | cons p ps ih =>
    obtain ⟨hp, hnd⟩ := List.nodup_cons.1 hnd
    obtain ⟨h1, h2, h3⟩ := h p (by simp)
    obtain ⟨hc, ho⟩ := examineAtEntry_calm h1 h2 h3
    refine hc.trans (ih hnd fun q hq => ?_)
    rw [hc.outletPowered, ho q fun e => hp (e ▸ hq)]
    exact h q (by simp [hq])

/-- What the fault inputs do to a feed just granted. -/
theorem lowers_afterGrant {ps : List OutletId} (hnd : ps.Nodup) {s : State}
    (h : ∀ p ∈ ps, s.outletPowered p = true ∧ (s.outlet p).pairWindow = none) : Lowers s (afterGrant ps s) := by
  unfold afterGrant
  split
  · split
    · exact lowers_takeFault _ _ s
    · exact Lowers.refl s
  · next hno =>
    refine (examineAll_calm hnd fun p hp => ⟨(h p hp).1, (h p hp).2, ?_⟩).lowers
    simpa using List.find?_eq_none.1 hno p hp

/-- An entry that fits leaves the held total within the budget (R33). -/
theorem held_le_of_fits {s : State} {e : Entry} (h : s.fits e = true) : s.held + e.amount ≤ s.budget := by
  have h' : (e.amount : Int) ≤ s.headroom e.feed := of_decide_eq_true h
  unfold State.headroom at h'
  split at h'
  · split at h' <;> omega
  · omega

/-- The grant of an entry that fits (R59). -/
theorem powerOk_grantEntry {s : State} (h : powerOk s) {e : Entry} (he : e ∈ s.queue) (hfit : s.fits e = true) :
    powerOk (grantEntry e s) := by
  obtain ⟨hb, -⟩ := (powerOk_iff s).1 h
  obtain ⟨hf, hst, ham, -⟩ := hb.queue.1 e he
  obtain ⟨t, hg, heq⟩ := grantEntry_spec e s hb.maps
  have v : Vacant e.feed (dequeued e.feed s) := hb.vacant hf (by rw [hst]; rfl)
  have ht := v.grant hg
  have m := apart_afterGrantOf hg v.beside.maps v.beside.feed
  rw [heq]
  have hactive : t.active ≤ t.budget := by
    have h1 := held_le_of_fits hfit
    have h2 := hb.active_le_held
    have h3 : t.active = s.active + s.requestAmount e.feed := by rw [hg.2.2]; rfl
    have h4 : t.budget = s.budget := m.budget
    omega
  refine ((calm_raise _ _ t).lowers.trans (lowers_afterGrant (outletsOf_nodup hb.maps e.feed) fun p hp => ?_)).powerOk
    ((powerOk_iff t).2 ⟨ht, hactive⟩)
  have hp' : s.feedOf p = some e.feed := feedOf_of_mem hb.maps hf hp
  constructor
  · rw [(calm_raise _ _ t).outletPowered, outletPowered_of_feed ((feedOf_congr m.activeMap p).trans hp'),
      (afterGrantOf_feedState hg).1]
    rfl
  · rw [raise_outlet, (afterGrantOf_inside hg hp').2.2.2]
    exact (v.idle p hp').2.2.2.2.1

/-! ## The claimant stage and the walk (R55 to R57) -/

theorem powerOk_claimantStage {s : State} (h : powerOk s) : powerOk (claimantStage s) := by
  unfold claimantStage
  split
  · exact h
  · split
    · exact h
    · next e he =>
      split
      · next hfit => exact powerOk_grantEntry h (List.mem_of_find?_eq_some he) hfit
      · exact h

/-- What the walk starts from and goes on with: the entries ahead are entries of the queue, each feed's once, and the
blocked entry met so far is an entry of the queue and none of them. -/
structure WalkReady (es : List Entry) (b : Option Entry) (s : State) : Prop where
  power : powerOk s
  ahead : ∀ e ∈ es, e ∈ s.queue
  nodup : (es.map Entry.feed).Nodup
  blocked : ∀ x ∈ b, x ∈ s.queue ∧ x.feed ∉ es.map Entry.feed

theorem WalkReady.tail {e : Entry} {es : List Entry} {b : Option Entry} {s : State} (h : WalkReady (e :: es) b s) :
    WalkReady es b s where
  power := h.power
  ahead x hx := h.ahead x (by simp [hx])
  nodup := (List.nodup_cons.1 h.nodup).2
  blocked x hx := by
    obtain ⟨hq, hn⟩ := h.blocked x hx
    exact ⟨hq, fun hm => hn (by rw [List.map_cons]; exact List.mem_cons_of_mem _ hm)⟩

/-- The entry is granted: it alone leaves the queue. -/
theorem WalkReady.granted {e : Entry} {es : List Entry} {b : Option Entry} {s : State} (h : WalkReady (e :: es) b s)
    (hfit : s.fits e = true) : WalkReady es b (grantEntry e s) := by
  obtain ⟨hne, -⟩ := List.nodup_cons.1 h.nodup
  have ht := h.tail
  have hq := (grantEntry_queue e s h.power.1).1
  refine ⟨powerOk_grantEntry h.power (h.ahead e (by simp)) hfit, fun x hx => ?_, ht.nodup, fun x hx => ?_⟩
  · rw [hq, mem_dropEntry]
    exact ⟨ht.ahead x hx, fun hf => hne (hf ▸ List.mem_map_of_mem hx)⟩
  · obtain ⟨hxq, hn⟩ := h.blocked x hx
    rw [hq, mem_dropEntry]
    exact ⟨⟨hxq, fun hf => hn (by simp [hf])⟩, (ht.blocked x hx).2⟩

/-- The entry is blocked: it is kept unless another was blocked before. -/
theorem WalkReady.blocks {e : Entry} {es : List Entry} {b : Option Entry} {s : State} (h : WalkReady (e :: es) b s) :
    WalkReady es (b.orElse fun _ => some e) s := by
  refine ⟨h.power, h.tail.ahead, h.tail.nodup, fun x hx => ?_⟩
  cases b with
  | some y => exact h.tail.blocked x hx
  | none =>
    cases hx
    exact ⟨h.ahead e (by simp), (List.nodup_cons.1 h.nodup).1⟩

/-- The walk keeps the budget law, and its blocked entry is still queued. -/
theorem walk_ready (m : AdmissionMode) {es : List Entry} {b : Option Entry} {s : State} (h : WalkReady es b s) :
    powerOk (walk m es b s).1 ∧ ∀ x ∈ (walk m es b s).2, x ∈ (walk m es b s).1.queue := by
  induction es generalizing b s with
  | nil => exact ⟨h.power, fun x hx => (h.blocked x hx).1⟩
  | cons e es ih =>
    rw [walk_cons]
    split
    · exact ih h.tail
    · split
      · next hfit => exact ih (h.granted hfit)
      · cases m with
        | strict => exact ⟨h.power, fun x hx => (h.blocks.blocked x hx).1⟩
        | fitFirst => exact ih h.blocks

/-! ## Running feeds in victim order (R68) -/

theorem leads_iff {s : State} {p : OutletId} {f : Feed} :
    s.leads p = some f ↔ s.feedOf p = some f ∧ (s.outletsOf f).head? = some p := by
  unfold State.leads
  split
  · next g hg =>
    rw [hg]
    constructor
    · intro h
      split at h
      · next hh => cases h; exact ⟨rfl, hh⟩
      · cases h
    · rintro ⟨h, hh⟩
      cases h
      rw [if_pos hh]
  · next hn => simp [hn]

theorem feeds_nodup (s : State) : s.feeds.Nodup := by
  refine List.Nodup.filterMap (fun p q f hp hq => ?_) (by decide : allOutlets.Nodup)
  have hp' := (leads_iff.1 hp).2
  rw [(leads_iff.1 hq).2] at hp'
  exact (Option.some.inj hp').symm

/-- Under a valid map `feeds` lists the feeds (R1). -/
theorem mem_feeds {s : State} (h : mapsOk s) {f : Feed} : f ∈ s.feeds ↔ isFeed s f := by
  constructor
  · intro hf
    obtain ⟨p, -, hp⟩ := List.mem_filterMap.1 hf
    exact isFeed_of_feedOf (leads_iff.1 hp).1
  · intro hf
    have hne : s.outletsOf f ≠ [] := by
      cases f with
      | solo p => simp [State.outletsOf]
      | gang g =>
        obtain ⟨ms, hms⟩ := Option.isSome_iff_exists.1 hf
        have hl := (h.2.1.1 g ms hms).2.1
        intro he
        simp only [State.outletsOf, hms, Option.getD_some] at he
        simp [he] at hl
    obtain ⟨p, ps, hps⟩ := List.exists_cons_of_ne_nil hne
    exact List.mem_filterMap.2 ⟨p, mem_allOutlets p,
      leads_iff.2 ⟨feedOf_of_mem h hf (by simp [hps]), by simp [hps]⟩⟩

theorem foldl_insertBy_perm {α : Type} (before : α → α → Bool) (l acc : List α) :
    (l.foldl (fun a r => insertBy before r a) acc).Perm (l ++ acc) := by
  induction l generalizing acc with
  | nil => exact List.Perm.refl _
  | cons x l ih =>
    refine (ih _).trans (((insertBy_perm before x acc).append_left l).trans ?_)
    exact List.perm_middle

/-- The victims are the feeds in STARTING and ON, each once (R68). -/
theorem victims_feeds (s : State) :
    (s.victims.map Running.feed).Perm (s.feeds.filter fun f => (s.feedState f).powered) := by
  unfold State.victims
  refine ((foldl_insertBy_perm victimBefore _ []).map Running.feed).trans ?_
  rw [List.append_nil, List.map_map]
  exact List.Perm.of_eq (List.map_id _)

/-- Feeds that run, each listed once. -/
structure Runners (l : List Running) (s : State) : Prop where
  nodup : (l.map Running.feed).Nodup
  running : ∀ r ∈ l, isFeed s r.feed ∧ (s.feedState r.feed).powered = true

theorem victims_runners {s : State} (h : mapsOk s) : Runners s.victims s where
  nodup := (victims_feeds s).nodup_iff.2 ((feeds_nodup s).filter _)
  running r hr := by
    have hm := (victims_feeds s).subset (List.mem_map_of_mem hr)
    obtain ⟨hf, hp⟩ := List.mem_filter.1 hm
    exact ⟨(mem_feeds h).1 hf, hp⟩

theorem Runners.sublist {l l' : List Running} {s : State} (h : Runners l s) (hl : l'.Sublist l) : Runners l' s :=
  ⟨h.nodup.sublist (hl.map _), fun r hr => h.running r (hl.subset hr)⟩

theorem lowers_stopVictim {f : Feed} {s : State} (hf : isFeed s f) (hp : (s.feedState f).powered = true)
    (c : StopCause) : Lowers s (stopVictim c f s) := by
  have h := (lowers_stopFeed hf hp c (destOf (s.shedPolicyOf f))).trans
    ((calm_raise (subjectOf f) .shed _).trans (calm_raise (subjectOf f) .state _)).lowers
  unfold stopVictim
  dsimp only
  split
  · exact h.trans (calm_completeOp _ _ _ _).lowers
  · exact h

theorem stopVictim_feedState_other {s : State} (hm : mapsOk s) (c : StopCause) {f g : Feed} (hne : g ≠ f) :
    (stopVictim c f s).feedState g = s.feedState g := by
  have h : (raise (subjectOf f) .state (raise (subjectOf f) .shed
      (stopFeed f c (destOf (s.shedPolicyOf f)) s))).feedState g = s.feedState g := by
    rw [(calm_raise _ _ _).state, (calm_raise _ _ _).state]
    exact stopFeed_feedState_other hm f c _ hne
  unfold stopVictim
  dsimp only
  split
  · rw [(calm_completeOp _ _ _ _).state]
    exact h
  · exact h

theorem stopVictim_feedState_same {s : State} (hm : mapsOk s) (c : StopCause) (f : Feed) :
    ((stopVictim c f s).feedState f).powered = false := by
  have h : (stopFeed f c (destOf (s.shedPolicyOf f)) s).feedState f = .stopping c (destOf (s.shedPolicyOf f)) :=
    (afterStop_feedState (stopFeed_spec f c _ s (outletsOf_nodup hm f))).1
  unfold stopVictim
  dsimp only
  split
  · rw [(calm_completeOp _ _ _ _).state, (calm_raise _ _ _).state, (calm_raise _ _ _).state, h]
    rfl
  · rw [(calm_raise _ _ _).state, (calm_raise _ _ _).state, h]
    rfl

/-- After the first victim's stop the others still run. -/
theorem Runners.stop {r : Running} {l : List Running} {s : State} (h : Runners (r :: l) s) (hm : mapsOk s)
    (c : StopCause) : Runners l (stopVictim c r.feed s) := by
  obtain ⟨hr, hnd⟩ := List.nodup_cons.1 h.nodup
  refine ⟨hnd, fun x hx => ?_⟩
  obtain ⟨hf, hp⟩ := h.running x (by simp [hx])
  rw [isFeed_congr (fixed_stopVictim c r.feed s).activeMap,
    stopVictim_feedState_other hm c fun e : x.feed = r.feed => hr (e ▸ List.mem_map_of_mem hx)]
  exact ⟨hf, hp⟩

theorem lowers_stopVictims (c : StopCause) (l : List Running) {s : State} (h : Runners l s) :
    Lowers s (l.foldl (fun t r => stopVictim c r.feed t) s) := by
  induction l generalizing s with
  | nil => exact Lowers.refl s
  | cons r l ih =>
    intro hb
    obtain ⟨hf, hp⟩ := h.running r (by simp)
    exact ((lowers_stopVictim hf hp c).trans (ih (h.stop hb.maps c))) hb

/-! ## Preemption (R72 to R75) -/

theorem shortestRun_prefix {need : Int} {avail : Int} {l vs : List Running} (h : shortestRun need avail l = some vs) :
    vs <+: l := by
  induction l generalizing avail vs with
  | nil =>
    unfold shortestRun at h
    split at h
    · cases h; exact List.nil_prefix
    · cases h
  | cons r l ih =>
    unfold shortestRun at h
    split at h
    · cases h; exact List.nil_prefix
    · split at h
      · next ws hws =>
        cases h
        exact (List.prefix_cons_inj r).2 (ih hws)
      · cases h

theorem keepsQueue_stopVictim (c : StopCause) (f : Feed) (s : State) : KeepsQueue s (stopVictim c f s) := by
  have h := (keepsQueue_stopFeed f c (destOf (s.shedPolicyOf f)) s).trans
    ((keepsQueue_raise (subjectOf f) .shed _).trans (keepsQueue_raise (subjectOf f) .state _))
  unfold stopVictim
  dsimp only
  split
  · exact h.trans (keepsQueue_completeOp _ _ _ _)
  · exact h

/-- A queued entry that is not unfit may hold the claim (R76). -/
theorem Balanced.claimed {s : State} (h : Balanced s) {e : Entry} (he : e ∈ s.queue) (hu : e.unfit = false) :
    Balanced { s with claim := some { feed := e.feed, amount := e.amount } } where
  maps := h.maps
  outlets := h.outlets
  queue := h.queue
  claim c hc := by
    cases hc
    exact ⟨e, he, rfl, rfl, hu⟩
  held := h.held
  active := h.active

theorem powerOk_preempt {s : State} (h : powerOk s) {e : Entry} (he : e ∈ s.queue) : powerOk (preempt e s) := by
  unfold preempt
  split
  · next hc =>
    have hu : e.unfit = false := by simp only [Bool.and_eq_true, Bool.not_eq_true'] at hc; exact hc.1.2
    split
    · exact h
    · next vs hvs =>
      obtain ⟨hb, hle⟩ := (powerOk_iff s).1 h
      have hr : Runners vs s := (victims_runners hb.maps).sublist
        ((shortestRun_prefix hvs).sublist.trans List.filter_sublist)
      obtain ⟨hb', hle', hbud⟩ := lowers_stopVictims .preempt vs hr hb
      have hq := (KeepsQueue.foldl (fun t r => keepsQueue_stopVictim .preempt (Running.feed r) t) vs s).queue
      exact (powerOk_iff _).2 ⟨hb'.claimed (hq ▸ he) hu, hle'.trans (hle.trans_eq hbud.symm)⟩
  · exact h

/-- The admission pass keeps the budget law (R54). -/
theorem powerOk_pass {s : State} (h : powerOk s) : powerOk (pass s) := by
  unfold pass
  split
  · exact h
  · have h1 := powerOk_claimantStage h
    obtain ⟨hw, hx⟩ := walk_ready (claimantStage s).policy.mode
      (⟨h1, fun _ he => he, h1.2.2.1.2.1, fun _ hx => by cases hx⟩ : WalkReady (claimantStage s).queue none _)
    dsimp only
    split
    · exact hw
    · next e he => exact powerOk_preempt hw (hx e he)

theorem powerOk_passIf {s : State} (h : powerOk s) (b : Bool) : powerOk (passIf b s) := by
  cases b
  · exact h
  · exact powerOk_pass h

/-! ## Shedding and the budget (R38, R39, R70) -/

/-- With no feed in STARTING or ON the active total is 0. -/
theorem Balanced.active_zero {s : State} (h : Balanced s) (hp : ∀ f, isFeed s f → (s.feedState f).powered = false) :
    s.active = 0 := by
  rw [h.active, drawSum, outletSum_eq]
  refine Finset.sum_eq_zero fun p _ => ?_
  have hsw : (s.outlet p).swEn = false := by
    cases hf : s.feedOf p with
    | none => exact ((outletOk_unmapped hf).1 (h.outlets p)).1
    | some f => rw [(outletOk_holds (h.outlets p)).1, outletPowered_of_feed hf, hp f (isFeed_of_feedOf hf)]
  simp [OutletRec.draw, hsw]

/-- Shedding goes on until the active total is within the budget, at the latest when no feed runs (R70). -/
theorem powerOk_shed (l : List Running) {t : State × Nat} (hb : Balanced t.1) (hr : Runners l t.1)
    (hall : t.1.active ≤ t.1.budget ∨
      ∀ f, isFeed t.1 f → (t.1.feedState f).powered = true → f ∈ l.map Running.feed) :
    powerOk (l.foldl shedStep t).1 := by
  induction l generalizing t with
  | nil =>
    refine (powerOk_iff _).2 ⟨hb, hall.elim id fun h => ?_⟩
    have h0 := hb.active_zero fun f hf => Bool.eq_false_iff.2 fun hp => by simpa using h f hf hp
    show t.1.active ≤ t.1.budget
    omega
  | cons r l ih =>
    rw [List.foldl_cons]
    by_cases hle : t.1.active ≤ t.1.budget
    · rw [shedStep, if_pos hle]
      exact ih hb (hr.sublist (List.sublist_cons_self r l)) (.inl hle)
    · rw [shedStep, if_neg hle]
      obtain ⟨hf, hp⟩ := hr.running r (by simp)
      refine ih (lowers_stopVictim hf hp .shed hb).1 (hr.stop hb.maps .shed) (.inr fun f hf' hp' => ?_)
      have hne : f ≠ r.feed := fun e => by
        rw [e, stopVictim_feedState_same hb.maps] at hp'
        cases hp'
      rw [isFeed_congr (fixed_stopVictim _ _ _).activeMap] at hf'
      rw [stopVictim_feedState_other hb.maps _ hne] at hp'
      have := hall.resolve_left hle f hf' hp'
      simpa [hne] using this

/-- The budget is rewritten and the unfit flags follow (R52); a claim is kept at a higher budget only. -/
theorem Balanced.refit {s : State} (h : Balanced s) {b : Nat} {c : Option Claim}
    (hc : c = none ∨ c = s.claim ∧ s.budget ≤ b) : Balanced (refit { s with budget := b, claim := c }) where
  maps := h.maps
  outlets := h.outlets
  queue := by
    have hfeeds : (Machine.refit { s with budget := b, claim := c }).queue.map Entry.feed = s.queue.map Entry.feed := by
      simp [Machine.refit]
    refine ⟨fun e he => ?_, hfeeds ▸ h.queue.2.1, fun f hf hst => hfeeds ▸ h.queue.2.2 f hf hst⟩
    obtain ⟨x, hx, rfl⟩ := List.mem_map.1 he
    obtain ⟨h1, h2, h3, -⟩ := h.queue.1 x hx
    exact ⟨h1, h2, h3, rfl⟩
  claim d hd := by
    rcases hc with rfl | ⟨rfl, hle⟩
    · cases hd
    · obtain ⟨x, hx, hfeed, ham, hun⟩ := h.claim d hd
      have hfit : ¬ s.budget < x.amount := by rw [(h.queue.1 x hx).2.2.2] at hun; simpa using hun
      refine ⟨_, List.mem_map_of_mem hx, hfeed, ham, ?_⟩
      show decide (b < x.amount) = false
      simp only [decide_eq_false_iff_not]
      omega
  held := h.held
  active := h.active

/-- A recomputation of the budget keeps the budget law (R30, R38, R39). -/
theorem powerOk_recompute {s : State} (h : powerOk s) : powerOk (recompute s).1 := by
  obtain ⟨hb, hle⟩ := (powerOk_iff s).1 h
  unfold recompute
  dsimp only
  split
  · have hb' := hb.refit (b := s.budgetNow) (c := none) (.inl rfl)
    have hs : powerOk (shedAll (refit { s with budget := s.budgetNow, claim := none })).1 :=
      powerOk_shed _ hb' (victims_runners hb'.maps) (.inr fun f hf hp =>
        (victims_feeds _).symm.subset (List.mem_filter.2 ⟨(mem_feeds hb'.maps).2 hf, hp⟩))
    exact powerOk_passIf ((calm_raise _ _ _).lowers.powerOk hs) _
  · split
    · next hlt =>
      refine powerOk_pass ((calm_raise _ _ _).lowers.powerOk ((powerOk_iff _).2
        ⟨hb.refit (.inr ⟨rfl, hlt.le⟩), ?_⟩))
      exact hle.trans hlt.le
    · exact h

end Sys2Proof.Machine
end


/-! # The budget law under requests and events (O54) -/

section
namespace Sys2Proof.Machine

open Sys2Proof.Safety

/-! ## A feed's change with its notice and its completion -/

section
variable {f : Feed} {s : State} (hf : isFeed s f)
include hf

theorem lowers_withdrawTold (hst : s.feedState f = .queued) (o : Completion) :
    Lowers s (completeOp .powerOn o f (raise (subjectOf f) .state (withdraw f s))) :=
  (lowers_withdraw hf (by rw [hst]; rfl)).trans ((calm_raise _ _ _).trans (calm_completeOp _ _ _ _)).lowers

theorem lowers_leaveTold (hst : s.feedState f = .retryWait) (o : Completion) :
    Lowers s (completeOp .powerOn o f (raise (subjectOf f) .state (leaveRetry f s))) :=
  (lowers_leaveRetry hf hst).trans ((calm_raise _ _ _).trans (calm_completeOp _ _ _ _)).lowers

theorem lowers_stopTold (hp : (s.feedState f).powered = true) (c : StopCause) (o : Completion) :
    Lowers s (completeOp .powerOn o f (raise (subjectOf f) .state (stopFeed f c .off s))) :=
  (lowers_stopFeed hf hp c .off).trans ((calm_raise _ _ _).trans (calm_completeOp _ _ _ _)).lowers

theorem lowers_redirectTold {c : StopCause} {d : Dest} (hst : s.feedState f = .stopping c d) (c' : StopCause)
    (d' : Dest) (o : Completion) : Lowers s (completeOp .powerOn o f (redirect f c' d' s)) :=
  (lowers_redirect hf hst c' d').trans (calm_completeOp _ _ _ _).lowers

/-- A feed enters QUEUED with its notice and the pass of the entry (R53). -/
theorem powerOk_enterTold (h : powerOk s) (hst : (s.feedState f).holding = false) (hq : s.feedState f ≠ .queued)
    (o : Origin) : powerOk (pass (raise (subjectOf f) .state (enterQueued f o s))) :=
  powerOk_pass (((lowers_enterQueued hf hst hq o).trans (calm_raise _ _ _).lowers).powerOk h)

end

/-- A fold of lowering operations on feeds. -/
theorem lowers_foldFeeds {g : State → Feed → State} (hg : ∀ s f, isFeed s f → Lowers s (g s f))
    (hm : ∀ s f, (g s f).activeMap = s.activeMap) (l : List Feed) {s : State} (hl : ∀ f ∈ l, isFeed s f) :
    Lowers s (l.foldl g s) := by
  induction l generalizing s with
  | nil => exact Lowers.refl s
  | cons f l ih =>
    refine (hg s f (hl f (by simp))).trans (ih fun x hx => ?_)
    rw [isFeed_congr (hm s f)]
    exact hl x (by simp [hx])

/-! ## Power requests -/

theorem feedTarget_isFeed {s : State} {b : Byte} {f : Feed} (h : s.feedTarget b = .ok f) : isFeed s f := by
  unfold State.feedTarget at h
  split at h
  · next n _ =>
    split at h
    · cases h
    · next p hp =>
      split at h
      · cases h
      · next hg =>
        cases h
        have hl : s.logicalOf p = some n := by simpa using List.find?_some hp
        show s.feedOf p = some (.solo p)
        simp [State.feedOf, hl, hg]
  · split at h
    · next hm => cases h; exact hm
    · cases h
  · cases h
  · cases h
  · cases h

theorem powerOk_powerOnEffect {f : Feed} {s : State} (hf : isFeed s f) (h : powerOk s) :
    powerOk (powerOnEffect f s) := by
  unfold powerOnEffect
  split
  · next hst => exact powerOk_enterTold hf h (by rw [hst]; rfl) (by simp [hst]) .host
  · exact h

theorem powerOk_powerOnFeed (fr : Frame) (b : Byte) {f : Feed} {s : State} (hf : isFeed s f) (h : powerOk s) :
    powerOk (powerOnFeed fr b f s).1 := by
  rcases powerOnFeed_state fr b f s with e | ⟨n, e⟩
  · rw [e]
    exact h
  · have hc := calm_bindSlot n { seq := fr.seq, kind := .powerOn, target := b } f s
    rw [e]
    exact powerOk_powerOnEffect ((hc.isFeed f).2 hf) (hc.lowers.powerOk h)

theorem powerOk_powerOffFeed (fr : Frame) (b : Byte) {f : Feed} {s : State} (hf : isFeed s f) (h : powerOk s) :
    powerOk (powerOffFeed fr b f s).1 := by
  have hstop : (s.feedState f).powered = true → ∀ n op, powerOk (bindSlot n op f (raise (subjectOf f) .state
      (stopFeed f .host .off (completeOp .powerOn .cancelled f s)))) := fun hp n op =>
    ((lowers_stop_of_calm (calm_completeOp _ _ _ s) hf hp _ _).trans
      ((calm_raise _ _ _).trans (calm_bindSlot _ _ _ _)).lowers).powerOk h
  unfold powerOffFeed
  dsimp only
  split
  · exact h
  · exact h
  · next hst => exact powerOk_pass ((lowers_withdrawTold hf hst .cancelled).powerOk h)
  · next hst => exact (lowers_leaveTold hf hst .cancelled).powerOk h
  · next hst =>
    split
    · exact h
    · exact hstop (by rw [hst]; rfl) _ _
  · next hst =>
    split
    · exact h
    · exact hstop (by rw [hst]; rfl) _ _
  · next hst =>
    split
    · exact h
    · split
      · exact h
      · exact ((lowers_redirectTold hf hst _ _ .cancelled).trans (calm_bindSlot _ _ _ _).lowers).powerOk h

theorem lowers_offOne (t : State × Nat) {f : Feed} (hf : isFeed t.1 f) : Lowers t.1 (offOne t f).1 := by
  unfold offOne
  dsimp only
  split
  · exact Lowers.refl t.1
  · exact Lowers.refl t.1
  · next hst => exact lowers_withdrawTold hf hst .cancelled
  · next hst => exact lowers_leaveTold hf hst .cancelled
  · next hst => exact lowers_stopTold hf (by rw [hst]; rfl) .host .cancelled
  · next hst => exact lowers_stopTold hf (by rw [hst]; rfl) .host .cancelled
  · next hst => exact lowers_redirectTold hf hst _ _ .cancelled
  · next hst => exact lowers_redirectTold hf hst _ _ .cancelled
  · exact Lowers.refl t.1
  · exact Lowers.refl t.1

theorem fixed_offOne (t : State × Nat) (f : Feed) : Fixed t.1 (offOne t f).1 := by
  unfold offOne
  dsimp only
  split
  · exact Fixed.refl t.1
  · exact Fixed.refl t.1
  · exact ((fixed_withdraw _ t.1).trans (fixed_raise _ _ _)).trans (fixed_completeOp _ _ _ _)
  · exact ((fixed_leaveRetry _ t.1).trans (fixed_raise _ _ _)).trans (fixed_completeOp _ _ _ _)
  · exact ((fixed_stopFeed _ _ _ t.1).trans (fixed_raise _ _ _)).trans (fixed_completeOp _ _ _ _)
  · exact ((fixed_stopFeed _ _ _ t.1).trans (fixed_raise _ _ _)).trans (fixed_completeOp _ _ _ _)
  · exact (fixed_redirect _ _ _ t.1).trans (fixed_completeOp _ _ _ _)
  · exact (fixed_redirect _ _ _ t.1).trans (fixed_completeOp _ _ _ _)
  · exact Fixed.refl t.1
  · exact Fixed.refl t.1

/-- The fold of POWER_OFF with ALL counts beside the states; the states are a fold of their own. -/
theorem lowers_offAll (l : List Feed) (t : State × Nat) (hl : ∀ f ∈ l, isFeed t.1 f) :
    Lowers t.1 (l.foldl offOne t).1 := by
  induction l generalizing t with
  | nil => exact Lowers.refl t.1
  | cons f l ih =>
    refine (lowers_offOne t (hl f (by simp))).trans (ih (offOne t f) fun x hx => ?_)
    rw [isFeed_congr (fixed_offOne t f).activeMap]
    exact hl x (by simp [hx])

theorem powerOk_powerOffEvery {s : State} (h : powerOk s) : powerOk (powerOffEvery s).1 :=
  powerOk_passIf ((lowers_offAll s.feeds (s, 0) fun _ hf => (mem_feeds h.1).1 hf).powerOk h) _

theorem lowers_clearFeed {f : Feed} {s : State} (hf : isFeed s f) : Lowers s (clearFeed f s) := by
  unfold clearFeed
  split
  · next hst =>
    exact (lowers_settle hf (by rw [hst]; rfl) (by simp [hst]) (h := fun r => { r with state := .off, count := 0 }) rfl
      (by simp)).trans (calm_raise _ _ _).lowers
  · exact (calm_updFeed f s (h := fun r => { r with count := countAfterClear (s.feedState f) }) fun _ => rfl).lowers

theorem powerOk_reqPowerOn (fr : Frame) {s : State} (h : powerOk s) : powerOk (reqPowerOn fr s).1 := by
  unfold reqPowerOn
  split
  · split
    · exact h
    · next hf => exact powerOk_powerOnFeed _ _ (feedTarget_isFeed hf) h
  · exact h

theorem powerOk_reqPowerOff (fr : Frame) {s : State} (h : powerOk s) : powerOk (reqPowerOff fr s).1 := by
  unfold reqPowerOff
  split
  · split
    · exact powerOk_powerOffEvery h
    · split
      · exact h
      · next hf => exact powerOk_powerOffFeed _ _ (feedTarget_isFeed hf) h
  · exact h

theorem powerOk_reqClearFault (fr : Frame) {s : State} (h : powerOk s) : powerOk (reqClearFault fr s).1 := by
  unfold reqClearFault
  split
  · split
    · exact h
    · next hf => exact (lowers_clearFeed (feedTarget_isFeed hf)).powerOk h
  · exact h

/-! ## The entry of a queued feed is rewritten (R46, R48 to R50) -/

theorem entryOf_some {s : State} {f : Feed} {e : Entry} (h : s.entryOf f = some e) : e ∈ s.queue ∧ e.feed = f :=
  ⟨List.mem_of_find?_eq_some h, by simpa using List.find?_some h⟩

theorem updEntry_some {s : State} {f : Feed} {e : Entry} (h : s.entryOf f = some e) (g : Entry → Entry) :
    updEntry f g s = { s with queue := insertBy entryBefore (g e) (dropEntry f s.queue) } := by
  simp [updEntry, h]

theorem updEntry_none {s : State} {f : Feed} (h : s.entryOf f = none) (g : Entry → Entry) : updEntry f g s = s := by
  simp [updEntry, h]

/-- An entry with the feed's present amount takes the place of the feed's old one; a claim on the feed is dropped. -/
theorem Vacant.reenter {f : Feed} {s : State} (v : Vacant f (dequeued f s)) (hq : s.feedState f = .queued) {e : Entry}
    (hfeed : e.feed = f) (ham : e.amount = s.requestAmount f) (hun : e.unfit = decide (s.budget < e.amount)) :
    Balanced { dequeued f s with queue := insertBy entryBefore e (dropEntry f s.queue) } :=
  v.beside.enter v.idle hq v.held v.active hfeed ham hun

/-- The entry of a balanced part's feed: the feed is queued, and a claim on it is the claim of that entry. -/
theorem Balanced.entryOf {s : State} (h : Balanced s) {f : Feed} {e : Entry} (he : s.entryOf f = some e) :
    isFeed s f ∧ s.feedState f = .queued ∧ e.amount = s.requestAmount f ∧ e.unfit = decide (s.budget < e.amount) ∧
      (s.isClaimant f = true → s.claim = some { feed := f, amount := e.amount } ∧ e.unfit = false) := by
  obtain ⟨hm, rfl⟩ := entryOf_some he
  obtain ⟨h1, h2, h3, h4⟩ := h.queue.1 e hm
  refine ⟨h1, h2, h3, h4, fun hc => ?_⟩
  obtain ⟨c, hcm, hcf⟩ := Option.map_eq_some_iff.1 ((isClaimant_iff s _).1 hc)
  obtain ⟨x, hx, hxf, hxa, hxu⟩ := h.claim c hcm
  have : x = e := List.inj_on_of_nodup_map h.queue.2.1 hx hm (hxf.trans hcf)
  subst this
  exact ⟨by rw [hcm, hxf, hxa], hxu⟩

/-- A change of an entry in what the budget law does not read. -/
theorem lowers_updEntry (f : Feed) {g : Entry → Entry} (hg : ∀ e, (g e).core = e.core) (s : State) :
    Lowers s (updEntry f g s) := by
  intro hb
  cases he : s.entryOf f with
  | none => rw [updEntry_none he]; exact ⟨hb, le_rfl, rfl⟩
  | some e =>
    obtain ⟨hf, hst, ham, hun, hcl⟩ := hb.entryOf he
    have hcore := hg e
    simp only [Entry.core, Prod.mk.injEq, (entryOf_some he).2] at hcore
    obtain ⟨hfeed, ham', hun'⟩ := hcore
    have hnew := (hb.vacant hf (by rw [hst]; rfl)).reenter hst (e := g e) hfeed (ham'.trans ham)
      (by rw [hun', ham']; exact hun)
    rw [updEntry_some he]
    refine ⟨?_, le_rfl, rfl⟩
    cases hc : s.isClaimant f with
    | false => simpa [dequeued, hc] using hnew
    | true =>
      obtain ⟨hclaim, hfit⟩ := hcl hc
      have := hnew.claimed (e := g e) ((mem_insertBy _ _ _ _).2 (.inl rfl)) (hun'.trans hfit)
      simpa [dequeued, hfeed, ham', hclaim] using this

/-! ## Profile writes (R3, R4, R48) -/

/-- An outlet of a feed that holds nothing is changed in what the feed's other outlets do not share. -/
theorem Vacant.updOutlet {f : Feed} {s : State} (v : Vacant f s) {p : OutletId} (hp : s.feedOf p = some f)
    {h : OutletRec → OutletRec} (hs : (h (s.outlet p)).own.state = (s.outlet p).own.state)
    (hi : (s.outlet p).idle → (h (s.outlet p)).idle) : Vacant f (updOutlet p h s) := by
  have hidle : ∀ q, s.feedOf q = some f → ((Machine.updOutlet p h s).outlet q).idle := fun q hq => by
    rw [updOutlet_outlet]
    split
    · exact hi (v.idle p hp)
    · exact v.idle q hq
  have hother : ∀ q, s.feedOf q ≠ some f → (Machine.updOutlet p h s).outlet q = s.outlet q := fun q hq => by
    rw [updOutlet_outlet, if_neg fun e : q = p => hq (e ▸ hp)]
  have m : Apart f s (Machine.updOutlet p h s) :=
    ⟨rfl, rfl, rfl, rfl, rfl, fun g _ => feedState_updOutlet s hs g,
      fun q hq => by rw [hother q hq]; exact Still.refl _ _⟩
  have hsame : ∀ q, ((Machine.updOutlet p h s).outlet q).alloc = (s.outlet q).alloc ∧
      ((Machine.updOutlet p h s).outlet q).draw = (s.outlet q).draw := fun q => by
    by_cases hq : s.feedOf q = some f
    · simp [OutletRec.draw, (hidle q hq).1, (hidle q hq).2.1, (v.idle q hq).1, (v.idle q hq).2.1]
    · rw [hother q hq]; exact ⟨rfl, rfl⟩
  refine ⟨m.beside v.beside, hidle, ?_, ?_⟩
  · rw [heldSum_congr fun q => (hsame q).1]; exact v.held
  · rw [drawSum_congr fun q => (hsame q).2]; exact v.active

/-- A write to an outlet that holds nothing and whose feed is not queued. -/
theorem Balanced.updIdle {s : State} (hb : Balanced s) {p : OutletId} (hh : outletHolding s p = false)
    (hq : ∀ f, s.feedOf p = some f → s.feedState f ≠ .queued) {h : OutletRec → OutletRec}
    (hs : (h (s.outlet p)).own.state = (s.outlet p).own.state) (hi : (s.outlet p).idle → (h (s.outlet p)).idle) :
    Balanced (updOutlet p h s) := by
  have hst := feedState_updOutlet s hs
  have hidle : (s.outlet p).idle := by
    cases hf : s.feedOf p with
    | none => exact (outletOk_unmapped hf).1 (hb.outlets p)
    | some f => exact (soundIn_idle (outletHolding_of_feed hf ▸ hh) _ _).1 ((outletOk_of_feed hf).1 (hb.outlets p))
  have hsame : ∀ q, ((updOutlet p h s).outlet q).alloc = (s.outlet q).alloc ∧
      ((updOutlet p h s).outlet q).draw = (s.outlet q).draw := fun q => by
    rw [updOutlet_outlet]
    split
    · next e => subst e; simp [OutletRec.draw, hidle.1, hidle.2.1, (hi hidle).1, (hi hidle).2.1]
    · exact ⟨rfl, rfl⟩
  refine ⟨hb.maps, fun q => ?_, ⟨fun e he => ?_, hb.queue.2.1, fun f hf hfq => ?_⟩, hb.claim, ?_, ?_⟩
  · by_cases hqp : q = p
    · subst hqp
      cases hf : s.feedOf q with
      | none => exact (outletOk_unmapped (s := updOutlet q h s) hf).2 (by rw [updOutlet_outlet_same]; exact hi hidle)
      | some f =>
        rw [outletOk_of_feed (s := updOutlet q h s) hf, hst, updOutlet_outlet_same,
          soundIn_idle (outletHolding_of_feed hf ▸ hh)]
        exact hi hidle
    · refine outletOk_still (s := s) (t := updOutlet p h s) rfl (fun f _ => hst f) ?_ (hb.outlets q)
      rw [updOutlet_outlet_other _ _ _ _ hqp]
      exact Still.refl _ _
  · obtain ⟨h1, h2, h3, h4⟩ := hb.queue.1 e he
    have hreq : (updOutlet p h s).requestAmount e.feed = s.requestAmount e.feed :=
      requestAmount_congr (s := s) (t := updOutlet p h s) rfl fun q hqm => by
        rw [updOutlet_outlet_other _ _ _ _ fun e' : q = p => hq e.feed (e' ▸ feedOf_of_mem hb.maps h1 hqm) h2]
    exact ⟨(isFeed_congr rfl _).2 h1, (hst _).trans h2, h3.trans hreq.symm, h4⟩
  · exact hb.queue.2.2 f ((isFeed_congr rfl f).1 hf) ((hst f).symm.trans hfq)
  · rw [heldSum_congr fun q => (hsame q).1]; exact hb.held
  · rw [drawSum_congr fun q => (hsame q).2]; exact hb.active

/-- The new request of a queued feed's outlet reaches its entry and a claim on it (R4, R48). -/
theorem lowers_amountWritten {s s1 : State} {f : Feed} (hst : s1.feedState f = .queued)
    (he : ∃ e, s1.entryOf f = some e) (v : Balanced s → Vacant f (dequeued f s1))
    (ha : s1.active = s.active) (hbud : s1.budget = s.budget) : Lowers s (amountWritten f s1).1 := by
  intro hb
  obtain ⟨e, he⟩ := he
  have hnew := (v hb).reenter hst
    (e := { e with amount := s1.requestAmount f, unfit := decide (s1.budget < s1.requestAmount f) })
    (entryOf_some he).2 rfl rfl
  have hfeed := (entryOf_some he).2
  unfold amountWritten
  dsimp only
  rw [updEntry_some he]
  cases hc : s1.isClaimant f with
  | false =>
    refine ⟨?_, ha.le, hbud⟩
    simpa [dequeued, hc] using hnew
  | true =>
    by_cases hbad : s1.budget < s1.requestAmount f
    · simp only [hbad, decide_true, if_true]
      refine ⟨?_, ha.le, hbud⟩
      simpa [dequeued, hc, dropClaim, hbad] using hnew
    · simp only [hbad, decide_false, if_true, Bool.false_eq_true, if_false]
      refine ⟨?_, ha.le, hbud⟩
      have := hnew.claimed ((mem_insertBy _ _ _ _).2 (.inl rfl)) (by simp [hbad])
      simpa [dequeued, hfeed, hbad] using this

theorem lowers_priorityWritten (f : Feed) (v : Nat) (s : State) : Lowers s (priorityWritten f v s).1 := by
  unfold priorityWritten
  split
  · exact lowers_updEntry f (g := fun e => { e with base := v, eff := v, aging := s.agingFor v }) (fun _ => rfl) s
  · exact Lowers.refl s

/-- A profile write changes a request only where the field is the request. -/
theorem writeField_request {f : ProfileField} (v : Nat) (r : Profile) (h : f ≠ .request) :
    (writeField f v r).request = r.request := by
  cases f <;> simp_all [writeField]

theorem calm_writeField {f : ProfileField} (h : f ≠ .request) (p : OutletId) (v : Nat) (s : State) :
    Calm s (updOutlet p (fun o => { o with profile := writeField f v o.profile }) s) :=
  calm_updOutlet s rfl ⟨rfl, rfl, writeField_request v _ h, fun _ h => h⟩

/-- The request of an outlet that holds nothing is written (R4, R48). -/
theorem lowers_writeRequest {p : OutletId} {s : State} (hh : outletHolding s p = false) (v : Nat) :
    Lowers s (writePair p .request v s).1 := by
  have hplain : (∀ f, s.feedOf p = some f → s.feedState f ≠ .queued) →
      Lowers s (updOutlet p (fun o => { o with profile := writeField .request v o.profile }) s) := fun hq hb =>
    ⟨hb.updIdle hh hq rfl fun h => h, le_rfl, rfl⟩
  unfold writePair
  dsimp only
  cases hf : s.feedOf p with
  | none => exact hplain fun f h => by rw [hf] at h; cases h
  | some f =>
    dsimp only
    split
    · next hst =>
      intro hb
      have hfeed := isFeed_of_feedOf hf
      obtain ⟨x, hx, hxf⟩ := List.mem_map.1 (hb.queue.2.2 f hfeed hst)
      have hent : ∃ e, s.entryOf f = some e := by
        rw [← Option.isSome_iff_exists]
        exact List.find?_isSome.2 ⟨x, hx, by simpa using hxf⟩
      exact lowers_amountWritten (s := s) ((feedState_updOutlet s rfl f).trans hst) hent
        (fun hb => (hb.vacant hfeed (by rw [hst]; rfl)).updOutlet
          (h := fun o => { o with profile := writeField .request v o.profile }) hf rfl fun h => h) rfl rfl hb
    · next hst => exact hplain fun g hg => by rw [hf] at hg; cases hg; exact hst

theorem calm_overdrawMap (p : OutletId) (v : Nat) (s : State) :
    Calm s (updOutlet p (fun o => { o with overdrawWindow := o.overdrawWindow.map fun _ => v }) s) :=
  calm_updOutlet s rfl ⟨rfl, rfl, rfl, fun _ ⟨h1, h2, h3, h4, h5⟩ => ⟨h1, h2, h3, by simp [h4], h5⟩⟩

/-- One pair of SET_PROFILE, which writes a request only where nothing is held (R3, R4). -/
theorem lowers_writePair {p : OutletId} {f : ProfileField} {s : State}
    (hh : f = .request → outletHolding s p = false) (v : Nat) : Lowers s (writePair p f v s).1 := by
  have hw := fun hne : f ≠ .request => calm_writeField hne p v s
  cases f with
  | request => exact lowers_writeRequest (hh rfl) v
  | priority =>
    have hw := hw (by simp)
    unfold writePair
    dsimp only
    split
    · exact hw.lowers.trans (lowers_priorityWritten _ v _)
    · exact hw.lowers
  | tripMode => exact ((hw (by simp)).trans (calm_pairOff p _)).lowers
  | overdrawCheck =>
    have hw := hw (by simp)
    unfold writePair
    dsimp only
    split
    · exact hw.lowers
    · exact (hw.trans (calm_overdrawOff p _)).lowers
  | overdrawWindow => exact ((hw (by simp)).trans (calm_overdrawMap p v _)).lowers
  | startMode => exact (hw (by simp)).lowers
  | debounce => exact (hw (by simp)).lowers
  | ramp => exact (hw (by simp)).lowers
  | blanking => exact (hw (by simp)).lowers
  | width => exact (hw (by simp)).lowers
  | pairWindow => exact (hw (by simp)).lowers
  | threshold => exact (hw (by simp)).lowers
  | stability => exact (hw (by simp)).lowers
  | shedPolicy => exact (hw (by simp)).lowers
  | overdrawMargin => exact (hw (by simp)).lowers
  | discharge => exact (hw (by simp)).lowers

/-! ### What a write leaves: the state every outlet shows -/

/-- `t` shows the map and the feed states of `s`. -/
structure SameStates (s t : State) : Prop where
  activeMap : t.activeMap = s.activeMap
  state : ∀ f, t.feedState f = s.feedState f

theorem SameStates.refl (s : State) : SameStates s s := ⟨rfl, fun _ => rfl⟩

theorem SameStates.trans {s t u : State} (a : SameStates s t) (b : SameStates t u) : SameStates s u :=
  ⟨b.activeMap.trans a.activeMap, fun f => (b.state f).trans (a.state f)⟩

theorem SameStates.outletHolding {s t : State} (h : SameStates s t) (p : OutletId) :
    outletHolding t p = outletHolding s p := by
  unfold Safety.outletHolding State.outletState
  rw [feedOf_congr h.activeMap]
  cases s.feedOf p with
  | none => rfl
  | some f => simp only [h.state]

theorem sameStates_updOutlet {p : OutletId} {h : OutletRec → OutletRec} (s : State)
    (hs : (h (s.outlet p)).own.state = (s.outlet p).own.state) : SameStates s (updOutlet p h s) :=
  ⟨rfl, feedState_updOutlet s hs⟩

theorem sameStates_of_eq {s t : State} (ho : t.outlets = s.outlets) (hg : t.gangs = s.gangs)
    (ha : t.activeMap = s.activeMap) : SameStates s t := by
  refine ⟨ha, fun f => ?_⟩
  cases f with
  | solo p => simp only [State.feedState, State.feedRec, outlet_of_outlets ho]
  | gang g => simp only [State.feedState, State.feedRec, gang_of_gangs hg]

theorem sameStates_updEntry (f : Feed) (g : Entry → Entry) (s : State) : SameStates s (updEntry f g s) := by
  cases he : s.entryOf f with
  | none => rw [updEntry_none he]; exact SameStates.refl s
  | some e => rw [updEntry_some he]; exact sameStates_of_eq rfl rfl rfl

theorem sameStates_priorityWritten (f : Feed) (v : Nat) (s : State) : SameStates s (priorityWritten f v s).1 := by
  unfold priorityWritten
  split
  · exact sameStates_updEntry f _ s
  · exact SameStates.refl s

theorem sameStates_amountWritten (f : Feed) (s : State) : SameStates s (amountWritten f s).1 := by
  have he : SameStates s (updEntry f (fun e =>
      { e with amount := s.requestAmount f, unfit := decide (s.budget < s.requestAmount f) }) s) :=
    sameStates_updEntry f _ s
  unfold amountWritten
  dsimp only
  split
  · split
    · exact he.trans (sameStates_of_eq rfl rfl rfl)
    · exact he.trans (sameStates_of_eq rfl rfl rfl)
  · exact he

theorem sameStates_writePair (p : OutletId) (f : ProfileField) (v : Nat) (s : State) :
    SameStates s (writePair p f v s).1 := by
  have hw : SameStates s (updOutlet p (fun o => { o with profile := writeField f v o.profile }) s) :=
    sameStates_updOutlet s rfl
  have hoff : ∀ g : OutletRec → OutletRec, (∀ o, (g o).own = o.own) → ∀ t, SameStates t (updOutlet p g t) :=
    fun g hg t => sameStates_updOutlet t (by rw [hg])
  unfold writePair
  dsimp only
  split
  · split
    · split
      · exact hw.trans (sameStates_amountWritten _ _)
      · exact hw
    · exact hw
  · split
    · exact hw.trans (sameStates_priorityWritten _ _ _)
    · exact hw
  · exact hw.trans (hoff (fun o => { o with pairWindow := none }) (fun _ => rfl) _)
  · split
    · exact hw
    · exact hw.trans (hoff (fun o => { o with overdrawWindow := none }) (fun _ => rfl) _)
  · exact hw.trans (hoff (fun o => { o with overdrawWindow := o.overdrawWindow.map (fun _ => v) }) (fun _ => rfl) _)
  · exact hw

theorem lowers_writePairs (p : OutletId) (l : List (ProfileField × Nat)) (t : State × Bool)
    (hl : ∀ x ∈ l, x.1 = .request → outletHolding t.1 p = false) :
    Lowers t.1 (l.foldl (fun t x => ((writePair p x.1 x.2 t.1).1, t.2 || (writePair p x.1 x.2 t.1).2)) t).1 := by
  induction l generalizing t with
  | nil => exact Lowers.refl t.1
  | cons x l ih =>
    rw [List.foldl_cons]
    refine (lowers_writePair (hl x (by simp)) x.2).trans (ih (_, t.2 || (writePair p x.1 x.2 t.1).2) fun y hy hr => ?_)
    exact ((sameStates_writePair p x.1 x.2 t.1).outletHolding p).trans (hl y (by simp [hy]) hr)

/-- A request may be written only where nothing is held (R3). -/
theorem not_holding_of_allowed {s : State} {p : OutletId} (h : fieldAllowed .request (s.outletState p) = true) :
    outletHolding s p = false := by
  unfold outletHolding
  unfold fieldAllowed at h
  cases hs : s.outletState p with
  | unmapped => rfl
  | mapped st => simpa [hs] using h

theorem powerOk_setProfileOf (p : OutletId) (l : List (Byte × Nat)) {s : State} (h : powerOk s) :
    powerOk (setProfileOf p l s).1 := by
  unfold setProfileOf
  split
  · exact h
  · next ws hws =>
    split
    · exact h
    · next hno =>
      refine powerOk_passIf ((lowers_writePairs p _ (s, false) fun x hx hr => ?_).powerOk h) _
      obtain ⟨y, hy, rfl⟩ := List.mem_map.1 hx
      have hall := List.find?_eq_none.1 hno y hy
      refine not_holding_of_allowed ?_
      have hr' : y.2.1 = .request := hr
      rw [← hr']
      simpa using hall

theorem lowers_writeGangPair (g : GangId) (f : GangField) (v : Nat) (s : State) :
    Lowers s (writeGangPair g f v s).1 := by
  have hw : Calm s (updGang g (fun r => { r with profile := writeGangField f v r.profile }) s) := calm_updGang s rfl
  unfold writeGangPair
  dsimp only
  split
  · split
    · exact hw.lowers.trans (lowers_priorityWritten _ v _)
    · exact hw.lowers
  · exact hw.lowers

theorem lowers_writeGangPairs (g : GangId) (l : List (GangField × Nat)) (t : State × Bool) :
    Lowers t.1
      (l.foldl (fun t x => ((writeGangPair g x.1 x.2 t.1).1, t.2 || (writeGangPair g x.1 x.2 t.1).2)) t).1 := by
  induction l generalizing t with
  | nil => exact Lowers.refl t.1
  | cons x l ih =>
    rw [List.foldl_cons]
    exact (lowers_writeGangPair g x.1 x.2 t.1).trans (ih (_, t.2 || (writeGangPair g x.1 x.2 t.1).2))

theorem powerOk_setGangProfileOf (g : GangId) (l : List (Byte × Nat)) {s : State} (h : powerOk s) :
    powerOk (setGangProfileOf g l s).1 := by
  unfold setGangProfileOf
  split
  · exact h
  · split
    · exact h
    · exact powerOk_passIf ((lowers_writeGangPairs g _ (s, false)).powerOk h) _

theorem powerOk_reqSetProfile (fr : Frame) {s : State} (h : powerOk s) : powerOk (reqSetProfile fr s).1 := by
  unfold reqSetProfile
  split
  · exact h
  · split
    · exact h
    · split
      · split
        · exact h
        · exact powerOk_setProfileOf _ _ h
      · exact h

theorem powerOk_reqSetGangProfile (fr : Frame) {s : State} (h : powerOk s) : powerOk (reqSetGangProfile fr s).1 := by
  unfold reqSetGangProfile
  split
  · exact h
  · split
    · exact h
    · split
      · split
        · exact h
        · exact powerOk_setGangProfileOf _ _ h
      · exact h

/-! ## Supplies, policy and aging -/

theorem calm_writeCapacity (k : SupplyId) (v : Option Nat) (s : State) : Calm s (writeCapacity k v s) := by
  unfold writeCapacity
  split
  · exact Calm.refl s
  · split
    · exact Calm.refl s
    · exact calm_of_eq rfl rfl rfl rfl rfl rfl rfl rfl (fun _ h => h)

theorem calm_writeReserve (v : Option Nat) (s : State) : Calm s (writeReserve v s) := by
  cases v <;> exact calm_of_eq rfl rfl rfl rfl rfl rfl rfl rfl (fun _ h => h)

theorem powerOk_setSupplyTo (c1 c2 r : Option Nat) {s : State} (h : powerOk s) :
    powerOk (setSupplyTo c1 c2 r s).1 :=
  powerOk_recompute ((((calm_writeCapacity 0 c1 s).trans (calm_writeCapacity 1 c2 _)).trans
    (calm_writeReserve r _)).lowers.powerOk h)

theorem powerOk_reqSetSupply (fr : Frame) {s : State} (h : powerOk s) : powerOk (reqSetSupply fr s).1 := by
  unfold reqSetSupply
  split
  · exact h
  · split
    · dsimp only
      split
      · exact powerOk_setSupplyTo _ _ _ h
      · exact h
    · exact h

theorem retime_core (n : Nat) (e : Entry) : (retime n e).core = e.core := by
  unfold retime
  split
  · split <;> rfl
  · rfl

theorem powerOk_writePolicy (n : Policy) {s : State} (h : powerOk s) : powerOk (writePolicy n s) := by
  have hcalm : Calm s { s with
      policy := n
      queue := if n.aging = s.policy.aging then s.queue else s.queue.map (retime n.aging)
      claim := if s.policy.preemption && !n.preemption then none else s.claim } := by
    refine calm_of_eq rfl rfl rfl rfl rfl rfl rfl ?_ fun c hc => ?_
    · dsimp only
      split
      · rfl
      · rw [List.map_map]
        exact List.map_congr_left fun e _ => retime_core _ e
    · dsimp only at hc
      split at hc
      · cases hc
      · exact hc
  exact powerOk_passIf (hcalm.lowers.powerOk h) _

theorem powerOk_reqSetPolicy (fr : Frame) {s : State} (h : powerOk s) : powerOk (reqSetPolicy fr s).1 := by
  unfold reqSetPolicy
  split
  · exact h
  · split
    · dsimp only
      split
      · exact powerOk_writePolicy _ h
      · exact h
    · exact h

theorem calm_updSupply (k : SupplyId) (h : SupplyRec → SupplyRec) (s : State) : Calm s (updSupply k h s) :=
  calm_of_eq rfl rfl rfl rfl rfl rfl rfl rfl (fun _ h => h)

theorem powerOk_supgoodLost (k : SupplyId) {s : State} (h : powerOk s) : powerOk (supgoodLost k s) := by
  unfold supgoodLost
  split
  · exact powerOk_recompute (((calm_updSupply k _ s).trans (calm_raise _ _ _)).lowers.powerOk h)
  · exact (calm_updSupply k _ s).lowers.powerOk h

theorem powerOk_supplyRestored (k : SupplyId) {s : State} (h : powerOk s) : powerOk (supplyRestored k s) := by
  unfold supplyRestored
  split
  · exact powerOk_recompute (((calm_updSupply k _ s).trans (calm_raise _ _ _)).lowers.powerOk h)
  · exact h

theorem powerOk_ageEntry (f : Feed) {s : State} (h : powerOk s) : powerOk (ageEntry f s) := by
  unfold ageEntry
  split
  · exact h
  · split
    · exact powerOk_passIf ((lowers_updEntry f (g := fun x =>
        { x with eff := x.eff + 1, aging := s.agingFor (x.eff + 1) }) (fun _ => rfl) s).powerOk h) _
    · exact h

/-! ## Lines and EOFF -/

theorem lowers_emergencyFeed (s : State) (f : Feed) (hf : isFeed s f) : Lowers s (emergencyFeed s f) := by
  unfold emergencyFeed
  split
  · next hst => exact lowers_stopTold hf (by rw [hst]; rfl) .emergency .emergency
  · next hst => exact lowers_stopTold hf (by rw [hst]; rfl) .emergency .emergency
  · next hst => exact lowers_redirectTold hf hst _ _ .emergency
  · next hst => exact lowers_redirectTold hf hst _ _ .emergency
  · exact Lowers.refl s
  · exact Lowers.refl s
  · next hst => exact lowers_withdrawTold hf hst .emergency
  · next hst => exact lowers_leaveTold hf hst .emergency
  · exact Lowers.refl s
  · exact Lowers.refl s

theorem powerOk_assertEoff {s : State} (h : powerOk s) : powerOk (assertEoff s) :=
  powerOk_pass ((((calm_raise .part .emergency s).lowers.trans
    (lowers_foldFeeds lowers_emergencyFeed (fun s f => (fixed_emergencyFeed s f).activeMap) s.feeds fun _ hf =>
      (mem_feeds h.1).1 hf)).trans (calm_dropClaim _).lowers).powerOk h)

theorem lowers_releaseOutlet (s : State) (p : OutletId) : Lowers s (releaseOutlet s p) := by
  unfold releaseOutlet
  split
  · next hc =>
    have hf : isFeed s (.solo p) := hc.1
    have hst : s.feedState (.solo p) = .off := hc.2.2.1
    exact (lowers_enterQueued hf (by rw [hst]; rfl) (by simp [hst]) .presence).trans (calm_raise _ _ _).lowers
  · exact Lowers.refl s

theorem lowers_releaseEoff (s : State) : Lowers s (releaseEoff s) := by
  have hfold : ∀ (l : List OutletId) (s : State), Lowers s (l.foldl releaseOutlet s) := by
    intro l
    induction l with
    | nil => exact Lowers.refl
    | cons p l ih => exact fun s => (lowers_releaseOutlet s p).trans (ih _)
  exact (calm_raise .part .emergency s).lowers.trans (hfold allOutlets _)

theorem powerOk_sourcesChanged (s : State) {t : State} (h : powerOk t) : powerOk (sourcesChanged s t) := by
  unfold sourcesChanged
  split
  · exact powerOk_assertEoff h
  · split
    · exact powerOk_pass ((lowers_releaseEoff t).powerOk h)
    · split
      · exact powerOk_pass h
      · exact h

theorem calm_setInput (l : LineId) (i : InputLine) (s : State) : Calm s (setInput l i s) := by
  cases l <;> exact calm_of_eq rfl rfl rfl rfl rfl rfl rfl rfl (fun _ h => h)

theorem powerOk_lineQualified (l : LineId) {s : State} (h : powerOk s) : powerOk (lineQualified l s) := by
  unfold lineQualified
  dsimp only
  split
  · exact powerOk_sourcesChanged s ((calm_setInput l _ s).lowers.powerOk h)
  · exact h

theorem powerOk_reqSetLine (fr : Frame) {s : State} (h : powerOk s) : powerOk (reqSetLine fr s).1 := by
  have hline : ∀ k fn, powerOk (changeLine k fn s) := fun k fn => by
    unfold changeLine
    split
    · exact h
    · exact powerOk_sourcesChanged s
        ((calm_of_eq rfl rfl rfl rfl rfl rfl rfl rfl (fun _ h => h) : Calm s (s.setAux k _)).lowers.powerOk h)
  unfold reqSetLine
  split
  · split
    · exact hline _ _
    · exact h
  · exact h

/-! ## Scans, discharges and ramps -/

theorem calm_measured (p : OutletId) (v i : Nat) (s : State) : Calm s (updOutlet p (measured v i) s) :=
  calm_updOutlet s rfl ⟨rfl, rfl, rfl, fun _ h => h⟩

/-- The end of a solo feed's discharge (R16). -/
theorem powerOk_soloDischarged {p : OutletId} {s : State} (hf : s.feedOf p = some (.solo p)) {c : StopCause} {d : Dest}
    (hst : s.feedState (.solo p) = .stopping c d) (h : powerOk s) : powerOk (soloDischarged p d s) := by
  obtain ⟨hb, hle⟩ := (powerOk_iff s).1 h
  have hd := (hb.vacant_returned hf hst).enterDest d
  refine powerOk_pass (((calm_raise _ _ _).trans (calm_completeOp _ _ _ _)).lowers.powerOk ((powerOk_iff _).2 ⟨hd, ?_⟩))
  rw [enterDest_active, (fixed_enterDest _ _ _).budget]
  exact hle

/-- The discharge timeout of a solo feed (R17). -/
theorem powerOk_soloTimeout {p : OutletId} {s : State} (hf : s.feedOf p = some (.solo p)) {c : StopCause} {d : Dest}
    (hst : s.feedState (.solo p) = .stopping c d) (h : powerOk s) : powerOk (soloTimeout p s) := by
  obtain ⟨hb, hle⟩ := (powerOk_iff s).1 h
  have v := (hb.vacant_returned hf hst).updOutlet (h := fun o => { o with lastCause := some .dischargeTimeout }) hf rfl
    fun h => h
  have hl : Balanced (setState (.solo p) .latched _) := v.settle (h := fun r => { r with state := .latched }) rfl
    (by simp)
  exact powerOk_pass (((((calm_raise _ _ _).trans (calm_completeOp _ _ _ _)).trans (calm_completeOp _ _ _ _)).trans
    (calm_raise _ _ _)).lowers.powerOk ((powerOk_iff _).2 ⟨hl, hle⟩))

/-- A gang whose members have all returned their allocation leaves STOPPING (R125). -/
theorem lowers_gangLeaves {g : GangId} {s : State} (hf : isFeed s (.gang g)) (hz : s.allDischarged g = true) :
    Lowers s (gangLeaves g s) := by
  unfold gangLeaves
  split
  · next hst =>
    have hst' : s.feedState (.gang g) = .stopping _ _ := hst
    intro hb
    have hd := (hb.vacant_discharged hf hst' fun p hp => by
      simpa using List.all_eq_true.1 hz p hp).enterDest ‹Dest›
    exact ((calm_completeOp _ _ _ _).trans (calm_raise _ _ _)).lowers.trans (Lowers.refl _) hd |>.imp_right fun h =>
      ⟨h.1.trans (enterDest_active _ _ s).le, h.2.trans (fixed_enterDest _ _ s).budget⟩
  · exact Lowers.refl s

theorem powerOk_memberReturned {g : GangId} {s : State} (hf : isFeed s (.gang g)) (h : powerOk s) :
    powerOk (memberReturned g s) := by
  unfold memberReturned
  split
  · next hz => exact powerOk_pass ((lowers_gangLeaves hf hz).powerOk h)
  · exact powerOk_pass h

theorem lowers_returnAlloc {p : OutletId} {g : GangId} {s : State} (hf : s.feedOf p = some (.gang g)) {c : StopCause}
    {d : Dest} (hst : s.feedState (.gang g) = .stopping c d) : Lowers s (returnAlloc p s) := fun hb =>
  ⟨hb.returnAlloc hf hst, le_rfl, rfl⟩

/-- The discharge timeout of a gang member (R125). -/
theorem powerOk_memberTimeout {p : OutletId} {g : GangId} {s : State} (hf : s.feedOf p = some (.gang g))
    {c : StopCause} {d : Dest} (hst : s.feedState (.gang g) = .stopping c d) (h : powerOk s) :
    powerOk (memberTimeout g c p s) := by
  have hg : isFeed s (.gang g) := isFeed_of_feedOf hf
  have hret : Calm (returnAlloc p s)
      (updOutlet p (fun o => { o with lastCause := some .dischargeTimeout }) (returnAlloc p s)) :=
    calm_updOutlet _ rfl ⟨rfl, rfl, rfl, fun _ h => h⟩
  have hst' := (hret.state (.gang g)).trans ((feedState_returnAlloc p s _).trans hst)
  have hl := ((lowers_returnAlloc hf hst).trans hret.lowers).trans
    (lowers_redirect ((hret.isFeed _).2 ((isFeed_congr (s := s) rfl _).2 hg)) hst' c .latched)
  have hc := ((((calm_updGang (g := g) (h := fun r => { r with lastMember := some p, timedOut := true })
    (redirect (.gang g) c .latched (updOutlet p (fun o => { o with lastCause := some .dischargeTimeout })
      (returnAlloc p s))) rfl).trans (calm_completeOp .powerOn .faulted (.gang g) _)).trans
    (calm_raise (.gang g) .fault _)).trans (calm_raise (.outlet p) .fault _))
  refine powerOk_memberReturned ?_ ((hl.trans hc.lowers).powerOk h)
  rw [hc.isFeed, isFeed_congr (fixed_redirect (.gang g) c .latched _).activeMap, hret.isFeed]
  exact hg

theorem powerOk_reportDown (p : OutletId) {s : State} (h : powerOk s) : powerOk (reportDown p s) := by
  unfold reportDown
  split
  · exact h
  · next q hf =>
    cases feedOf_solo hf
    split
    · next hst => exact powerOk_soloDischarged hf hst h
    · exact h
  · next g hf =>
    split
    · next hst =>
      split
      · exact h
      · exact powerOk_memberReturned (isFeed_of_feedOf (s := s) hf) ((lowers_returnAlloc hf hst).powerOk h)
    · exact h

theorem compareDraw_still (o : OutletRec) : Still true o (compareDraw o) := by
  rw [compareDraw_meter]
  exact ⟨rfl, rfl, rfl, fun h => by cases h⟩

theorem powerOk_scan (p : OutletId) (v i : Nat) {s : State} (h : powerOk s) : powerOk (scan p v i s) := by
  have hm := (calm_measured p v i s).lowers.powerOk h
  unfold scan
  dsimp only
  split
  · next hon =>
    have hst := of_decide_eq_true hon
    refine (calm_updOutlet _ (by rw [compareDraw_meter]) ?_).lowers.powerOk hm
    have hp : (updOutlet p (measured v i) s).outletPowered p = true := by rw [State.outletPowered, hst]; rfl
    rw [hp]
    exact compareDraw_still _
  · split
    · exact powerOk_reportDown p hm
    · exact hm

theorem powerOk_dischargeExpired (p : OutletId) {s : State} (h : powerOk s) : powerOk (dischargeExpired p s) := by
  unfold dischargeExpired
  split
  · next hc =>
    split
    · next hst => exact powerOk_soloTimeout hc.1 hst h
    · exact h
  · exact h

theorem powerOk_memberDischargeExpired (p : OutletId) {s : State} (h : powerOk s) :
    powerOk (memberDischargeExpired p s) := by
  unfold memberDischargeExpired
  split
  · split
    · next hf =>
      split
      · next hst => exact powerOk_memberTimeout hf hst h
      · exact h
    · exact h
  · exact h

/-- A feed in STARTING whose ramp has ended enters ON (R12, R123). -/
theorem lowers_rampIn {f : Feed} {s t : State} (hc : Calm s t) (hf : isFeed s f) (hst : s.feedState f = .starting) :
    Lowers s (enterOn f t) :=
  hc.lowers.trans (lowers_enterOn ((hc.isFeed f).2 hf) ((hc.state f).trans hst))

theorem lowers_rampExpired (p : OutletId) (s : State) : Lowers s (rampExpired p s) := by
  have hr := calm_rampOff p s
  unfold rampExpired
  split
  · next hc =>
    dsimp only
    split
    · exact (lowers_rampIn (f := .solo p) hr hc.1 hc.2.2).trans
        ((calm_raise _ _ _).trans (calm_completeOp _ _ _ _)).lowers
    · exact hr.lowers.trans (lowers_takeFault _ _ _)
  · exact Lowers.refl s

theorem lowers_memberRampExpired (p : OutletId) (s : State) : Lowers s (memberRampExpired p s) := by
  have hr := calm_rampOff p s
  unfold memberRampExpired
  split
  · next g hf =>
    split
    · next hc =>
      unfold memberRampIn
      dsimp only
      split
      · split
        · exact (lowers_rampIn hr (isFeed_of_feedOf hf) hc.2).trans
            ((calm_completeOp _ _ _ _).trans (calm_raise _ _ _)).lowers
        · exact hr.lowers
      · exact hr.lowers.trans (lowers_takeFault _ _ _)
    · exact Lowers.refl s
  · exact Lowers.refl s

/-! ## Fault inputs, timers and presence -/

theorem lowers_blankingExpired (p : OutletId) (s : State) : Lowers s (blankingExpired p s) := by
  have hb := calm_blankingOff p s
  unfold blankingExpired
  split
  · next hc =>
    dsimp only
    split
    · exact hb.lowers.trans (lowers_examine ((hb.outletPowered p).trans hc.2))
    · exact hb.lowers
  · exact Lowers.refl s

theorem powerOk_backoffExpired (f : Feed) {s : State} (hf : isFeed s f) (h : powerOk s) :
    powerOk (backoffExpired f s) := by
  unfold backoffExpired
  split
  · next hc => exact powerOk_enterTold hf h (by rw [hc.2]; rfl) (by simp [hc.2]) .retry
  · exact h

/-- A change of an outlet's pins, presence and debounce timer alone. -/
theorem calm_pins {p : OutletId} {h : OutletRec → OutletRec} (s : State)
    (hh : h (s.outlet p) = { s.outlet p with
      pres := (h (s.outlet p)).pres, shortN := (h (s.outlet p)).shortN, overcurrent := (h (s.outlet p)).overcurrent
      presence := (h (s.outlet p)).presence, debounce := (h (s.outlet p)).debounce }) : Calm s (updOutlet p h s) :=
  calm_updOutlet s (by rw [hh]) (by rw [hh]; exact ⟨rfl, rfl, rfl, fun _ h => h⟩)

theorem powerOk_presenceActs (p : OutletId) (a : Bool) {s : State} (h : powerOk s) : powerOk (presenceActs p a s) := by
  unfold presenceActs
  split
  · next hc =>
    have hf : isFeed s (.solo p) := hc.1
    split
    · unfold arrived
      split
      · next ha => exact powerOk_enterTold hf h (by rw [ha.1]; rfl) (by simp [ha.1]) .presence
      · exact h
    · unfold departed
      split
      · exact h
      · exact h
      · next hst => exact powerOk_pass ((lowers_withdrawTold hf hst .removed).powerOk h)
      · next hst => exact (lowers_stopTold hf (by rw [hst]; rfl) .removal .removed).powerOk h
      · next hst => exact (lowers_stopTold hf (by rw [hst]; rfl) .removal .removed).powerOk h
      · next hst => exact (lowers_redirectTold hf hst _ _ .removed).powerOk h
      · next hst => exact (lowers_redirectTold hf hst _ _ .removed).powerOk h
      · exact h
      · exact h
      · next hst => exact (lowers_leaveTold hf hst .removed).powerOk h
  · exact h

theorem powerOk_debounced (p : OutletId) {s : State} (h : powerOk s) : powerOk (debounced p s) := by
  have hd : Calm s (updOutlet p (fun o => { o with debounce := none }) s) := calm_pins s rfl
  unfold debounced
  split
  · dsimp only
    split
    · exact hd.lowers.powerOk h
    · exact powerOk_presenceActs p _
        (((hd.trans (calm_pins (h := fun o => { o with presence := o.pres }) _ rfl)).trans
          (calm_raise _ _ _)).lowers.powerOk h)
  · exact h

theorem lowers_overcurrentBegins (p : OutletId) (s : State) : Lowers s (overcurrentBegins p s) := by
  have ho : Calm s (updOutlet p (fun o => { o with overcurrent := true }) s) := calm_pins s rfl
  unfold overcurrentBegins
  split
  · exact Lowers.refl s
  · dsimp only
    split
    · next hex =>
      refine ho.lowers.trans (lowers_examine ?_)
      simp only [State.examined, Bool.and_eq_true] at hex
      exact hex.1
    · exact ho.lowers

theorem lowers_shortChanged (p : OutletId) (a : Bool) (s : State) : Lowers s (shortChanged p a s) := by
  have hs : Calm s (updOutlet p (fun o => { o with shortN := a }) s) := calm_pins s rfl
  unfold shortChanged
  split
  · exact Lowers.refl s
  · dsimp only
    split
    · exact hs.lowers.trans (lowers_takeFault p _ _)
    · exact hs.lowers

theorem lowers_overdrawExpired (p : OutletId) (s : State) : Lowers s (overdrawExpired p s) := by
  unfold overdrawExpired
  split
  · exact (calm_overdrawOff p s).lowers.trans (lowers_takeFault p _ _)
  · exact Lowers.refl s

end Sys2Proof.Machine
end


/-! # The budget law under maps and resets, and at every step (O54) -/

section
namespace Sys2Proof.Machine

open Sys2Proof.Safety

/-! ## A part on which nothing runs -/

/-- OFF and LATCHED hold nothing (R5). -/
theorem holding_of_not_busy {st : FeedState} (h : st.busy = false) : st.holding = false := by
  cases st <;> simp_all [FeedState.busy, FeedState.holding]

theorem drawSum_of_idle {s : State} (hi : ∀ p, (s.outlet p).idle) : drawSum s = 0 := by
  rw [drawSum, outletSum_eq]
  exact Finset.sum_eq_zero fun p _ => by simp [OutletRec.draw, (hi p).1]

theorem heldSum_of_idle {s : State} (hi : ∀ p, (s.outlet p).idle) : heldSum s = 0 := by
  rw [heldSum, outletSum_eq]
  exact Finset.sum_eq_zero fun p _ => (hi p).2.1

/-- The budget law where nothing runs: every outlet idle, every feed in OFF or LATCHED, no entry, no claim. -/
theorem powerOk_of_idle {s : State} (hm : mapsOk s) (hi : ∀ p, (s.outlet p).idle)
    (hs : ∀ f, isFeed s f → (s.feedState f).busy = false) (hq : s.queue = []) (hc : s.claim = none)
    (hh : s.held = 0) (ha : s.active = 0) : powerOk s := by
  refine (powerOk_iff s).2 ⟨⟨hm, fun p => ?_, ⟨?_, ?_, fun f hf hst => ?_⟩, ?_, ?_, ?_⟩, ?_⟩
  · cases hf : s.feedOf p with
    | none => exact (outletOk_unmapped hf).2 (hi p)
    | some f =>
      exact (outletOk_of_feed hf).2 ((soundIn_idle (holding_of_not_busy (hs f (isFeed_of_feedOf hf))) _ _).2 (hi p))
  · simp [hq]
  · simp [hq]
  · have := hs f hf
    simp [hst, FeedState.busy] at this
  · simp [claimOk, hc]
  · rw [hh, heldSum_of_idle hi]
  · rw [ha, drawSum_of_idle hi]
  · omega

/-! ## Editing the staged map (R134 to R136) -/

theorem powerOk_staged {s : State} (h : powerOk s) {m : MapRec} (hm : mapStored m) :
    powerOk { s with stagedMap := m } := by
  obtain ⟨⟨hn, hg, -⟩, hrest⟩ := h
  exact ⟨⟨hn, hg, hm⟩, hrest⟩

theorem mapStored_of_active {s : State} (h : mapsOk s) : mapStored s.activeMap := by
  obtain ⟨hn, hg, -⟩ := h
  have hk : s.activeMap.enabled.length ≤ 12 := List.length_filter_le _ allOutlets
  exact ⟨fun p n hp => ⟨(hn.1 p n hp).1, (hn.1 p n hp).2.trans hk⟩, fun g ms hms => (hg.1 g ms hms).1⟩

theorem readNumber_range {b : Byte} {v : Option Nat} (h : readNumber b = some v) : ∀ n ∈ v, 1 ≤ n ∧ n ≤ 12 := by
  unfold readNumber at h
  split at h
  · cases h; simp
  · split at h
    · cases h
      rintro n ⟨⟩
      omega
    · cases h

theorem readMapPairs_range {l : List (Byte × Byte)} {ws : List (OutletId × Option Nat)}
    (h : readMapPairs l = some ws) : ∀ x ∈ ws, ∀ n ∈ x.2, 1 ≤ n ∧ n ≤ 12 := by
  induction l generalizing ws with
  | nil => cases h; simp
  | cons y l ih =>
    obtain ⟨a, b⟩ := y
    unfold readMapPairs at h
    split at h
    · next hn hl =>
      cases h
      intro x hx
      rcases List.mem_cons.1 hx with rfl | hx
      · exact readNumber_range hn
      · exact ih hl x hx
    · cases h

theorem mapStored_setNumber {m : MapRec} (h : mapStored m) {x : OutletId × Option Nat}
    (hx : ∀ n ∈ x.2, 1 ≤ n ∧ n ≤ 12) : mapStored (m.setNumber x) := by
  refine ⟨fun p n hn => ?_, h.2⟩
  simp only [MapRec.setNumber, tget_tset] at hn
  split at hn
  · exact hx n hn
  · exact h.1 p n hn

theorem mapStored_setNumbers {ws : List (OutletId × Option Nat)} (hw : ∀ x ∈ ws, ∀ n ∈ x.2, 1 ≤ n ∧ n ≤ 12)
    {m : MapRec} (h : mapStored m) : mapStored (ws.foldl MapRec.setNumber m) := by
  induction ws generalizing m with
  | nil => exact h
  | cons x ws ih =>
    exact ih (fun y hy => hw y (by simp [hy])) (mapStored_setNumber h (hw x (by simp)))

theorem powerOk_reqStageMap (fr : Frame) {s : State} (h : powerOk s) : powerOk (reqStageMap fr s).1 := by
  unfold reqStageMap
  split
  · exact h
  · split
    · split
      · exact h
      · next hws => exact powerOk_staged h (mapStored_setNumbers (readMapPairs_range hws) h.1.2.2)
    · exact h

/-- The outlets a STAGE_GANG names are ascending, and no more than its bytes. -/
theorem readMembers_sorted {l : List Byte} {ms : List OutletId} (h : readMembers l = some ms) :
    ms.Pairwise (· < ·) ∧ ms.length ≤ l.length := by
  unfold readMembers at h
  split at h
  · cases h
    have hsort : (allOutlets.filter fun p => l.any fun b => decide (readPhysical b = some p)).Pairwise (· < ·) :=
      List.Pairwise.filter _ (by decide : allOutlets.Pairwise (· < ·))
    refine ⟨hsort, ?_⟩
    have hsub : (allOutlets.filter fun p => l.any fun b => decide (readPhysical b = some p)) ⊆
        l.filterMap readPhysical := fun p hp => by
      obtain ⟨b, hb, hbp⟩ := List.any_eq_true.1 (List.mem_filter.1 hp).2
      exact List.mem_filterMap.2 ⟨b, hb, of_decide_eq_true hbp⟩
    have hnd : (allOutlets.filter fun p => l.any fun b => decide (readPhysical b = some p)).Nodup :=
      hsort.imp fun hlt => ne_of_lt hlt
    exact (hnd.subperm hsub).length_le.trans (List.length_filterMap_le _ _)
  · cases h

theorem mapStored_setGangList {m : MapRec} (h : mapStored m) (g : GangId) {l : Option (List OutletId)}
    (hl : ∀ ms ∈ l, listOk ms) : mapStored (m.setGangList g l) := by
  refine ⟨h.1, fun k ms hms => ?_⟩
  simp only [MapRec.setGangList, tget_tset] at hms
  split at hms
  · exact hl ms hms
  · exact h.2 k ms hms

theorem powerOk_reqStageGang (fr : Frame) {s : State} (h : powerOk s) : powerOk (reqStageGang fr s).1 := by
  unfold reqStageGang
  split
  · exact h
  · split
    · next hlen =>
      split
      · next ms _ hms =>
        split
        · exact h
        · refine powerOk_staged h (mapStored_setGangList h.1.2.2 _ fun ms' hms' => ?_)
          obtain ⟨hsort, hle⟩ := readMembers_sorted hms
          split at hms'
          · cases hms'
          · next hne =>
            cases hms'
            exact ⟨hsort, List.length_pos_of_ne_nil hne, hle.trans hlen⟩
      · exact h
    · exact h

theorem powerOk_reqDiscardMap (fr : Frame) {s : State} (h : powerOk s) : powerOk (reqDiscardMap fr s).1 := by
  unfold reqDiscardMap
  split
  · exact powerOk_staged h (mapStored_of_active h.1)
  · exact h

/-! ## Applying the staged map (R138 to R142) -/

theorem firstBad_none {bad : GangId → OutletId → Bool} (h : firstBad bad = none) (g : GangId) (p : OutletId) :
    bad g p = false := by
  have hg := List.findSome?_eq_none_iff.1 h g (mem_allGangs g)
  have hp := List.find?_eq_none.1 (Option.map_eq_none_iff.1 hg) p (mem_allOutlets p)
  simpa using hp

/-- The staged map passes the checks of R139. -/
structure Applicable (m : MapRec) : Prop where
  number : ∀ p, m.badNumber p = false
  size : ∀ g, m.badSize g = false
  member : ∀ g p, m.badMember g p = false

theorem applicable_of_mapProblem {s : State} (h : s.mapProblem = none) : Applicable s.stagedMap := by
  unfold State.mapProblem at h
  split at h
  · cases h
  · next hnum =>
    split at h
    · cases h
    · next hsize =>
      split at h
      · cases h
      · next hmem =>
        exact ⟨fun p => by simpa using List.find?_eq_none.1 hnum p (mem_allOutlets p),
          fun g => by simpa using List.find?_eq_none.1 hsize g (mem_allGangs g), firstBad_none hmem⟩

theorem Applicable.numbersOk {m : MapRec} (h : Applicable m) (hm : mapStored m) : numbersOk m := by
  have hbad : ∀ p, ∀ n ∈ tget m.numbers p, n ≤ m.enabled.length ∧ ∀ q, q ≠ p → tget m.numbers q ≠ some n := by
    intro p n hn
    have hp := h.number p
    rw [MapRec.badNumber, Option.mem_def.1 hn] at hp
    simp only [Bool.or_eq_false_iff, decide_eq_false_iff_not, List.any_eq_false] at hp
    exact ⟨Nat.not_lt.1 hp.1, fun q hq hqn => hp.2 q (mem_allOutlets q) (by simp [hq, hqn])⟩
  refine ⟨fun p n hn => ⟨(hm.1 p n hn).1, (hbad p n hn).1⟩, fun p q hp hpq => ?_⟩
  obtain ⟨n, hn⟩ := Option.isSome_iff_exists.1 hp
  by_contra hne
  exact (hbad p n hn).2 q (fun e => hne e.symm) (hpq ▸ hn)

theorem Applicable.gangsOk {m : MapRec} (h : Applicable m) (hm : mapStored m) : gangsOk m := by
  have hmem : ∀ p g, m.hasMember p g = true → (tget m.numbers p).isSome ∧
      ∀ k, k < g → m.hasMember p k = false := by
    intro p g hp
    have hb := h.member g p
    simp only [MapRec.badMember, hp, Bool.true_and, Bool.or_eq_false_iff, List.any_eq_false] at hb
    refine ⟨Option.isSome_iff_ne_none.2 fun e => by simp [e] at hb, fun k hk => ?_⟩
    simpa [hk] using hb.2 k (mem_allGangs k)
  refine ⟨fun g ms hms => ⟨hm.2 g ms hms, ?_, fun p hp => (hmem p g ((hasMember_iff m p g).2 ⟨ms, hms, hp⟩)).1⟩,
    fun p g k hg hk => ?_⟩
  · have hs := h.size g
    rw [MapRec.badSize, Option.mem_def.1 hms] at hs
    have htwo : 2 ≤ (allOutlets.filter ms.contains).length := by simpa [Nat.succ_le_iff] using hs
    have hnd : (allOutlets.filter ms.contains).Nodup := List.Nodup.filter _ (by decide : allOutlets.Nodup)
    exact htwo.trans (hnd.subperm fun p hp => by simpa using (List.mem_filter.1 hp).2).length_le
  · rcases lt_trichotomy g k with hlt | rfl | hlt
    · exact absurd hg (by simp [(hmem p k hk).2 g hlt])
    · rfl
    · exact absurd hk (by simp [(hmem p g hg).2 k hlt])

/-- A feed of a valid map has an outlet. -/
theorem exists_feedOf {s : State} (h : mapsOk s) {f : Feed} (hf : isFeed s f) : ∃ p, s.feedOf p = some f := by
  obtain ⟨p, -, hp⟩ := List.mem_filterMap.1 ((mem_feeds h).2 hf)
  exact ⟨p, (leads_iff.1 hp).1⟩

theorem outletBusy_of_feed {s : State} {p : OutletId} {f : Feed} (h : s.feedOf p = some f) :
    s.outletBusy p = (s.feedState f).busy := by
  simp [State.outletBusy, outletState_of_feed h]

section
variable {s : State} (h : powerOk s) (hq : s.quiescent = true)
include h hq

/-- Before an apply every feed is in OFF or LATCHED (R138). -/
theorem quiet_feed {f : Feed} (hf : isFeed s f) : (s.feedState f).busy = false := by
  obtain ⟨p, hp⟩ := exists_feedOf h.1 hf
  have hall := List.all_eq_true.1 (Bool.and_eq_true_iff.1 hq).1 p (mem_allOutlets p)
  simpa [outletBusy_of_feed hp] using hall

theorem quiet_idle (p : OutletId) : (s.outlet p).idle := by
  have hok := h.2.1 p
  cases hf : s.feedOf p with
  | none => exact (outletOk_unmapped hf).1 hok
  | some f =>
    have hst := holding_of_not_busy (quiet_feed h hq (isFeed_of_feedOf hf))
    exact (soundIn_idle hst _ _).1 ((outletOk_of_feed hf).1 hok)

theorem quiet_queue : s.queue = [] := by
  refine List.eq_nil_iff_forall_not_mem.2 fun e he => ?_
  obtain ⟨hf, hst, -⟩ := h.2.2.1.1 e he
  have := quiet_feed h hq hf
  simp [hst, FeedState.busy] at this

theorem quiet_claim : s.claim = none := by
  refine Option.eq_none_iff_forall_not_mem.2 fun c hc => ?_
  obtain ⟨e, he, -⟩ := h.2.2.2.1 c hc
  simp [quiet_queue h hq] at he

theorem quiet_totals : s.held = 0 ∧ s.active = 0 := by
  obtain ⟨hb, -⟩ := (powerOk_iff s).1 h
  exact ⟨hb.held.trans (heldSum_of_idle (quiet_idle h hq)), hb.active.trans (drawSum_of_idle (quiet_idle h hq))⟩

/-- A feed part that an outlet takes over at an apply is in OFF or LATCHED (R140). -/
theorem outletAfter_busy {p q : OutletId} (hp : s.stagedMap.feedOf p = some (.solo q)) :
    (s.outletAfter p).own.state.busy = false := by
  unfold State.outletAfter
  dsimp only
  split
  · next hn => rw [hp] at hn; cases hn
  · next hn => rw [hp] at hn; cases hn
  · rfl
  · next r _ hr _ =>
    have hr' : s.feedOf p = some (.solo r) := hr
    obtain rfl := feedOf_solo hr'
    exact quiet_feed h hq (isFeed_of_feedOf hr')
  · next g _ hg _ =>
    have hg' : s.feedOf p = some (.gang g) := hg
    exact quiet_feed h hq (isFeed_of_feedOf hg')
  · rfl

/-- A gang of the new map is in OFF or LATCHED after an apply (R141). -/
theorem gangAfter_busy {g : GangId} (hg : (tget s.stagedMap.gangs g).isSome) :
    (s.gangAfter g).own.state.busy = false := by
  unfold State.gangAfter
  dsimp only
  split
  · split
    · rfl
    · split <;> rfl
  · next hsame =>
    have hsame' : tget s.stagedMap.gangs g = tget s.activeMap.gangs g := by simpa [State.membershipChanges] using hsame
    have hf : isFeed s (.gang g) := by rw [hsame'] at hg; exact hg
    exact quiet_feed h hq hf

theorem powerOk_applyStaged (hm : s.mapProblem = none) : powerOk (applyStaged s) := by
  have happ := applicable_of_mapProblem hm
  have hst := h.1.2.2
  obtain ⟨hheld, hact⟩ := quiet_totals h hq
  refine powerOk_of_idle ⟨happ.numbersOk hst, happ.gangsOk hst, hst⟩ (fun p => ?_) (fun f hf => ?_) ?_ ?_ hheld hact
  · rw [applyStaged_outlet, outletAfter_eq]
    exact quiet_idle h hq p
  · cases f with
    | solo p =>
      show ((applyStaged s).outlet p).own.state.busy = false
      rw [applyStaged_outlet]
      exact outletAfter_busy h hq hf
    | gang g =>
      show ((applyStaged s).gang g).own.state.busy = false
      rw [applyStaged_gang]
      exact gangAfter_busy h hq hf
  · exact quiet_queue (s := s) h hq
  · exact quiet_claim (s := s) h hq

end

theorem calm_foldl {α : Type} {g : State → α → State} (hg : ∀ s x, Calm s (g s x)) (l : List α) (s : State) :
    Calm s (l.foldl g s) := by
  induction l generalizing s with
  | nil => exact Calm.refl s
  | cons x l ih => exact (hg s x).trans (ih _)

theorem calm_applyNotices (s t : State) : Calm t (applyNotices s t) :=
  ((calm_raise _ _ t).trans (calm_foldl (fun u p => calm_raise (.outlet p) .state u) _ _)).trans
    (calm_foldl (fun u g => calm_raise (.gang g) .state u) _ _)

theorem powerOk_reqApplyMap (fr : Frame) {s : State} (h : powerOk s) : powerOk (reqApplyMap fr s).1 := by
  unfold reqApplyMap
  split
  · split
    · next hq =>
      split
      · exact h
      · next hm => exact (calm_applyNotices s _).lowers.powerOk (powerOk_applyStaged h hq hm)
    · exact h
  · exact h

/-! ## Reports -/

theorem calm_reqReadMeter (fr : Frame) (s : State) : Calm s (reqReadMeter fr s).1 := by
  unfold reqReadMeter
  split
  · split
    · exact calm_updOutlet (h := fun o => { o with peak := peakAfterRead o }) s rfl ⟨rfl, rfl, rfl, fun _ h => h⟩
    · exact Calm.refl s
  · exact Calm.refl s

theorem calm_acknowledge (a : Nat) (s : State) : Calm s (acknowledge a s) := by
  have hfree : ∀ (s : State) (n : Notice), Calm s (freeSlotOf s n) := fun s n => by
    unfold freeSlotOf
    split
    · exact calm_setSlot _ _ s
    · exact Calm.refl s
  have hcut : Calm s { s with notices := s.notices.filter fun n => !ackedBy s.nextNumber a n } :=
    calm_of_eq rfl rfl rfl rfl rfl rfl rfl rfl (fun _ h => h)
  unfold acknowledge
  split
  · exact hcut.trans (calm_foldl hfree _ _)
  · exact Calm.refl s

theorem calm_reqFetchNotices (fr : Frame) (s : State) : Calm s (reqFetchNotices fr s).1 := by
  unfold reqFetchNotices fetch
  split
  · split
    · exact (calm_acknowledge _ s).trans (calm_of_eq rfl rfl rfl rfl rfl rfl rfl rfl (fun _ h => h))
    · exact Calm.refl s
  · exact Calm.refl s

/-! ## Hard reset (R25, R42, R131, R143) -/

theorem mapsOk_default {s : State} (ha : s.activeMap = MapRec.default) (hst : s.stagedMap = MapRec.default) :
    mapsOk s := by
  simp only [mapsOk, ha, hst, numbersOk, gangsOk, mapStored, listOk]
  decide +kernel

theorem resetOutlet_idle (o : OutletRec) : (resetOutlet o).idle := ⟨rfl, rfl, rfl, rfl, rfl, rfl, rfl⟩

theorem powerOk_blocksReset (s : State) : powerOk (blocksReset s) := by
  refine powerOk_of_idle (mapsOk_default rfl rfl) (fun p => ?_) (fun f _ => ?_) rfl rfl rfl rfl
  · rw [blocksReset_outlet]
    exact resetOutlet_idle _
  · cases f with
    | solo p =>
      show ((blocksReset s).outlet p).own.state.busy = false
      rw [blocksReset_outlet]
      rfl
    | gang g =>
      show ((blocksReset s).gang g).own.state.busy = false
      rw [blocksReset_gang]
      rfl

theorem calm_wake (s : State) : Calm s (wakeEoff (wakeSupply (wakeSupply (allOutlets.foldl wakeOutlet s) 0) 1)) := by
  have ho : ∀ (s : State) (p : OutletId), Calm s (wakeOutlet s p) := fun s p => by
    unfold wakeOutlet
    split
    · exact calm_pins (h := fun o => { o with debounce := some o.profile.debounce }) s rfl
    · exact Calm.refl s
  have hk : ∀ (s : State) (k : SupplyId), Calm s (wakeSupply s k) := fun s k => by
    unfold wakeSupply
    split
    · exact calm_of_eq rfl rfl rfl rfl rfl rfl rfl rfl (fun _ h => h)
    · exact Calm.refl s
  have he : ∀ s : State, Calm s (wakeEoff s) := fun s => by
    unfold wakeEoff
    split
    · exact calm_of_eq rfl rfl rfl rfl rfl rfl rfl rfl (fun _ h => h)
    · exact Calm.refl s
  exact (((calm_foldl ho allOutlets s).trans (hk _ 0)).trans (hk _ 1)).trans (he _)

theorem powerOk_finishReset (v : Level) (s : State) : powerOk (finishReset v s) := by
  unfold finishReset
  refine (Calm.trans ?_ (calm_wake _)).lowers.powerOk (powerOk_blocksReset s)
  exact calm_of_eq rfl rfl rfl rfl rfl rfl rfl rfl (fun _ h => h)

/-! ## Every step -/

/-- A calm change of state keeps the budget law. -/
theorem Calm.powerOk {s t : State} (h : Calm s t) (hs : powerOk s) : powerOk t := h.lowers.powerOk hs

/-- Every effect of the part keeps the budget law. -/
theorem effectsKeep_powerOk : EffectsKeep powerOk where
  pending _ _ h := (calm_of_eq rfl rfl rfl rfl rfl rfl rfl rfl fun _ h => h).powerOk h
  link _ _ h := (calm_of_eq rfl rfl rfl rfl rfl rfl rfl rfl fun _ h => h).powerOk h
  aux s h := (calm_driveAux s).powerOk h
  readMeter f s h := (calm_reqReadMeter f s).powerOk h
  powerOn f _ h := powerOk_reqPowerOn f h
  powerOff f _ h := powerOk_reqPowerOff f h
  clearFault f _ h := powerOk_reqClearFault f h
  setProfile f _ h := powerOk_reqSetProfile f h
  setGangProfile f _ h := powerOk_reqSetGangProfile f h
  setSupply f _ h := powerOk_reqSetSupply f h
  setPolicy f _ h := powerOk_reqSetPolicy f h
  setLine f _ h := powerOk_reqSetLine f h
  stageMap f _ h := powerOk_reqStageMap f h
  stageGang f _ h := powerOk_reqStageGang f h
  applyMap f _ h := powerOk_reqApplyMap f h
  discardMap f _ h := powerOk_reqDiscardMap f h
  fetchNotices f s h := (calm_reqFetchNotices f s).powerOk h
  resetBy _ _ h := (calm_of_eq rfl rfl rfl rfl rfl rfl rfl rfl fun _ h => h).powerOk h
  enterReset s _ := (calm_of_eq (s := blocksReset s) rfl rfl rfl rfl rfl rfl rfl rfl fun _ h => h).powerOk
    (powerOk_blocksReset s)
  finishReset v s _ := powerOk_finishReset v s
  outletPins _ _ _ _ s h := (calm_pins s rfl).powerOk h
  supgoodInReset k _ s h := (calm_updSupply k _ s).powerOk h
  lineInput l i s h := (calm_setInput l i s).powerOk h
  supgoodLost k _ h := powerOk_supgoodLost k h
  supgoodFound k s h := by
    unfold supgoodFound
    split
    · exact h
    · exact (calm_updSupply k _ s).powerOk h
  supplyRestored k _ h := powerOk_supplyRestored k h
  ageEntry f _ h := powerOk_ageEntry f h
  scan p v i _ h := powerOk_scan p v i h
  dischargeExpired p _ h := powerOk_dischargeExpired p h
  memberDischargeExpired p _ h := powerOk_memberDischargeExpired p h
  rampExpired p s h := (lowers_rampExpired p s).powerOk h
  memberRampExpired p s h := (lowers_memberRampExpired p s).powerOk h
  blankingExpired p s h := (lowers_blankingExpired p s).powerOk h
  stabilityExpired f s h := ite_keeps (fun _ => (calm_updFeed f s
    (h := fun r => { r with count := 0, stability := none }) fun _ => rfl).powerOk h) h
  backoffExpired f _ hf h := powerOk_backoffExpired f hf h
  presChanged p a s h := by
    unfold presChanged
    split
    · exact h
    · exact (calm_pins s rfl).powerOk h
  debounced p _ h := powerOk_debounced p h
  overcurrentBegins p s h := (lowers_overcurrentBegins p s).powerOk h
  overcurrentEnds p s h := (calm_updOutlet s rfl
    ⟨rfl, rfl, rfl, fun _ ⟨h1, h2, h3, h4, _⟩ => ⟨h1, h2, h3, h4, rfl⟩⟩).powerOk h
  widthReached p s h := ite_keeps (fun hc => (lowers_qualify hc.2).powerOk h) h
  pairWindowExpired p s h := (calm_pairOff p s).powerOk h
  shortChanged p a s h := (lowers_shortChanged p a s).powerOk h
  overdrawExpired p s h := (lowers_overdrawExpired p s).powerOk h
  lineQualified l _ h := powerOk_lineQualified l h

/-- Settles O54: every effect of the part keeps the budget law, and so does every step. -/
theorem stepsKeepTheBudgetLaw : Obligations.StepsKeepTheBudgetLaw :=
  fun s t h hstep => effectsKeep_powerOk.step s t h hstep

end Sys2Proof.Machine
end


/-! # Ramps, discharges and presence of an outlet, in the manual's words (O46, O48, O51) -/

section
namespace Sys2Proof.Machine

open Sys2Proof.Safety

/-! ## Writes to one record, one after the other -/

theorem updOutlet_setOutlet (p : OutletId) (h : OutletRec → OutletRec) (s : State) (o : OutletRec) :
    updOutlet p h (s.setOutlet p o) = s.setOutlet p (h o) := by
  simp [updOutlet]

theorem updSolo_setOutlet (p : OutletId) (h : FeedRec → FeedRec) (s : State) (o : OutletRec) :
    updFeed (.solo p) h (s.setOutlet p o) = s.setOutlet p { o with own := h o.own } :=
  updOutlet_setOutlet p (fun o => { o with own := h o.own }) s o

theorem updOutlet_updOutlet (p : OutletId) (h g : OutletRec → OutletRec) (s : State) :
    updOutlet p h (updOutlet p g s) = s.setOutlet p (h (g (s.outlet p))) :=
  updOutlet_setOutlet p h s (g (s.outlet p))

/-- The return of an allocation, with the record as the manual words it (R7, R16). -/
theorem returnAlloc_setOutlet (p : OutletId) (s : State) (o : OutletRec) :
    returnAlloc p (s.setOutlet p o) = { s.setOutlet p (returned o) with held := s.held - o.alloc } := by
  simp [returnAlloc, returned]

/-! ## The end of a solo stop (R16, R17) -/

/-- A VSENSE below a tenth of 12 V is DOWN (R86). -/
theorem levelOf_down {v : Nat} (h : 10 * v < 1200000) : levelOf v = .down := by
  have hup : ¬ Config.nominalUv * 9 ≤ v * 10 := by show ¬ 1200000 * 9 ≤ v * 10; omega
  have hmid : ¬ Config.nominalUv ≤ v * 10 := by show ¬ 1200000 ≤ v * 10; omega
  rw [levelOf, if_neg hup, if_neg hmid]

/-- The meter's part of a scan that finds the output DOWN (R86 to R89). -/
theorem measured_down {v : Nat} (h : 10 * v < 1200000) (i : Nat) (o : OutletRec) :
    measured v i o =
      { o with
        ring := if o.ring.length < 8 then o.ring ++ [min 2000 (2000 * v * i / (1200000 * 1000000))]
          else o.ring.tail ++ [min 2000 (2000 * v * i / (1200000 * 1000000))]
        peak := max o.peak (min 2000 (2000 * v * i / (1200000 * 1000000)))
        latest := some (min 2000 (2000 * v * i / (1200000 * 1000000)), OutLevel.down) } := by
  rw [measured, levelOf_down h, pushSample, List.drop_one]
  rfl

section
variable {p : OutletId} {c : StopCause} {d : Dest} {s : State}

/-- A scan that finds a stopping solo feed's output DOWN ends the stop (R16, R93). -/
theorem scan_down_stopping (hf : s.feedOf p = some (.solo p)) (hst : s.feedState (.solo p) = .stopping c d) {v : Nat}
    (hv : 10 * v < 1200000) (i : Nat) : scan p v i s = soloDischarged p d (updOutlet p (measured v i) s) := by
  have hf' : (updOutlet p (measured v i) s).feedOf p = some (.solo p) := hf
  have hst' : (updOutlet p (measured v i) s).feedState (.solo p) = .stopping c d :=
    (feedState_updOutlet s rfl _).trans hst
  have hoff : (updOutlet p (measured v i) s).outletOn p = false := by
    simp [State.outletOn, outletState_of_feed hf', hst']
  unfold scan reportDown
  dsimp only
  rw [if_neg (by simp [hoff]), if_pos (levelOf_down hv), hf']
  dsimp only
  rw [hst']

/-- The discharge timeout of a stopping solo feed (R17). -/
theorem dischargeExpired_stopping (hf : s.feedOf p = some (.solo p)) (hst : s.feedState (.solo p) = .stopping c d)
    (ht : (s.outlet p).discharge.isSome = true) : dischargeExpired p s = soloTimeout p s := by
  unfold dischargeExpired
  rw [if_pos ⟨hf, ht⟩, hst]

/-- The record after a discharge timeout: allocation returned, cause DISCHARGE_TIMEOUT, LATCHED (R17). -/
theorem timedOut_eq (p : OutletId) (s : State) :
    setState (.solo p) .latched
        (updOutlet p (fun o => { o with lastCause := some .dischargeTimeout }) (returnAlloc p s)) =
      { s.setOutlet p { returned (s.outlet p) with
          lastCause := some .dischargeTimeout, own := { (s.outlet p).own with state := .latched } } with
        held := s.held - (s.outlet p).alloc } := by
  have hcause : updOutlet p (fun o => { o with lastCause := some .dischargeTimeout })
      (s.setOutlet p (returned (s.outlet p))) =
      s.setOutlet p { returned (s.outlet p) with lastCause := some .dischargeTimeout } := updOutlet_setOutlet _ _ _ _
  have hlatch := updSolo_setOutlet p (fun r => { r with state := .latched }) s
    { returned (s.outlet p) with lastCause := some .dischargeTimeout }
  rw [← hcause] at hlatch
  exact congrArg (fun t : State => { t with held := s.held - (s.outlet p).alloc }) hlatch

end

/-- Settles O46: the scan reports the DOWN output to the stopping feed, whose allocation returns; the four destinations
are the cases of `enterDest`. -/
theorem soloDischargeEndsTheStop : Obligations.SoloDischargeEndsTheStop := by
  intro p c d s hlive hf hst
  refine ⟨fun v i hv => ?_, fun ht => ?_⟩
  · dsimp only
    rw [← measured_down hv i (s.outlet p)]
    have hscan : exec (.meterScan p v i) s = .next (driveAux (soloDischarged p d (updOutlet p (measured v i) s))) :=
      congrArg Host.Outcome.next ((event_live _ hlive).trans (congrArg driveAux (scan_down_stopping hf hst hv i)))
    rw [hscan, soloDischarged, updOutlet, returnAlloc_setOutlet]
    cases d <;> rfl
  · have hexp : exec (.dischargeTimeout p) s = .next (driveAux (soloTimeout p s)) :=
      congrArg Host.Outcome.next
        ((event_live _ hlive).trans (congrArg driveAux (dischargeExpired_stopping hf hst ht)))
    rw [hexp, soloTimeout, timedOut_eq]

/-! ## The end of a ramp (R12, R92, R105, R123) -/

theorem outputGood_iff (o : OutletRec) : o.outputGood = true ↔ o.ring ≠ [] ∧ ∃ x, o.latest = some (x, .up) := by
  unfold OutletRec.outputGood
  cases o.latest with
  | none => simp
  | some y => simp [Prod.ext_iff]

theorem outputGood_rampOff (o : OutletRec) : ({ o with ramp := none } : OutletRec).outputGood = o.outputGood := rfl

/-- The ramps of a gang have ended with one member's exactly if no other member's runs (R123). -/
theorem rampsEnded_iff (g : GangId) (p : OutletId) (s : State) :
    (s.setOutlet p { s.outlet p with ramp := none }).rampsEnded g = true ↔
      ∀ q ∈ s.outletsOf (.gang g), q ≠ p → (s.outlet q).ramp = none := by
  simp only [State.rampsEnded, List.all_eq_true, Option.isNone_iff_eq_none]
  refine forall₂_congr fun q hq => ?_
  rw [setOutlet_outlet]
  by_cases e : q = p
  · simp [e]
  · simp [e]

section
variable {p : OutletId} {s : State} (hr : (s.outlet p).ramp.isSome = true)
include hr

theorem rampExpired_eq (hf : s.feedOf p = some (.solo p)) (hst : s.feedState (.solo p) = .starting) :
    rampExpired p s =
      if (s.outlet p).outputGood = true then
        completeOp .powerOn .powered (.solo p) (raise (.outlet p) .state
          (enterOn (.solo p) (s.setOutlet p { s.outlet p with ramp := none })))
      else takeFault p .startFail (s.setOutlet p { s.outlet p with ramp := none }) := by
  rw [rampExpired, if_pos ⟨hf, hr, hst⟩, updOutlet]
  dsimp only
  rw [setOutlet_outlet_same, outputGood_rampOff]

theorem memberRampExpired_eq {g : GangId} (hf : s.feedOf p = some (.gang g))
    (hst : s.feedState (.gang g) = .starting) :
    memberRampExpired p s =
      if (s.outlet p).outputGood = true then
        if (s.setOutlet p { s.outlet p with ramp := none }).rampsEnded g = true then
          raise (.gang g) .state (completeOp .powerOn .powered (.gang g)
            (enterOn (.gang g) (s.setOutlet p { s.outlet p with ramp := none })))
        else s.setOutlet p { s.outlet p with ramp := none }
      else takeFault p .startFail (s.setOutlet p { s.outlet p with ramp := none }) := by
  unfold memberRampExpired
  rw [hf]
  dsimp only
  rw [if_pos ⟨hr, hst⟩, memberRampIn, updOutlet]
  rw [setOutlet_outlet_same, outputGood_rampOff]

end

/-- A solo feed enters ON with its stability timer (R12, R113). -/
theorem enterOn_solo (p : OutletId) (s : State) (o : OutletRec) :
    enterOn (.solo p) (s.setOutlet p o) =
      s.setOutlet p { o with own := { o.own with state := .on, stability := some o.profile.stability } } := by
  rw [enterOn, updSolo_setOutlet]
  simp [State.stabilityOf]

/-- Settles O48: the output-good condition decides, and for a gang whether another member's ramp still runs. -/
theorem rampExpiryReadsOutputGood : Obligations.RampExpiryReadsOutputGood := by
  intro p s hlive hr
  dsimp only
  rw [← outputGood_iff]
  refine ⟨fun hf hst => ?_, fun g hf hst => ?_⟩
  · have hexec : exec (.rampExpiry p) s = .next (driveAux (rampExpired p s)) :=
      congrArg Host.Outcome.next (event_live _ hlive)
    rw [hexec, rampExpired_eq hr hf hst]
    refine ⟨fun hgood => ?_, fun hbad => by rw [if_neg hbad]⟩
    rw [if_pos hgood, enterOn_solo]
  · have hexec : exec (.memberRampExpiry p) s = .next (driveAux (memberRampExpired p s)) :=
      congrArg Host.Outcome.next (event_live _ hlive)
    rw [hexec, memberRampExpired_eq hr hf hst]
    refine ⟨fun hgood hother => ?_, fun hgood hlast => ?_, fun hbad => by rw [if_neg hbad]⟩
    · obtain ⟨q, hq, hne, hrun⟩ := hother
      have hrest : ¬ (s.setOutlet p { s.outlet p with ramp := none }).rampsEnded g = true := fun hall => by
        simp [(rampsEnded_iff g p s).1 hall q hq hne] at hrun
      rw [if_pos hgood, if_neg hrest]
    · rw [if_pos hgood, if_pos ((rampsEnded_iff g p s).2 hlast)]
      rfl

/-! ## Presence (R18 to R21) -/

/-- The outlet with its PRES level recorded as its presence, and the notice of it (R19). -/
def presenceTold (p : OutletId) (s : State) : State :=
  raise (.outlet p) .presence
    (s.setOutlet p { s.outlet p with debounce := none, presence := (s.outlet p).pres })

theorem presenceTold_feedState (p : OutletId) (s : State) :
    (presenceTold p s).feedState (.solo p) = (s.outlet p).own.state := by
  simp [presenceTold, State.feedState, State.feedRec]

theorem presenceTold_profile (p : OutletId) (s : State) :
    ((presenceTold p s).outlet p).profile = (s.outlet p).profile := by
  simp [presenceTold]

section
variable {p : OutletId} {s : State} (hd : (s.outlet p).debounce.isSome = true)
include hd

theorem debounced_same (h : (s.outlet p).pres = (s.outlet p).presence) :
    debounced p s = s.setOutlet p { s.outlet p with debounce := none, presence := (s.outlet p).pres } := by
  rw [debounced, if_pos hd]
  dsimp only
  rw [if_pos h, updOutlet, h]

/-- A level that differs is recorded, with its notice, and acts (R19). -/
theorem debounced_changed (h : (s.outlet p).pres ≠ (s.outlet p).presence) :
    debounced p s = presenceActs p (s.outlet p).pres (presenceTold p s) := by
  rw [debounced, if_pos hd]
  dsimp only
  rw [if_neg h, updOutlet_updOutlet, presenceTold]

/-- A change acts on no feed but an ON_PRESENCE solo one (R20, R21). -/
theorem debounced_told (h : (s.outlet p).pres ≠ (s.outlet p).presence)
    (hno : ¬ (s.feedOf p = some (.solo p) ∧ (s.outlet p).profile.startMode = .onPresence)) :
    debounced p s = presenceTold p s := by
  rw [debounced_changed hd h, presenceActs, presenceTold_profile]
  exact if_neg hno

section
variable (hon : s.feedOf p = some (.solo p) ∧ (s.outlet p).profile.startMode = .onPresence)
include hon

theorem debounced_acts (h : (s.outlet p).pres ≠ (s.outlet p).presence) :
    debounced p s =
      if (s.outlet p).pres = true then arrived (.solo p) (presenceTold p s)
      else departed (.solo p) (presenceTold p s) := by
  rw [debounced_changed hd h, presenceActs, presenceTold_profile]
  exact if_pos hon

/-- An arrival (R20). -/
theorem debounced_arrival (hpres : (s.outlet p).pres = true) (hwas : (s.outlet p).presence = false) :
    debounced p s =
      if (s.outlet p).own.state = .off ∧ s.eoff = false then
        pass (raise (.outlet p) .state (enterQueued (.solo p) .presence (presenceTold p s)))
      else presenceTold p s := by
  rw [debounced_acts hd hon (by simp [hpres, hwas]), if_pos hpres, arrived, presenceTold_feedState]
  rfl

/-- A loss (R21). -/
theorem debounced_loss (hpres : (s.outlet p).pres = false) (hwas : (s.outlet p).presence = true) :
    debounced p s = departed (.solo p) (presenceTold p s) := by
  rw [debounced_acts hd hon (by simp [hpres, hwas]), if_neg (by simp [hpres])]

end
end

/-- A loss while the feed runs stops it (R21, R13). -/
theorem departed_running {p : OutletId} {s : State} (h : (s.feedState (.solo p)).powered = true) :
    ∃ t, afterStop (.solo p) .removal .off s t ∧
      departed (.solo p) s = completeOp .powerOn .removed (.solo p) (raise (.outlet p) .state t) := by
  refine ⟨_, stopFeed_spec (.solo p) .removal .off s (List.nodup_singleton p), ?_⟩
  unfold departed
  cases hst : s.feedState (.solo p) <;> simp_all [FeedState.powered, subjectOf]

theorem exec_presLevelChange {p : OutletId} {a : Bool} {s : State} (h : s.inReset = false)
    (ha : a ≠ (s.outlet p).pres) : exec (.presLevelChange p a) s =
      .next (driveAux (s.setOutlet p
        { s.outlet p with pres := a, debounce := some (s.outlet p).profile.debounce })) := by
  have hchange : presChanged p a s = s.setOutlet p _ := if_neg fun e => ha e.symm
  show Host.Outcome.next (if s.inReset = true then _ else event (presChanged p a) s) = _
  rw [if_neg (by simp [h]), event_live _ h, hchange]

/-- Settles O51: the debounce's expiry records the level, and its change acts on an ON_PRESENCE solo feed by the feed's
state. -/
theorem presenceIsDebouncedAndActs : Obligations.PresenceIsDebouncedAndActs := by
  intro p s hlive
  have hexec : exec (.presenceDebounceExpiry p) s = .next (driveAux (debounced p s)) :=
    congrArg Host.Outcome.next (event_live _ hlive)
  dsimp only
  rw [hexec]
  refine ⟨fun a ha => exec_presLevelChange hlive ha, fun hd => ⟨fun heq => by rw [debounced_same hd heq],
    fun hne hno => by rw [debounced_told hd hne hno, presenceTold],
    fun hpres hwas hon => by rw [debounced_arrival hd hon hpres hwas, presenceTold], fun hpres hwas hon => ?_⟩⟩
  have hst := presenceTold_feedState p s
  rw [debounced_loss hd hon hpres hwas]
  have hrun := departed_running (p := p) (s := presenceTold p s)
  cases hs : (s.outlet p).own.state with
  | off => simp only [departed, hst, hs]; rfl
  | latched => simp only [departed, hst, hs]; rfl
  | queued => simp only [departed, hst, hs, withdraw_eq]; rfl
  | retryWait => simp only [departed, hst, hs]; rfl
  | stopping c d => cases d <;> (simp only [departed, hst, hs]; rfl)
  | starting =>
    obtain ⟨t, hstop, hdep⟩ := hrun (by rw [hst, hs]; rfl)
    exact ⟨t, hstop, by rw [hdep]⟩
  | on =>
    obtain ⟨t, hstop, hdep⟩ := hrun (by rw [hst, hs]; rfl)
    exact ⟨t, hstop, by rw [hdep]⟩

end Sys2Proof.Machine
end


/-! # The hard-reset values (O3) -/

section
namespace Sys2Proof.Machine

open Sys2Proof.Safety

@[simp] theorem reset_outlet (p : OutletId) : State.reset.outlet p = OutletRec.reset := by
  simp [State.outlet, State.reset, tget]

@[simp] theorem reset_gang (g : GangId) : State.reset.gang g = GangRec.reset := by
  simp [State.gang, State.reset, tget]

@[simp] theorem reset_supply (k : SupplyId) : State.reset.supply k = SupplyRec.reset := by
  simp [State.supply, State.reset, tget]

@[simp] theorem reset_slot (n : SlotId) : State.reset.slot n = .free := by
  simp [State.slot, State.reset, tget]

@[simp] theorem reset_auxLine (k : AuxId) : State.reset.auxLine k = AuxLine.reset := by
  simp [State.auxLine, State.reset, tget]

/-- Every feed is at rest at reset: OFF, count 0, no operation, no timer (R25, R131). -/
@[simp] theorem reset_feedRec (f : Feed) : State.reset.feedRec f = FeedRec.rest := by
  cases f with
  | solo p => simp [State.feedRec, OutletRec.reset]
  | gang g => simp [State.feedRec, GangRec.reset]

theorem reset_feedState (f : Feed) : State.reset.feedState f = .off := by
  rw [State.feedState, reset_feedRec]
  rfl

/-- The default map numbers the outlets 1 to 12 and has no gang (R143). -/
theorem reset_map : (∀ p, State.reset.logicalOf p = some (p.val + 1)) ∧ ∀ g, State.reset.membersOf g = none := by
  decide +kernel

theorem afterReset_reset : afterReset State.reset State.reset .low := by
  refine ⟨fun p => ?_, fun g => ?_, reset_map.1, reset_map.2, rfl, fun k => ?_, rfl, rfl, rfl, rfl, rfl, rfl, rfl, rfl,
    rfl, reset_slot, rfl, rfl, rfl, rfl, rfl, fun k => ?_, rfl, rfl⟩
  · simp only [reset_outlet]; rfl
  · rw [reset_gang]; rfl
  · simp only [reset_supply]; rfl
  · simp only [reset_auxLine]; rfl

theorem powerOk_reset : powerOk State.reset := by
  refine powerOk_of_idle (mapsOk_default rfl rfl) (fun p => ?_) (fun f _ => ?_) rfl rfl rfl rfl
  · rw [reset_outlet]
    exact resetOutlet_idle OutletRec.reset
  · rw [reset_feedState]
    rfl

theorem emergencyOk_reset : emergencyOk State.reset := fun _ f _ => by
  rw [reset_feedState]
  rfl

theorem auxOk_reset : auxOk State.reset := fun k => by
  rw [reset_auxLine]
  rfl

theorem profilesOk_reset : profilesOk State.reset := by
  refine ⟨fun p => ?_, fun g => ?_⟩
  · rw [reset_outlet]
    simp [profileOk, OutletRec.reset, Profile.default]
  · rw [reset_gang]
    simp [gangProfileOk, GangRec.reset, GangProfile.default]

theorem metersOk_reset : metersOk State.reset := fun p => by
  rw [reset_outlet]
  simp [meterOk, OutletRec.reset]

theorem linkOk_reset : linkOk LinkRec.reset := by
  have hplaces : ∀ i, tget LinkRec.reset.places i = none := by decide
  refine ⟨trivial, rfl, List.nodup_nil, fun i => ?_, Nat.zero_le _, fun i f hf => ?_, fun _ => by decide⟩
  · rw [hplaces]
    simp [LinkRec.reset, placesOf]
  · rw [hplaces] at hf
    cases hf

theorem slotsOk_reset : slotsOk State.reset := by
  refine ⟨fun n op f h => ?_, fun f n _ h => ?_⟩
  · rw [reset_slot] at h
    cases h
  · rw [reset_feedRec] at h
    cases h

theorem noticesOk_reset : noticesOk State.reset := by
  have hnotices : State.reset.notices = [Notice.restarted] := rfl
  refine ⟨fun subj => ⟨?_, ?_⟩, fun n => ?_⟩
  · exact ((List.length_filter_le _ _).trans (List.length_filter_le _ _)).trans (by simp [hnotices])
  · exact ((List.length_filter_le _ _).trans (List.length_filter_le _ _)).trans (by simp [hnotices])
  · rw [reset_slot, noticesOn, hnotices]
    rfl

theorem retryOk_reset : retryOk State.reset := fun f _ => by
  rw [reset_feedState, reset_feedRec]
  exact ⟨Nat.zero_le _, by simp [retryBound], by simp⟩

/-- Settles O3: the values are read off State.reset; on the power side nothing runs. -/
theorem resetMeetsInvariants : Obligations.ResetMeetsInvariants := by
  have hlive : State.reset.inReset = false := rfl
  refine ⟨afterReset_reset, powerOk_reset.1, powerOk_reset, emergencyOk_reset,
    ⟨List.Pairwise.nil, List.nodup_nil, fun e he => by cases he⟩, by simp [budgetOk]; rfl, rfl, auxOk_reset,
    profilesOk_reset, metersOk_reset, linkOk_reset, slotsOk_reset, noticesOk_reset, retryOk_reset, fun h => ?_⟩
  rw [hlive] at h
  cases h

end Sys2Proof.Machine
end


/-! # The claimant, the walk beside the claim, and the blocked entry (O11) -/

section
namespace Sys2Proof.Machine

open Sys2Proof.Safety

/-! ## Entries and the headroom (R33, R45) -/

/-- With one entry for each feed, an entry is found under its feed (R45). -/
theorem entryOf_of_mem {s : State} (hn : (s.queue.map Entry.feed).Nodup) {e : Entry} (he : e ∈ s.queue) :
    s.entryOf e.feed = some e := by
  cases hf : s.entryOf e.feed with
  | none => simpa using List.find?_eq_none.1 hf e he
  | some x =>
    obtain ⟨hx, hfeed⟩ := entryOf_some hf
    rw [List.inj_on_of_nodup_map hn hx he hfeed]

/-- With one entry for each feed, the entry of a feed is the only one that leaves with it. -/
theorem dropEntry_split {front back : List Entry} {e : Entry} (hn : ((front ++ e :: back).map Entry.feed).Nodup) :
    dropEntry e.feed (front ++ e :: back) = front ++ back := by
  rw [List.map_append, List.map_cons, List.nodup_middle, List.nodup_cons, ← List.map_append] at hn
  have hkeep : ∀ x ∈ front ++ back, x.feed ≠ e.feed := fun x hx h => hn.1 (h ▸ List.mem_map_of_mem hx)
  simp only [dropEntry, List.filter_append, List.filter_cons, ne_eq, not_true, decide_false, if_false,
    Bool.false_eq_true]
  rw [← List.filter_append, List.filter_eq_self]
  exact fun x hx => decide_eq_true (hkeep x hx)

/-- From the claimant's entry no claim amount is deducted (R33). -/
theorem fits_claimant {s : State} {c : Claim} {e : Entry} (hc : s.claim = some c) (hf : e.feed = c.feed) :
    s.fits e = true ↔ s.held + e.amount ≤ s.budget := by
  simp only [State.fits, State.headroom, hc, hf, if_true, decide_eq_true_eq]
  omega

theorem isClaimant_of_no_claim {s : State} (h : s.claim = none) (f : Feed) : s.isClaimant f = false := by
  rw [State.isClaimant, h]

/-- Without a claim an entry fits exactly when budget less held total covers it (R33). -/
theorem fits_of_no_claim {s : State} (h : s.claim = none) (e : Entry) :
    s.fits e = true ↔ s.held + e.amount ≤ s.budget := by
  rw [fits_iff s e (isClaimant_of_no_claim h e.feed), h]
  rfl

/-- What the walk skips (R56): unfit entries and the claimant. -/
theorem skips_iff (s : State) (e : Entry) :
    (e.unfit || s.isClaimant e.feed) = true ↔ e.unfit = true ∨ s.claim.map Claim.feed = some e.feed := by
  rw [Bool.or_eq_true, isClaimant_iff]

/-- An entry that the walk does not skip is not the claimant's. -/
theorem not_claimant_of_not_skipped {s : State} {e : Entry} (h : ¬ (e.unfit || s.isClaimant e.feed) = true) :
    s.isClaimant e.feed = false :=
  (Bool.or_eq_false_iff.1 (Bool.eq_false_iff.2 h)).2

/-- An entry that is skipped, or too large for budget less held total less claim amount, is not granted (R33, R56). -/
theorem skips_or_not_fits {s : State} {x : Entry}
    (h : (x.unfit = true ∨ s.claim.map Claim.feed = some x.feed) ∨
      ¬ s.held + (s.claim.map Claim.amount).getD 0 + x.amount ≤ s.budget) :
    (x.unfit || s.isClaimant x.feed) = true ∨ s.fits x = false := by
  by_cases hx : (x.unfit || s.isClaimant x.feed) = true
  · exact .inl hx
  · have hlarge := h.resolve_left (mt (skips_iff s x).2 hx)
    exact .inr (Bool.eq_false_iff.2 fun hfit => hlarge ((fits_iff s x (not_claimant_of_not_skipped hx)).1 hfit))

/-! ## A walk in which nothing fits (R56, R57) -/

/-- Where no entry that is tested fits, the walk leaves the state as it is, and a blocked entry met before stays the
blocked entry. -/
theorem walk_of_none_fits (m : AdmissionMode) {es : List Entry} {s : State}
    (h : ∀ x ∈ es, (x.unfit || s.isClaimant x.feed) = true ∨ s.fits x = false) (b : Option Entry) :
    ∃ y, walk m es b s = (s, b.orElse fun _ => y) := by
  induction es generalizing b with
  | nil => exact ⟨none, by cases b <;> rfl⟩
  | cons x es ih =>
    have ih := ih fun y hy => h y (List.mem_cons_of_mem _ hy)
    rw [walk_cons]
    split
    · exact ih b
    · next hx =>
      rw [if_neg (Bool.eq_false_iff.1 ((h x (by simp)).resolve_left hx))]
      cases m with
      | strict => exact ⟨some x, rfl⟩
      | fitFirst =>
        obtain ⟨y, hy⟩ := ih (b.orElse fun _ => some x)
        exact ⟨some x, by rw [hy]; cases b <;> rfl⟩

/-- The first entry that is tested and does not fit is the blocked entry, where STRICT stops and FIT_FIRST finds nothing
more to grant (R56, R57). -/
theorem walk_blocked {m : AdmissionMode} {front back : List Entry} {e : Entry} {s : State}
    (hfront : ∀ x ∈ front, (x.unfit || s.isClaimant x.feed) = true)
    (he : ¬ (e.unfit || s.isClaimant e.feed) = true) (hfit : s.fits e = false)
    (hback : m = .strict ∨ ∀ x ∈ back, (x.unfit || s.isClaimant x.feed) = true ∨ s.fits x = false) :
    walk m (front ++ e :: back) none s = (s, some e) := by
  rw [walk_skipped _ _ _ _ _ hfront, walk_cons, if_neg he, if_neg (Bool.eq_false_iff.1 hfit)]
  cases m with
  | strict => rfl
  | fitFirst =>
    obtain ⟨y, hy⟩ := walk_of_none_fits .fitFirst (hback.resolve_left (by decide)) (some e)
    exact hy

/-! ## A walk that comes to an entry that fits -/

/-- The walk grants an entry that fits, and from there walks as over the queue without it: what it passed before is
passed again in the state after the grant. -/
theorem walk_grants {m : AdmissionMode} {front back : List Entry} {e : Entry} {s : State}
    (hclaim : (grantEntry e s).claim = s.claim) (he : ¬ (e.unfit || s.isClaimant e.feed) = true)
    (hfit : s.fits e = true)
    (hfront : ∀ x ∈ front, (x.unfit || s.isClaimant x.feed) = true ∨
      (m = .fitFirst ∧ s.fits x = false ∧ (grantEntry e s).fits x = false)) (b : Option Entry) :
    walk m (front ++ e :: back) b s = walk m (front ++ back) b (grantEntry e s) := by
  induction front generalizing b with
  | nil => rw [List.nil_append, walk_cons, if_neg he, if_pos hfit, List.nil_append]
  | cons x front ih =>
    have ih := ih fun y hy => hfront y (List.mem_cons_of_mem _ hy)
    have hsame : (grantEntry e s).isClaimant x.feed = s.isClaimant x.feed := by
      simp only [State.isClaimant, hclaim]
    rw [List.cons_append, List.cons_append, walk_cons, walk_cons, hsame]
    by_cases hx : (x.unfit || s.isClaimant x.feed) = true
    · rw [if_pos hx, if_pos hx]
      exact ih b
    · obtain ⟨rfl, h1, h2⟩ := (hfront x (by simp)).resolve_left hx
      rw [if_neg hx, if_neg hx, if_neg (Bool.eq_false_iff.1 h1), if_neg (Bool.eq_false_iff.1 h2)]
      exact ih _

/-! ## The pass with a claim (R54, R55, R77) -/

/-- A pass whose claimant stage has nothing more to do afterwards goes on from that stage (R55). -/
theorem pass_claimantStage {s : State} (hh : s.hold = false)
    (hi : claimantStage (claimantStage s) = claimantStage s) : pass s = pass (claimantStage s) := by
  have hh' : (claimantStage s).hold = false := (fixed_claimantStage s).hold.trans hh
  exact (if_neg (Bool.eq_false_iff.1 hh)).trans (pass_idleClaimant hh' hi).symm

theorem claimantStage_of_no_claim {s : State} (h : s.claim = none) : claimantStage s = s := by
  rw [claimantStage, h]

/-- A claimant whose entry fits is granted first (R55, R59). -/
theorem claimantStage_grants {s : State} {c : Claim} {e : Entry} (hc : s.claim = some c)
    (he : s.entryOf c.feed = some e) (hfit : s.fits e = true) : claimantStage s = grantEntry e s := by
  rw [claimantStage, hc]
  dsimp only
  rw [he]
  dsimp only
  rw [if_pos hfit]

/-- With a claim made, no preemption is evaluated (R72). -/
theorem preempt_of_claim {s : State} {c : Claim} (h : s.claim = some c) (e : Entry) : preempt e s = s := by
  rw [preempt, h]
  simp

section
variable {s : State} (hp : powerOk s) (hh : s.hold = false)
include hp

/-- The queue holds one entry for each feed (R45). -/
theorem powerOk_nodup : (s.queue.map Entry.feed).Nodup := by
  obtain ⟨-, -, ⟨-, hn, -⟩, -⟩ := hp
  exact hn

/-- The claimant is queued, and its entry has the amount of the claim (R76, R78). -/
theorem claimant_entry {c : Claim} (hc : s.claim = some c) :
    ∃ e ∈ s.queue, e.feed = c.feed ∧ e.amount = c.amount ∧ s.feedState c.feed = .queued := by
  obtain ⟨-, -, ⟨hentries, -⟩, hclaim, -⟩ := hp
  obtain ⟨e, he, hf, ha, -⟩ := hclaim c hc
  obtain ⟨-, hst, -⟩ := hentries e he
  exact ⟨e, he, hf, ha, hf ▸ hst⟩

/-- Where the claim amount exceeds budget less held total, the claimant stage does nothing (R55). -/
theorem claimantStage_blocked (hb : ∀ c, s.claim = some c → s.budget < s.held + c.amount) : claimantStage s = s := by
  refine claimantStage_idle fun x hx hcl => ?_
  obtain ⟨c, hc, hfeed⟩ := Option.map_eq_some_iff.1 ((isClaimant_iff s x.feed).1 hcl)
  obtain ⟨e, he, hf, ha, -⟩ := claimant_entry hp hc
  have hxe : x = e := List.inj_on_of_nodup_map (powerOk_nodup hp) hx he (hfeed.symm.trans hf.symm)
  have := hb c hc
  rw [Bool.eq_false_iff, ne_eq, fits_claimant hc hfeed.symm, hxe, ha]
  omega

include hh

/-- Beside a claim that exceeds budget less held total every other entry sees a negative headroom, and no preemption is
evaluated: the pass does nothing (R33, R72, R77). -/
theorem pass_beside_blocked_claim {c : Claim} (hc : s.claim = some c) (hb : s.budget < s.held + c.amount) :
    pass s = s := by
  have hidle := claimantStage_blocked hp fun d hd => by rw [hc] at hd; cases hd; exact hb
  have hnone : ∀ x ∈ s.queue, (x.unfit || s.isClaimant x.feed) = true ∨ s.fits x = false := fun x _ => by
    refine skips_or_not_fits (.inr ?_)
    rw [hc, Option.map_some, Option.getD_some]
    omega
  obtain ⟨y, hy⟩ := walk_of_none_fits s.policy.mode hnone none
  rw [pass_idleClaimant hh hidle, hy]
  cases y with
  | none => rfl
  | some e => exact preempt_of_claim hc e

/-- A claimant that fits is granted with its claim, and the pass goes on (R55, R59). -/
theorem pass_grants_claimant {c : Claim} (hc : s.claim = some c) (hfit : s.held + c.amount ≤ s.budget) :
    ∃ t, afterGrantOf c.feed { s with queue := dropEntry c.feed s.queue, claim := none } t ∧
      pass s = pass (afterGrant (s.outletsOf c.feed) (raise (subjectOf c.feed) .state t)) := by
  obtain ⟨e, he, hf, ha, -⟩ := claimant_entry hp hc
  have hentry : s.entryOf c.feed = some e := hf ▸ entryOf_of_mem (powerOk_nodup hp) he
  have hstage := claimantStage_grants hc hentry ((fits_claimant hc hf).2 (ha ▸ hfit))
  have hcl : s.isClaimant e.feed = true := by rw [isClaimant_iff, hc, hf]; rfl
  have hgone : (grantEntry e s).claim = none := by rw [(grantEntry_queue e s hp.1).2.1, if_pos hcl]
  have hpass : pass s = pass (grantEntry e s) := by
    rw [← hstage]
    exact pass_claimantStage hh (hstage ▸ claimantStage_of_no_claim hgone)
  obtain ⟨t, ht, hgrant⟩ := grantEntry_spec e s hp.1
  rw [if_pos hcl, hf] at ht
  exact ⟨t, ht, by rw [hpass, hgrant, hf]⟩

/-- With no claim, the pass grants the first entry that fits past those it skips or, in FIT_FIRST mode, finds too
large, and goes on (R56, R57, R59). -/
theorem pass_grants_entry (hc : s.claim = none) {front back : List Entry} {e : Entry}
    (hq : s.queue = front ++ e :: back) (he : e.unfit = false) (hfit : s.held + e.amount ≤ s.budget)
    (hfront : ∀ x ∈ front, x.unfit = true ∨ (s.policy.mode = .fitFirst ∧ s.budget < s.held + x.amount)) :
    ∃ t, afterGrantOf e.feed { s with queue := front ++ back } t ∧
      pass s = pass (afterGrant (s.outletsOf e.feed) (raise (subjectOf e.feed) .state t)) := by
  have hnc := isClaimant_of_no_claim hc
  have hdrop : dropEntry e.feed s.queue = front ++ back := by
    rw [hq]
    exact dropEntry_split (hq ▸ powerOk_nodup hp)
  obtain ⟨hqueue, hclaim, hheld⟩ := grantEntry_queue e s hp.1
  rw [hnc, if_neg Bool.false_ne_true, hc] at hclaim
  rw [hdrop] at hqueue
  have hfix := fixed_grantEntry e s
  have hwalk : walk s.policy.mode (front ++ e :: back) none s =
      walk s.policy.mode (front ++ back) none (grantEntry e s) := by
    refine walk_grants (hclaim.trans hc.symm) (by simp [he, hnc]) ((fits_of_no_claim hc e).2 hfit) (fun x hx => ?_) none
    refine (hfront x hx).imp (fun hu => by simp [hu]) fun ⟨hm, hlarge⟩ => ⟨hm, ?_, ?_⟩
    · rw [Bool.eq_false_iff, ne_eq, fits_of_no_claim hc]
      omega
    · rw [Bool.eq_false_iff, ne_eq, fits_of_no_claim hclaim, hheld, hfix.budget]
      omega
  have hpass : pass s = pass (grantEntry e s) := by
    rw [pass_idleClaimant hh (claimantStage_of_no_claim hc),
      pass_idleClaimant (hfix.hold.trans hh) (claimantStage_of_no_claim hclaim), hqueue, hfix.policy, hq, hwalk]
  obtain ⟨t, ht, hgrant⟩ := grantEntry_spec e s hp.1
  rw [hnc, if_neg Bool.false_ne_true, hdrop] at ht
  exact ⟨t, ht, by rw [hpass, hgrant]⟩

end

/-- Settles O11: the claimant stage, then the walk; beside a claim that does not fit nothing else does, so a grant of the
walk is one without a claim. -/
theorem claimantIsTestedFirst : Obligations.ClaimantIsTestedFirst := by
  refine ⟨fun s => pass_of_hold, fun s hp hh => ⟨fun c hc => pass_grants_claimant hp hh hc, fun hb => ?_⟩⟩
  have hidle := claimantStage_blocked hp hb
  refine ⟨fun c hc => ?_, fun hall => ?_,
    fun front e back hq he => ⟨fun hfit hfront => ?_, fun hfit hfront hrest => ?_⟩⟩
  · obtain ⟨e, he, hf, -, hst⟩ := claimant_entry hp hc
    rw [pass_beside_blocked_claim hp hh hc (hb c hc)]
    exact ⟨hst, hc, e, he, hf⟩
  · have hskip := walk_skipped s.policy.mode s.queue [] none s fun x hx => (skips_iff s x).2 (hall x hx)
    rw [List.append_nil] at hskip
    rw [pass_idleClaimant hh hidle, hskip]
    rfl
  · have hc : s.claim = none := by
      cases hc : s.claim with
      | none => rfl
      | some c =>
        have := hb c hc
        rw [hc, Option.map_some, Option.getD_some] at hfit
        omega
    simp only [hc] at he hfit hfront
    refine pass_grants_entry hp hh hc hq ?_ hfit fun x hx => ?_
    · simpa using he
    · simpa using hfront x hx
  · have hskip := skips_iff s
    have hnot := (skips_or_not_fits (.inr hfit)).resolve_left (mt (hskip e).1 he)
    have hwalk := walk_blocked (fun x hx => (hskip x).2 (hfront x hx)) (mt (hskip e).1 he) hnot
      (hrest.imp_right fun hback x hx => skips_or_not_fits (hback x hx))
    rw [pass_idleClaimant hh hidle, hq, hwalk]

end Sys2Proof.Machine
end


/-! # Budget changes, SUPGOOD and SET_SUPPLY (O17, O31, O43) -/

section
namespace Sys2Proof.Machine

open Sys2Proof.Safety

/-! ## The consequences of a budget change (R30, R38, R39) -/

theorem recompute_same {s : State} (h : s.budgetNow = s.budget) : recompute s = (s, 0) := by
  rw [recompute, if_neg (by omega), if_neg (by omega)]

theorem recompute_lower {s : State} (h : s.budgetNow < s.budget) :
    recompute s =
      (passIf s.claim.isSome (raise .part .budget (shedAll (refit { s with budget := s.budgetNow, claim := none })).1),
        (shedAll (refit { s with budget := s.budgetNow, claim := none })).2) := by
  rw [recompute, if_pos h]

theorem recompute_higher {s : State} (h : s.budget < s.budgetNow) :
    recompute s = (pass (raise .part .budget (refit { s with budget := s.budgetNow })), 0) := by
  rw [recompute, if_neg (by omega), if_pos h]

/-- Settles O17: the three ways the recomputed budget compares with the budget in force. -/
theorem budgetChangesHaveConsequences : Obligations.BudgetChangesHaveConsequences := by
  intro s
  refine ⟨recompute_same, fun hlower => ⟨fun hc => ?_, fun hc => ?_⟩, recompute_higher⟩
  · rw [recompute_lower hlower, hc]
    rfl
  · rw [recompute_lower hlower, Option.isSome_iff_ne_none.2 hc]
    rfl

/-! ## SUPGOOD (R27, R28) -/

section
variable {k : SupplyId} {s : State}

theorem supgoodLost_good (h : (s.supply k).good = true) :
    supgoodLost k s =
      (recompute (raise (.supply k) .supply
        (s.setSupply k { s.supply k with good := false, line := false }))).1 := by
  rw [supgoodLost, if_pos h]
  rfl

theorem supgoodLost_notGood (h : (s.supply k).good = false) :
    supgoodLost k s = s.setSupply k { s.supply k with line := false, restoration := none } := by
  rw [supgoodLost, if_neg (Bool.eq_false_iff.1 h)]
  rfl

theorem supgoodFound_edge (hg : (s.supply k).good = false) (hl : (s.supply k).line = false) :
    supgoodFound k s = s.setSupply k { s.supply k with line := true, restoration := some 100 } := by
  rw [supgoodFound, if_neg (by simp [hg, hl])]
  rfl

theorem supplyRestored_running (h : (s.supply k).restoration.isSome = true) :
    supplyRestored k s =
      (recompute (raise (.supply k) .supply
        (s.setSupply k { s.supply k with good := true, restoration := none }))).1 := by
  rw [supplyRestored, if_pos h]
  rfl

theorem exec_supgoodInactive (h : s.inReset = false) :
    exec (.supgoodInactive k) s = .next (driveAux (supgoodLost k s)) := by
  show execSupgoodInactive k s = _
  rw [execSupgoodInactive, if_neg (Bool.eq_false_iff.1 h), event_live _ h]

theorem exec_supgoodActive (h : s.inReset = false) :
    exec (.supgoodActive k) s = .next (driveAux (supgoodFound k s)) := by
  show execSupgoodActive k s = _
  rw [execSupgoodActive, if_neg (Bool.eq_false_iff.1 h), event_live _ h]

theorem exec_restorationTimerExpiry (h : s.inReset = false) :
    exec (.restorationTimerExpiry k) s = .next (driveAux (supplyRestored k s)) :=
  congrArg Host.Outcome.next (event_live _ h)

end

/-- Settles O43: outside a reset each command is its event, and the supply's status decides what the event does. -/
theorem supgoodGovernsTheSupply : Obligations.SupgoodGovernsTheSupply := by
  intro k s hlive
  refine ⟨fun hg => ?_, fun hg => ?_, fun hg hl => ?_, fun hr => ?_⟩
  · rw [exec_supgoodInactive hlive, supgoodLost_good hg]
  · rw [exec_supgoodInactive hlive, supgoodLost_notGood hg]
  · rw [exec_supgoodActive hlive, supgoodFound_edge hg hl]
  · rw [exec_restorationTimerExpiry hlive, supplyRestored_running hr]

/-! ## Masked fields (R201, R202) -/

/-- A number of two bytes is read back from its two bytes (R201). -/
theorem num16_be16 {n : Nat} (h : n < 65536) : num16 (byte (n / 256)) (byte n) = n := by
  simp only [num16, byte, BitVec.toNat_ofNat]
  omega

/-- An optional field of two bytes is taken back from the front of the bytes it was put before (R202). -/
theorem takeWord_be16 {v : Option Nat} (h : ∀ x ∈ v, x < 65536) (rest : List Byte) :
    takeWord v.isSome (v.elim [] be16 ++ rest) = (v, rest) := by
  cases v with
  | none => rfl
  | some x =>
    show (some (num16 (byte (x / 256)) (byte x)), rest) = _
    rw [num16_be16 (h x rfl)]

/-- The mask of three optional fields (R202). -/
def maskOf (a b c : Bool) : Byte := byte ((if a then 1 else 0) + (if b then 2 else 0) + (if c then 4 else 0))

theorem maskOf_bits (a b c : Bool) :
    (maskOf a b c).getLsbD 0 = a ∧ (maskOf a b c).getLsbD 1 = b ∧ (maskOf a b c).getLsbD 2 = c ∧
      maskOf a b c &&& 0xF8#8 = 0#8 := by
  revert a b c
  decide

theorem maskCount_eq_bitsSet (m : Byte) : maskCount m = bitsSet m := by
  simp only [maskCount, bitsSet, Bool.toNat, Bool.cond_eq_ite]

/-- A mask with a bit that names no field (R201). -/
theorem unnamed_bit {m : Byte} (h : 8 ≤ m.toNat) : m &&& 0xF8#8 ≠ 0#8 := by
  revert m
  decide

theorem length_be16_field (v : Option Nat) : (v.elim [] be16).length = 2 * v.isSome.toNat := by
  cases v <;> rfl

theorem within_iff {v : Option Nat} {hi : Nat} : within v hi = true ↔ ∀ x ∈ v, x ≤ hi := by
  cases v <;> simp [within]

/-! ## SET_SUPPLY (R37) -/

/-- A request with a bit that names no field is refused once its length fits the bits that do (R201, R202). -/
theorem reqSetSupply_unnamed {fr : Frame} {m : Byte} {rest : List Byte} (hp : fr.payload = m :: rest)
    (hm : 8 ≤ m.toNat) (hl : rest.length = 2 * bitsSet m) (s : State) :
    reqSetSupply fr s = refuse s .badValue := by
  rw [← maskCount_eq_bitsSet] at hl
  rw [reqSetSupply, hp]
  dsimp only
  rw [if_pos hl, if_neg fun h => unnamed_bit hm h.1]

/-- A request whose mask names the fields it carries writes them if each is in range (R37, R201, R202). -/
theorem reqSetSupply_fields {fr : Frame} {c1 c2 r : Option Nat}
    (hp : fr.payload = maskOf c1.isSome c2.isSome r.isSome :: (c1.elim [] be16 ++ c2.elim [] be16 ++ r.elim [] be16))
    (h1 : ∀ v ∈ c1, v < 65536) (h2 : ∀ v ∈ c2, v < 65536) (hr : ∀ v ∈ r, v < 65536) (s : State) :
    reqSetSupply fr s =
      if within c1 Config.capacityMax ∧ within c2 Config.capacityMax ∧ within r Config.reserveMax then
        setSupplyTo c1 c2 r s
      else refuse s .badValue := by
  obtain ⟨b0, b1, b2, hnamed⟩ := maskOf_bits c1.isSome c2.isSome r.isSome
  have hlen : (c1.elim [] be16 ++ c2.elim [] be16 ++ r.elim [] be16).length =
      2 * maskCount (maskOf c1.isSome c2.isSome r.isSome) := by
    simp only [List.length_append, length_be16_field, maskCount, b0, b1, b2]
    omega
  have t1 := takeWord_be16 h1 (c2.elim [] be16 ++ r.elim [] be16)
  have t2 := takeWord_be16 h2 (r.elim [] be16)
  have t3 := takeWord_be16 hr []
  rw [List.append_nil] at t3
  rw [reqSetSupply, hp]
  dsimp only
  rw [if_pos hlen, b0, b1, b2, List.append_assoc, t1]
  dsimp only
  rw [t2]
  dsimp only
  rw [t3]
  simp only [hnamed, true_and]

/-- The reserve is written, or stays what it is (R37). -/
theorem writeReserve_eq (v : Option Nat) (s : State) : writeReserve v s = { s with reserve := v.getD s.reserve } := by
  cases v <;> rfl

theorem writeCapacity_reserve (k : SupplyId) (v : Option Nat) (s : State) :
    (writeCapacity k v s).reserve = s.reserve := by
  unfold writeCapacity
  split
  · rfl
  · split <;> rfl

/-- The three fields are written S1 before S2, and one recomputation follows (R37). -/
theorem setSupplyTo_eq (c1 c2 r : Option Nat) (s : State) :
    setSupplyTo c1 c2 r s =
      let t := recompute { writeCapacity 1 c2 (writeCapacity 0 c1 s) with reserve := r.getD s.reserve }
      (t.1, [0x00#8] ++ be16 t.1.budget ++ [byte t.2]) := by
  rw [setSupplyTo, writeReserve_eq, writeCapacity_reserve, writeCapacity_reserve]
  rfl

/-- A SET_SUPPLY command that is taken (R37, R187). -/
theorem exec_setSupply {s : State} (seq : Byte) (payload : List Byte) (h : s.takesRequests = true) :
    exec (.setSupply seq payload) s =
      .next (answered seq 0x22#8 payload (reqSetSupply (mkFrame seq 0x22#8 payload) s).2
        (reqSetSupply (mkFrame seq 0x22#8 payload) s).1) :=
  congrArg Host.Outcome.next (asRequest_live _ _ seq payload h)

/-- Settles O31: the mask and the lengths give back the three fields, which are written if they are in range. -/
theorem setSupplyWritesAndRecomputes : Obligations.SetSupplyWritesAndRecomputes := by
  refine ⟨fun seq mask rest s hs hm hl => ?_, fun seq c1 c2 r s h1 h2 hr hs => ?_⟩
  · rw [exec_setSupply _ _ hs, reqSetSupply_unnamed rfl hm hl]
    rfl
  · have hwithin : (within c1 Config.capacityMax ∧ within c2 Config.capacityMax ∧ within r Config.reserveMax) ↔
        (∀ v ∈ c1, v ≤ 4000) ∧ (∀ v ∈ c2, v ≤ 4000) ∧ ∀ v ∈ r, v ≤ 1000 :=
      and_congr within_iff (and_congr within_iff within_iff)
    refine (exec_setSupply _ _ hs).trans ?_
    rw [reqSetSupply_fields rfl h1 h2 hr]
    by_cases hin : (∀ v ∈ c1, v ≤ 4000) ∧ (∀ v ∈ c2, v ≤ 4000) ∧ ∀ v ∈ r, v ≤ 1000
    · refine Eq.trans ?_ (if_pos hin).symm
      rw [if_pos (hwithin.2 hin), setSupplyTo_eq]
      cases c1 <;> cases c2 <;> rfl
    · refine Eq.trans ?_ (if_neg hin).symm
      rw [if_neg fun h => hin (hwithin.1 h)]
      rfl

end Sys2Proof.Machine
end

/-! # The entry of a queued feed: its making and its aging steps (O10, O44) -/

section
namespace Sys2Proof.Machine

open Sys2Proof.Safety

/-! ## The making of an entry (R46, R47, R50, R52) -/

/-- The entry a feed gets on entering QUEUED is the one of the moment before: its own state is not read (R47). -/
theorem enterQueued_eq (f : Feed) (o : Origin) (s : State) :
    enterQueued f o s =
      { updFeed f (fun r => { r with state := .queued, backoff := none }) s with
        queue := insertBy entryBefore (s.entryFor f o) s.queue
        entryStamps := s.entryStamps + 1 } := by
  simp only [enterQueued, makeEntry, State.entryFor, State.agingFor, updFeed_requestAmount, updFeed_priorityOf,
    updFeed_entryStamps, updFeed_budget, updFeed_policy, updFeed_queue]

/-- Which entries a new one comes before (R46). -/
theorem entryBefore_entryFor (f : Feed) (o : Origin) (s : State) (e : Entry) :
    entryBefore (s.entryFor f o) e = true ↔
      e.eff < s.priorityOf f ∨ (e.eff = s.priorityOf f ∧ s.entryStamps + 1 < e.stamp) := by
  rw [entryBefore_iff, eq_comm (a := (s.entryFor f o).eff)]
  rfl

/-- Settles O10: the entry is inserted in front of the first one it comes before. -/
theorem entryIsMadeInOrder : Obligations.EntryIsMadeInOrder := by
  intro f o s
  obtain ⟨front, back, hq, hins, hfront, hback⟩ := insertBy_split entryBefore (s.entryFor f o) s.queue
  refine ⟨front, back, hq, fun e he => ?_, fun e he => ?_, ?_⟩
  · exact mt (entryBefore_entryFor f o s e).2 (Bool.eq_false_iff.1 (hfront e he))
  · exact (entryBefore_entryFor f o s e).1 (hback e he)
  · rw [enterQueued_eq, hins]
    rfl

/-! ## Aging (R50, R51) -/

/-- The aging step moves the entry past another (R51). -/
theorem reorders_iff (e : Entry) (q : List Entry) :
    reorders e q = true ↔ ∃ x ∈ q, x.feed ≠ e.feed ∧
      ((x.eff = e.eff ∧ x.stamp < e.stamp) ∨ (x.eff = e.eff + 1 ∧ e.stamp < x.stamp)) := by
  simp [reorders]

/-- The aging step of an entry whose timer runs (R50). -/
theorem ageEntry_running {f : Feed} {e : Entry} {s : State} (he : s.entryOf f = some e) (ht : e.aging.isSome = true) :
    ageEntry f s = passIf (reorders e s.queue)
      { s with
        queue := insertBy entryBefore { e with eff := e.eff + 1, aging := s.agingFor (e.eff + 1) }
          (dropEntry f s.queue) } := by
  rw [ageEntry, he]
  dsimp only
  rw [if_pos ht, updEntry_some he]

/-- Settles O44: the entry found under the feed is the one given, and a reorder is what triggers the pass. -/
theorem agingStepRaisesAndReorders : Obligations.AgingStepRaisesAndReorders := by
  rintro _ e s hlive hn he rfl ht
  refine (congrArg Host.Outcome.next (event_live _ hlive)).trans ?_
  rw [ageEntry_running (entryOf_of_mem hn he) ht]
  have hmoved := reorders_iff e s.queue
  split
  · next h =>
    rw [hmoved.2 h]
    rfl
  · next h =>
    rw [Bool.eq_false_iff.2 (mt hmoved.1 h)]
    rfl

end Sys2Proof.Machine
end


/-! # What a pass leaves in the queue (O13) -/

section
namespace Sys2Proof.Machine

open Sys2Proof.Safety

/-! ## Where the walk stops (R56, R57) -/

/-- The walk without a claim comes to the entry `e` behind `front` and grants it: the entry fits, and every entry before
it is unfit or, in FIT_FIRST mode, too large. -/
structure ComesToGrant (s : State) (front : List Entry) (e : Entry) : Prop where
  fit : e.unfit = false
  fits : s.held + e.amount ≤ s.budget
  passed : ∀ x ∈ front, x.unfit = true ∨ (s.policy.mode = .fitFirst ∧ s.budget < s.held + x.amount)

theorem ComesToGrant.cons {s : State} {x : Entry} {front : List Entry} {e : Entry} (h : ComesToGrant s front e)
    (hx : x.unfit = true ∨ (s.policy.mode = .fitFirst ∧ s.budget < s.held + x.amount)) :
    ComesToGrant s (x :: front) e :=
  ⟨h.fit, h.fits, List.forall_mem_cons.2 ⟨hx, h.passed⟩⟩

/-- A walk that comes to no grant leaves the state as it is. -/
theorem walk_of_no_grant {s : State} (hc : s.claim = none) {es : List Entry}
    (h : ∀ front e back, es = front ++ e :: back → ¬ ComesToGrant s front e) (b : Option Entry) :
    (walk s.policy.mode es b s).1 = s := by
  induction es generalizing b with
  | nil => rfl
  | cons x es ih =>
    have hpast (hx : x.unfit = true ∨ (s.policy.mode = .fitFirst ∧ s.budget < s.held + x.amount)) (b : Option Entry) :
        (walk s.policy.mode es b s).1 = s :=
      ih (fun front e back heq hdue => h (x :: front) e back (congrArg (x :: ·) heq) (hdue.cons hx)) b
    rw [walk_cons, isClaimant_of_no_claim hc, Bool.or_false]
    split
    · next hu => exact hpast (.inl hu) b
    · next hu =>
      have hlarge : ¬ s.held + x.amount ≤ s.budget := fun hfit =>
        h [] x es rfl ⟨Bool.eq_false_iff.2 hu, hfit, by simp⟩
      rw [if_neg (mt (fits_of_no_claim hc x).1 hlarge)]
      split
      · rfl
      · next hm => exact hm ▸ hpast (.inr ⟨hm, by omega⟩) _

/-- With preemption OFF a blocked entry stops no feed (R72). -/
theorem preempt_off {s : State} (h : s.policy.preemption = false) (e : Entry) : preempt e s = s := by
  simp [preempt, h]

/-- A pass that comes to no grant, with preemption OFF, does nothing. -/
theorem pass_of_no_grant {s : State} (hh : s.hold = false) (hc : s.claim = none) (hoff : s.policy.preemption = false)
    (h : ∀ front e back, s.queue = front ++ e :: back → ¬ ComesToGrant s front e) : pass s = s := by
  have hwalk := walk_of_no_grant hc h none
  rw [pass_idleClaimant hh (claimantStage_of_no_claim hc)]
  split
  · exact hwalk
  · rw [hwalk, preempt_off hoff]

/-- In FIT_FIRST mode no entry fits where the walk comes to no grant: the first that fits would be granted (R57). -/
theorem fitFirst_exhausted {s : State} (hm : s.policy.mode = .fitFirst) {es : List Entry}
    (h : ∀ front e back, es = front ++ e :: back → ¬ ComesToGrant s front e) {e : Entry} (he : e ∈ es)
    (hu : e.unfit = false) : s.budget < s.held + e.amount := by
  by_contra hfit
  have hfind : (es.find? fun x => !x.unfit && decide (s.held + x.amount ≤ s.budget)).isSome = true :=
    List.find?_isSome.2 ⟨e, he, by simp [hu]; omega⟩
  obtain ⟨x, hx⟩ := Option.isSome_iff_exists.1 hfind
  obtain ⟨hx, front, back, heq, hfront⟩ := List.find?_eq_some_iff_append.1 hx
  simp only [Bool.and_eq_true, Bool.not_eq_true', decide_eq_true_eq] at hx
  refine h front x back heq ⟨hx.1, hx.2, fun y hy => ?_⟩
  have hy := hfront y hy
  cases hyu : y.unfit with
  | true => exact .inl rfl
  | false =>
    refine .inr ⟨hm, ?_⟩
    simpa [hyu] using hy

/-! ## A pass is a run of grants -/

/-- What a pass without a claim and with preemption OFF leads to: the entries that are gone fitted, the held total stays
within the budget, and the walk comes to no further grant. -/
structure Exhausted (s t : State) : Prop where
  queue : t.queue.Sublist s.queue
  fitted : ∀ e ∈ s.queue, e ∉ t.queue → e.unfit = false
  held : s.held ≤ s.budget → t.held ≤ t.budget
  noGrant : ∀ front e back, t.queue = front ++ e :: back → ¬ ComesToGrant t front e

/-- A grant has one outcome. -/
theorem afterGrantOf_unique {f : Feed} {s t u : State} (ht : afterGrantOf f s t) (hu : afterGrantOf f s u) : t = u := by
  obtain ⟨hto, htg, ht⟩ := ht
  obtain ⟨huo, hug, hu⟩ := hu
  have hout : t.outlets = u.outlets := table_ext fun q => (hto q).trans (huo q).symm
  have hgang : t.gangs = u.gangs := table_ext fun g => (htg g).trans (hug g).symm
  rw [ht, hu, hout, hgang]

section
variable {s : State} (hp : powerOk s) {front back : List Entry} {e : Entry} (hq : s.queue = front ++ e :: back)
include hp hq

theorem dropEntry_queue : dropEntry e.feed s.queue = front ++ back := by
  rw [hq]
  exact dropEntry_split (hq ▸ powerOk_nodup hp)

variable (hc : s.claim = none)
include hc

/-- The pass grants the entry the walk comes to, and goes on (R59). -/
theorem pass_grantEntry (hh : s.hold = false) (hdue : ComesToGrant s front e) : pass s = pass (grantEntry e s) := by
  obtain ⟨t, ht, hpass⟩ := pass_grants_entry hp hh hc hq hdue.fit hdue.fits hdue.passed
  obtain ⟨t', ht', hgrant⟩ := grantEntry_spec e s hp.1
  rw [isClaimant_of_no_claim hc, if_neg Bool.false_ne_true, dropEntry_queue hp hq] at ht'
  rw [hpass, hgrant, afterGrantOf_unique ht ht']

/-- What the pass goes on from: the budget law holds, the entry is gone, and its amount is held. -/
theorem grantEntry_next (hfit : s.held + e.amount ≤ s.budget) :
    powerOk (grantEntry e s) ∧ (grantEntry e s).claim = none ∧ (grantEntry e s).queue = front ++ back ∧
      (grantEntry e s).held = s.held + e.amount := by
  have he : e ∈ s.queue := by simp [hq]
  have hpower := powerOk_grantEntry hp he ((fits_of_no_claim hc e).2 hfit)
  obtain ⟨hqueue, hclaim, hheld⟩ := grantEntry_queue e s hp.1
  rw [isClaimant_of_no_claim hc, if_neg Bool.false_ne_true, hc] at hclaim
  rw [dropEntry_queue hp hq] at hqueue
  obtain ⟨-, -, ⟨hentries, -⟩, -⟩ := hp
  obtain ⟨-, -, hamount, -⟩ := hentries e he
  exact ⟨hpower, hclaim, hqueue, hamount ▸ hheld⟩

end

/-- What a grant starts, the rest of the pass completes. -/
theorem Exhausted.of_grant {s u t : State} {front back : List Entry} {e : Entry} (h : Exhausted u t)
    (hq : s.queue = front ++ e :: back) (hu : u.queue = front ++ back) (he : e.unfit = false)
    (hheld : u.held ≤ u.budget) : Exhausted s t where
  queue := h.queue.trans (by rw [hu, hq]; exact (List.sublist_cons_self e back).append_left front)
  fitted x hx hgone := by
    by_cases hxe : x = e
    · exact hxe ▸ he
    · refine h.fitted x ?_ hgone
      simpa [hu, hq, hxe] using hx
  held _ := h.held hheld
  noGrant := h.noGrant

/-- Every pass without a claim and with preemption OFF ends where the walk comes to no further grant: each grant
shortens the queue. -/
theorem exhausted_pass {s : State} (hp : powerOk s) (hh : s.hold = false) (hc : s.claim = none)
    (hoff : s.policy.preemption = false) : Exhausted s (pass s) := by
  by_cases hdue : ∃ front e back, s.queue = front ++ e :: back ∧ ComesToGrant s front e
  · obtain ⟨front, e, back, hq, hdue⟩ := hdue
    have hfix := fixed_grantEntry e s
    obtain ⟨hpower, hclaim, hqueue, hheld⟩ := grantEntry_next hp hq hc hdue.fits
    have hshorter : (grantEntry e s).queue.length < s.queue.length := by simp [hqueue, hq]
    rw [pass_grantEntry hp hq hc hh hdue]
    exact (exhausted_pass hpower (hfix.hold.trans hh) hclaim (hfix.policy ▸ hoff)).of_grant hq hqueue hdue.fit
      (by rw [hheld, hfix.budget]; exact hdue.fits)
  · have hno : ∀ front e back, s.queue = front ++ e :: back → ¬ ComesToGrant s front e :=
      fun front e back hq h => hdue ⟨front, e, back, hq, h⟩
    rw [pass_of_no_grant hh hc hoff hno]
    exact ⟨List.Sublist.refl _, fun e he hgone => absurd he hgone, id, hno⟩
termination_by s.queue.length

/-- Settles O13: the pass ends where the walk comes to no further grant; an entry that is gone is no longer one of a
queued feed, for the queue holds an entry for each. -/
theorem passExhaustsTheHeadroom : Obligations.PassExhaustsTheHeadroom := by
  intro s hp hh hc hoff
  have hfix := fixed_pass s
  have hpower := powerOk_pass hp
  obtain ⟨hqueue, hfitted, hheld, hno⟩ := exhausted_pass hp hh hc hoff
  refine ⟨hqueue, fun e he hgone => ⟨hfitted e he hgone, fun hst => ?_⟩, fun h => hfix.budget ▸ hheld h,
    fun front e back hm hq hfront hu => ?_, fun hm e he hu => ?_⟩
  · obtain ⟨-, -, ⟨-, -, hall⟩, -⟩ := hpower
    obtain ⟨-, -, ⟨hentries, hn, -⟩, -⟩ := hp
    obtain ⟨x, hx, hfeed⟩ := List.mem_map.1 (hall e.feed ((isFeed_congr hfix.activeMap _).2 (hentries e he).1) hst)
    exact hgone (List.inj_on_of_nodup_map hn (hqueue.subset hx) he hfeed ▸ hx)
  · by_contra hfit
    refine hno front e back hq ⟨hu, ?_, fun x hx => .inl (hfront x hx)⟩
    rw [hfix.budget]
    omega
  · rw [← hfix.budget]
    exact fitFirst_exhausted (hfix.policy ▸ hm) hno he hu

end Sys2Proof.Machine
end


/-! # The grant of a lone entry, and the fault inputs at its entry to STARTING (O12) -/

section
namespace Sys2Proof.Machine

open Sys2Proof.Safety

/-! ## The fault inputs of a granted outlet (R11, R104, R122) -/

/-- Under a valid map the outlets of a feed stand in ascending order (R1, R133). -/
theorem outletsOf_sorted {s : State} (h : mapsOk s) (f : Feed) : (s.outletsOf f).Pairwise (· < ·) := by
  cases f with
  | solo p => exact List.pairwise_singleton _ _
  | gang g =>
    show ((s.membersOf g).getD []).Pairwise (· < ·)
    cases hm : s.membersOf g with
    | none => exact List.Pairwise.nil
    | some ms => exact (h.2.1.1 g ms hm).1.1

/-- A present condition is examined from the grant, qualifies at once and trips (R99 to R101). -/
def tripsAtEntry (o : OutletRec) : Prop :=
  (o.overcurrent = true ∧ o.profile.blanking = 0) ∧ o.profile.width = 0 ∧ o.profile.tripMode = .single

section
variable {f : Feed} {s t : State} (h : afterGrantOf f s t) {p : OutletId} (hp : p ∈ s.outletsOf f)
include h hp

/-- A grant leaves the pins and the profile of an outlet, and starts blanking unless its duration is 0 (R11, R99). -/
theorem afterGrantOf_inputs :
    (t.outlet p).shortN = (s.outlet p).shortN ∧ (t.outlet p).overcurrent = (s.outlet p).overcurrent ∧
      (t.outlet p).profile = (s.outlet p).profile ∧
      ((t.outlet p).blanking = none ↔ (s.outlet p).profile.blanking = 0) := by
  rw [h.1 p, if_pos hp]
  split <;> simp [granted]

theorem afterGrantOf_pairWindow : (t.outlet p).pairWindow = (s.outlet p).pairWindow := by
  rw [h.1 p, if_pos hp]
  split <;> rfl

/-- Whether a granted outlet trips at its entry, told from its record before the grant. -/
theorem trips_granted :
    ((t.outlet p).overcurrent = true ∧ (t.outlet p).blanking = none ∧ (t.outlet p).profile.width = 0 ∧
      (t.outlet p).profile.tripMode = .single) ↔ tripsAtEntry (s.outlet p) := by
  obtain ⟨-, hover, hprofile, hblank⟩ := afterGrantOf_inputs h hp
  rw [tripsAtEntry, hover, hprofile, hblank, and_assoc]

theorem entryFault_of_short (hs : (s.outlet p).shortN = true) : entryFault (t.outlet p) = some .short := by
  rw [entryFault, (afterGrantOf_inputs h hp).1, if_pos hs]

theorem entryFault_of_trip (hs : ¬ (s.outlet p).shortN = true) (ht : tripsAtEntry (s.outlet p)) :
    entryFault (t.outlet p) = some .overcurrent := by
  rw [entryFault, (afterGrantOf_inputs h hp).1, if_neg hs, if_pos ((trips_granted h hp).2 ht)]

theorem entryFault_of_neither (hno : ¬ (s.outlet p).shortN = true ∧ ¬ tripsAtEntry (s.outlet p)) :
    entryFault (t.outlet p) = none := by
  rw [entryFault, (afterGrantOf_inputs h hp).1, if_neg hno.1, if_neg (mt (trips_granted h hp).1 hno.2)]

end

/-! ## What happens after the grant (R99, R104, R122) -/

/-- In an ascending list the least element that passes a test is the first. -/
theorem find_of_least {l : List OutletId} (hl : l.Pairwise (· < ·)) {b : OutletId → Bool} {p : OutletId} (hp : p ∈ l)
    (hb : b p = true) (hlow : ∀ q ∈ l, q < p → b q = false) : l.find? b = some p := by
  obtain ⟨front, back, rfl⟩ := List.append_of_mem hp
  have hfront : ∀ q ∈ front, q < p := fun q hq => (List.pairwise_append.1 hl).2.2 q hq p (by simp)
  refine List.find?_eq_some_iff_append.2 ⟨hb, front, back, rfl, fun q hq => ?_⟩
  rw [hlow q (by simp [hq]) (hfront q hq)]
  rfl

/-- The lowest outlet that has a fault takes it. -/
theorem afterGrant_fault {ps : List OutletId} (hps : ps.Pairwise (· < ·)) {s : State} {p : OutletId} {c : FaultCause}
    (hp : p ∈ ps) (hc : entryFault (s.outlet p) = some c) (hlow : ∀ q ∈ ps, q < p → entryFault (s.outlet q) = none) :
    afterGrant ps s = takeFault p c s := by
  have hfind : ps.find? (fun p => (entryFault (s.outlet p)).isSome) = some p :=
    find_of_least hps hp (by rw [hc]; rfl) fun q hq hlt => by rw [hlow q hq hlt]; rfl
  rw [afterGrant, hfind]
  dsimp only
  rw [hc]

/-- Without a fault the conditions present are examined. -/
theorem afterGrant_noFault {ps : List OutletId} {s : State} (h : ∀ p ∈ ps, entryFault (s.outlet p) = none) :
    afterGrant ps s = ps.foldl examineAtEntry s := by
  have hfind : ps.find? (fun p => (entryFault (s.outlet p)).isSome) = none :=
    List.find?_eq_none.2 fun p hp => by simp [h p hp]
  rw [afterGrant, hfind]

/-- An outlet whose condition, if one is present, has been examined at the entry without a fault (R100, R102). -/
def entryExamined (o : OutletRec) : OutletRec :=
  if o.overcurrent = true ∧ o.blanking = none then
    (if o.profile.width = 0 then { o with width := none, pairWindow := some o.profile.pairWindow }
    else { o with width := some o.profile.width })
  else o

/-- The examination of a granted outlet, told from its record before the grant (R99, R100, R102). -/
theorem entryExamined_granted {f : Feed} {s t : State} (h : afterGrantOf f s t) {p : OutletId} (hp : p ∈ s.outletsOf f) :
    entryExamined (t.outlet p) =
      if (s.outlet p).overcurrent = true ∧ (s.outlet p).profile.blanking = 0 then
        (if (s.outlet p).profile.width = 0 then
          { t.outlet p with width := none, pairWindow := some (s.outlet p).profile.pairWindow }
        else { t.outlet p with width := some (s.outlet p).profile.width })
      else t.outlet p := by
  obtain ⟨-, hover, hprofile, hblank⟩ := afterGrantOf_inputs h hp
  simp only [entryExamined, hover, hblank, hprofile]

/-- Without a fault and with no pair window open, the examination changes the outlet's record alone. -/
theorem examineAtEntry_eq {p : OutletId} {s : State} (hw : (s.outlet p).pairWindow = none)
    (hf : entryFault (s.outlet p) = none) : examineAtEntry s p = s.setOutlet p (entryExamined (s.outlet p)) := by
  unfold examineAtEntry entryExamined
  split
  · next hc =>
    unfold examine
    split
    · next h0 =>
      have hpair : (s.outlet p).profile.tripMode = .pair := by
        cases hm : (s.outlet p).profile.tripMode with
        | pair => rfl
        | single => cases hs : (s.outlet p).shortN <;> simp [entryFault, hc, h0, hm, hs] at hf
      simp only [qualify, updOutlet_outlet_same, hpair, hw, updOutlet_updOutlet]
    · rfl
  · exact (setOutlet_outlet_self s p).symm

/-- The examinations of all outlets of the feed. -/
theorem examineAll_spec {ps : List OutletId} (hnd : ps.Nodup) {s : State}
    (h : ∀ p ∈ ps, (s.outlet p).pairWindow = none ∧ entryFault (s.outlet p) = none) :
    (∀ q, (ps.foldl examineAtEntry s).outlet q = if q ∈ ps then entryExamined (s.outlet q) else s.outlet q) ∧
      ps.foldl examineAtEntry s = { s with outlets := (ps.foldl examineAtEntry s).outlets } := by
  induction ps generalizing s with
  | nil => exact ⟨fun q => by simp, rfl⟩
  | cons p ps ih =>
    obtain ⟨hp, hnd⟩ := List.nodup_cons.1 hnd
    have hother : ∀ q, q ≠ p → (s.setOutlet p (entryExamined (s.outlet p))).outlet q = s.outlet q :=
      fun q hq => setOutlet_outlet_other _ _ _ _ hq
    have hne : ∀ q ∈ ps, q ≠ p := fun q hq e => hp (e ▸ hq)
    rw [List.foldl_cons, examineAtEntry_eq (h p (by simp)).1 (h p (by simp)).2]
    obtain ⟨ho, hs⟩ := ih hnd (s := s.setOutlet p (entryExamined (s.outlet p))) fun q hq => by
      rw [hother q (hne q hq)]
      exact h q (by simp [hq])
    refine ⟨fun q => ?_, hs⟩
    rw [ho q]
    by_cases hqp : q = p
    · subst hqp
      simp [hp]
    · simp [hqp, hother q hqp]

/-- Without a fault the grant ends with the examination of the conditions present, which changes the outlets alone
(R99, R100, R102). -/
theorem afterGrant_examines {f : Feed} {s t : State} (hmaps : mapsOk s) (h : afterGrantOf f s t)
    (hpair : ∀ p ∈ s.outletsOf f, (s.outlet p).pairWindow = none)
    (hno : ∀ p ∈ s.outletsOf f, ¬ (s.outlet p).shortN = true ∧ ¬ tripsAtEntry (s.outlet p)) (subj : Subject)
    (fl : NoticeFlag) :
    let u := raise subj fl t
    let v := afterGrant (s.outletsOf f) u
    v = { u with outlets := v.outlets } ∧
      ∀ p, v.outlet p =
        if p ∈ s.outletsOf f ∧ (s.outlet p).overcurrent = true ∧ (s.outlet p).profile.blanking = 0 then
          (if (s.outlet p).profile.width = 0 then
            { u.outlet p with width := none, pairWindow := some (s.outlet p).profile.pairWindow }
          else { u.outlet p with width := some (s.outlet p).profile.width })
        else u.outlet p := by
  intro u v
  have hnone : ∀ p ∈ s.outletsOf f, entryFault (t.outlet p) = none := fun p hm =>
    entryFault_of_neither h hm (hno p hm)
  obtain ⟨houtlets, hrest⟩ := examineAll_spec (outletsOf_nodup hmaps f) (s := u) fun p hm =>
    ⟨(afterGrantOf_pairWindow h hm).trans (hpair p hm), hnone p hm⟩
  rw [← afterGrant_noFault (s := u) hnone] at houtlets hrest
  refine ⟨hrest, fun p => (houtlets p).trans ?_⟩
  by_cases hm : p ∈ s.outletsOf f
  · rw [if_pos hm]
    refine (entryExamined_granted h hm).trans ?_
    simp only [hm, true_and]
    rfl
  · rw [if_neg hm, if_neg fun hex => hm hex.1]

/-! ## The lone entry -/

/-- A queued feed's outlets have no pair window open (R8). -/
theorem pairWindow_of_queued {s : State} (hp : powerOk s) {e : Entry} (he : e ∈ s.queue) {p : OutletId}
    (hm : p ∈ s.outletsOf e.feed) : (s.outlet p).pairWindow = none := by
  obtain ⟨hmaps, houtlets, ⟨hentries, -⟩, -⟩ := hp
  obtain ⟨hf, hst, -⟩ := hentries e he
  obtain ⟨-, -, -, -, hrest⟩ := houtlets p
  have hoff : s.outletPowered p = false := by
    rw [outletPowered_of_feed (feedOf_of_mem hmaps hf hm), hst]
    rfl
  obtain ⟨-, -, hpair, -⟩ := hrest hoff
  exact hpair

/-- The pass grants a lone entry that fits, and what the fault inputs do at the grant ends it (R56, R59). -/
theorem pass_grants_lone_entry {s : State} {e : Entry} (hp : powerOk s) (hh : s.hold = false) (hc : s.claim = none)
    (hq : s.queue = [e]) (hfit : s.held + e.amount ≤ s.budget) :
    ∃ t, afterGrantOf e.feed { s with queue := [] } t ∧
      pass s = afterGrant (s.outletsOf e.feed) (raise (subjectOf e.feed) .state t) := by
  have hun : e.unfit = false := by
    obtain ⟨-, -, ⟨hentries, -⟩, -⟩ := hp
    obtain ⟨-, -, -, hun⟩ := hentries e (by simp [hq])
    rw [hun, decide_eq_false_iff_not]
    omega
  obtain ⟨t, ht, hpass⟩ := pass_grants_entry hp hh hc (front := []) (back := []) hq hun hfit (by simp)
  have hempty : (afterGrant (s.outletsOf e.feed) (raise (subjectOf e.feed) .state t)).queue = [] := by
    rw [(keepsQueue_afterGrant _ _).queue, raise_queue, ht.2.2]
    rfl
  exact ⟨t, ht, hpass.trans (pass_of_empty hempty)⟩

/-- Settles O12: the grant empties the queue, so the pass ends with what the fault inputs do at it. -/
theorem passGrantsTheLoneEntry : Obligations.PassGrantsTheLoneEntry := by
  intro s e hp hh hc hq hfit
  obtain ⟨t, ht, hpass⟩ := pass_grants_lone_entry hp hh hc hq hfit
  refine ⟨t, ht, fun p hm hlow => ?_, fun hno => ?_⟩
  · have hsorted := outletsOf_sorted hp.1 e.feed
    have hbefore : ∀ q ∈ s.outletsOf e.feed, q < p → entryFault (t.outlet q) = none :=
      fun q hq hlt => entryFault_of_neither ht hq (hlow q hq hlt)
    exact ⟨fun hs => hpass.trans (afterGrant_fault hsorted hm (entryFault_of_short ht hm hs) hbefore),
      fun hs htr => hpass.trans (afterGrant_fault hsorted hm (entryFault_of_trip ht hm hs htr) hbefore)⟩
  · obtain ⟨hrest, houtlets⟩ := afterGrant_examines (s := { s with queue := [] }) hp.1 ht
      (fun p hm => pairWindow_of_queued hp (by simp [hq]) hm) hno (subjectOf e.feed) .state
    have hrest : pass s = { raise (subjectOf e.feed) .state t with outlets := (pass s).outlets } := hpass ▸ hrest
    have houtlets : ∀ p, (pass s).outlet p = _ := fun p => hpass ▸ houtlets p
    refine ⟨fun hquiet => ?_, hrest, houtlets⟩
    have hsame : (pass s).outlets = t.outlets := table_ext fun p =>
      (houtlets p).trans (if_neg fun hex => hquiet p hex.1 hex.2)
    rw [hrest, hsame]
    rfl

end Sys2Proof.Machine
end


/-! # READ_QUEUE and READ_MAP (O21) -/

section
namespace Sys2Proof.Machine

open Sys2Proof.Safety

/-! ## READ_QUEUE (R65) -/

/-- A READ_QUEUE command that is taken (R65, R187). -/
theorem exec_readQueue {s : State} (seq : Byte) (payload : List Byte) (h : s.takesRequests = true) :
    exec (.readQueue seq payload) s =
      .next (answered seq 0x06#8 payload (reqReadQueue (mkFrame seq 0x06#8 payload) s).2
        (reqReadQueue (mkFrame seq 0x06#8 payload) s).1) :=
  congrArg Host.Outcome.next (asRequest_live _ _ seq payload h)

/-- The bytes of a queue entry (appendix A.6). -/
theorem entryBytes_eq (s : State) (e : Entry) :
    s.entryBytes e = s.feedByte e.feed :: be16 e.amount ++
      [byte (16 * e.base + e.eff), byte (codeOrigin e.origin + (if e.unfit = true then 0x80 else 0))] := by
  rw [State.entryBytes, Nat.mul_comm e.base]
  rfl

/-- The bytes that report the claim (R65, R201). -/
theorem claimBytes_eq (s : State) :
    s.claimBytes = match s.claim with
      | none => [0x00#8, 0x00#8, 0x00#8]
      | some c => s.feedByte c.feed :: be16 c.amount := by
  unfold State.claimBytes
  cases s.claim <;> rfl

/-- The answer to a request with one byte: the queue from that position on, or BAD_VALUE (R65). -/
theorem reqReadQueue_one {fr : Frame} {b : Byte} (hp : fr.payload = [b]) (s : State) :
    (reqReadQueue fr s).2 =
      if 1 ≤ b.toNat ∧ b.toNat ≤ 12 then
        done ([byte s.queue.length] ++ s.claimBytes ++ [byte (s.queuePage b.toNat).length] ++
          (s.queuePage b.toNat).flatMap s.entryBytes)
      else refusedWith .badValue [] := by
  rw [reqReadQueue, hp]
  dsimp only
  split <;> rfl

/-! ## READ_MAP (R137) -/

/-- A READ_MAP command that is taken (R137, R187). -/
theorem exec_readMap {s : State} (seq : Byte) (payload : List Byte) (h : s.takesRequests = true) :
    exec (.readMap seq payload) s =
      .next (answered seq 0x34#8 payload (reqReadMap (mkFrame seq 0x34#8 payload) s).2
        (reqReadMap (mkFrame seq 0x34#8 payload) s).1) :=
  congrArg Host.Outcome.next (asRequest_live _ _ seq payload h)

/-- The answer to a request with one byte: the map it selects, or BAD_VALUE (R137). -/
theorem reqReadMap_one {fr : Frame} {b : Byte} (hp : fr.payload = [b]) (s : State) :
    (reqReadMap fr s).2 =
      if b.toNat = 1 then done ([b, flagByte (decide (s.stagedMap ≠ s.activeMap))] ++ s.stagedMap.bytes)
      else if b.toNat = 2 then done ([b, flagByte (decide (s.stagedMap ≠ s.activeMap))] ++ s.activeMap.bytes)
      else refusedWith .badValue [] := by
  have hbyte (n : Nat) (hn : n < 256) : b = BitVec.ofNat 8 n ↔ b.toNat = n := by
    rw [BitVec.toNat_eq, BitVec.toNat_ofNat, Nat.mod_eq_of_lt hn]
  simp only [← hbyte 1 (by decide), ← hbyte 2 (by decide)]
  rw [reqReadMap, hp]
  dsimp only
  split
  · rfl
  · split <;> rfl

/-- The bytes of a map record (appendix A.6): the member lists are filled up with zeros to four positions. -/
theorem mapBytes_eq (m : MapRec) :
    m.bytes = allOutlets.map (fun p => byte ((tget m.numbers p).getD 0)) ++
      allGangs.flatMap (fun g =>
        byte ((tget m.gangs g).getD []).length :: ((tget m.gangs g).getD []).map (fun p => byte (p.val + 1)) ++
          List.replicate (4 - ((tget m.gangs g).getD []).length) 0x00#8) := by
  simp only [MapRec.bytes, memberBytes, List.length_map]
  rfl

/-- The differs flag (R137). -/
theorem differsByte_eq (s : State) :
    flagByte (decide (s.stagedMap ≠ s.activeMap)) = if s.stagedMap = s.activeMap then 0x00#8 else 0x01#8 := by
  by_cases h : s.stagedMap = s.activeMap <;> simp [flagByte, h]

/-- Settles O21: the reports leave the state, and their bytes are those of the records. -/
theorem queueAndMapsAreRead : Obligations.QueueAndMapsAreRead := by
  refine ⟨fun seq b s hs => ?_, fun seq b s hs => ?_⟩
  · refine (exec_readQueue seq [b] hs).trans ?_
    rw [reqReadQueue_state, reqReadQueue_one rfl, funext (entryBytes_eq s), claimBytes_eq]
    rfl
  · refine (exec_readMap seq [b] hs).trans ?_
    rw [reqReadMap_state, reqReadMap_one rfl, differsByte_eq, mapBytes_eq, mapBytes_eq]
    rfl

end Sys2Proof.Machine
end


/-! # SET_POLICY (O32) -/

section
namespace Sys2Proof.Machine

open Sys2Proof.Safety

/-! ## The fields of the request (R63, R201, R202) -/

/-- An optional field of one byte is taken back from the front of the bytes it was put before (R202). -/
theorem takeByte_byte {v : Option Nat} (h : ∀ x ∈ v, x < 256) (rest : List Byte) :
    takeByte v.isSome (v.toList.map byte ++ rest) = (v, rest) := by
  cases v with
  | none => rfl
  | some x =>
    show (some (byte x).toNat, rest) = _
    rw [byte, BitVec.toNat_ofNat, Nat.mod_eq_of_lt (h x rfl)]

theorem length_byte_field (v : Option Nat) : (v.toList.map byte).length = v.isSome.toNat := by
  cases v <;> rfl

/-- A request with a bit that names no field is refused once its length fits the bits that do (R201, R202). -/
theorem reqSetPolicy_unnamed {fr : Frame} {m : Byte} {rest : List Byte} (hp : fr.payload = m :: rest)
    (hm : 8 ≤ m.toNat) (hl : rest.length = bitsSet m) (s : State) : reqSetPolicy fr s = refuse s .badValue := by
  rw [← maskCount_eq_bitsSet] at hl
  rw [reqSetPolicy, hp]
  dsimp only
  rw [if_pos hl, if_neg fun h => unnamed_bit hm h.1]

/-- A request whose mask names the fields it carries writes them if each is in range (R63, R201, R202). -/
theorem reqSetPolicy_fields {fr : Frame} {m p a : Option Nat}
    (hpay : fr.payload = maskOf m.isSome p.isSome a.isSome :: (m.toList ++ p.toList ++ a.toList).map byte)
    (hm : ∀ v ∈ m, v < 256) (hp : ∀ v ∈ p, v < 256) (ha : ∀ v ∈ a, v < 256) (s : State) :
    reqSetPolicy fr s =
      if within m 1 ∧ within p 1 ∧ within a Config.agingMax then
        (writePolicy (newPolicy m p a s.policy) s, done (writePolicy (newPolicy m p a s.policy) s).policy.bytes)
      else refuse s .badValue := by
  obtain ⟨b0, b1, b2, hnamed⟩ := maskOf_bits m.isSome p.isSome a.isSome
  have hlen : ((m.toList ++ p.toList ++ a.toList).map byte).length = maskCount (maskOf m.isSome p.isSome a.isSome) := by
    simp only [List.map_append, List.length_append, length_byte_field, maskCount, b0, b1, b2]
  have t1 := takeByte_byte hm (p.toList.map byte ++ a.toList.map byte)
  have t2 := takeByte_byte hp (a.toList.map byte)
  have t3 := takeByte_byte ha []
  rw [List.append_nil] at t3
  rw [reqSetPolicy, hpay]
  dsimp only
  rw [if_pos hlen, b0, b1, b2, List.map_append, List.map_append, List.append_assoc, t1]
  dsimp only
  rw [t2]
  dsimp only
  rw [t3]
  simp only [hnamed, true_and]

/-! ## The policy written (R63, R64) -/

/-- The policy with the fields present written, field by field. -/
theorem newPolicy_eq (m p a : Option Nat) (old : Policy) :
    newPolicy m p a old =
      { mode := m.elim old.mode (fun v => if v = 1 then .fitFirst else .strict)
        preemption := p.elim old.preemption (fun v => decide (v = 1))
        aging := a.getD old.aging } := by
  cases m <;> cases p <;> rfl

/-- What a changed aging period does to an entry's timer (R64). -/
theorem retime_eq (n : Nat) (e : Entry) :
    retime n e = if n = 0 then { e with aging := none } else if e.eff < 7 then { e with aging := some n } else e := by
  rw [retime]
  by_cases h : n = 0
  · rw [if_neg (by omega), if_pos h]
  · rw [if_pos (by omega), if_neg h]

/-- The state with a policy written and its consequences taken, before the pass (R64). -/
def withPolicy (n : Policy) (s : State) : State :=
  { s with
    policy := n
    queue := if n.aging = s.policy.aging then s.queue else s.queue.map (retime n.aging)
    claim := if s.policy.preemption = true ∧ n.preemption = false then none else s.claim }

/-- A pass ends the event if a value has changed (R63). -/
theorem writePolicy_eq (n : Policy) (s : State) :
    writePolicy n s = if n = s.policy then withPolicy n s else pass (withPolicy n s) := by
  simp only [writePolicy, withPolicy, passIf, Bool.and_eq_true, Bool.not_eq_true', decide_eq_true_eq, ne_eq, ite_not]

/-- The policy in force after the request is the one written (R63). -/
theorem writePolicy_policy (n : Policy) (s : State) : (writePolicy n s).policy = n := by
  rw [writePolicy_eq]
  split
  · rfl
  · exact (fixed_pass _).policy

/-- The bytes of a policy (R63, R203). -/
theorem policyBytes_eq (n : Policy) :
    n.bytes = [if n.mode = .fitFirst then 0x01#8 else 0x00#8, if n.preemption = true then 0x01#8 else 0x00#8,
      byte n.aging] := by
  rw [Policy.bytes]
  cases n.mode <;> rfl

/-- A SET_POLICY command that is taken (R63, R187). -/
theorem exec_setPolicy {s : State} (seq : Byte) (payload : List Byte) (h : s.takesRequests = true) :
    exec (.setPolicy seq payload) s =
      .next (answered seq 0x23#8 payload (reqSetPolicy (mkFrame seq 0x23#8 payload) s).2
        (reqSetPolicy (mkFrame seq 0x23#8 payload) s).1) :=
  congrArg Host.Outcome.next (asRequest_live _ _ seq payload h)

/-- Settles O32: the mask and the length give back the three fields, which are written if they are in range. -/
theorem setPolicyWritesWithConsequences : Obligations.SetPolicyWritesWithConsequences := by
  refine ⟨fun seq mask rest s hs hm hl => ?_, fun seq m p a s hm hp ha hs => ?_⟩
  · rw [exec_setPolicy _ _ hs, reqSetPolicy_unnamed rfl hm hl]
    rfl
  · have hwithin : (within m 1 ∧ within p 1 ∧ within a Config.agingMax) ↔
        (∀ v ∈ m, v ≤ 1) ∧ (∀ v ∈ p, v ≤ 1) ∧ ∀ v ∈ a, v ≤ 60 :=
      and_congr within_iff (and_congr within_iff within_iff)
    refine (exec_setPolicy _ _ hs).trans ?_
    rw [reqSetPolicy_fields rfl hm hp ha]
    by_cases hin : (∀ v ∈ m, v ≤ 1) ∧ (∀ v ∈ p, v ≤ 1) ∧ ∀ v ∈ a, v ≤ 60
    · refine Eq.trans ?_ (if_pos hin).symm
      rw [if_pos (hwithin.2 hin), writePolicy_policy, policyBytes_eq, writePolicy_eq, newPolicy_eq, withPolicy,
        funext (retime_eq _)]
      rfl
    · refine Eq.trans ?_ (if_neg hin).symm
      rw [if_neg fun h => hin (hwithin.1 h)]
      rfl

end Sys2Proof.Machine
end


/-! # Profile writes on queued feeds (O25) -/

section
namespace Sys2Proof.Machine

open Sys2Proof.Safety

/-! ## Targets (R146) -/

/-- The outlet that alone carries a logical number is the one found under it (R132). -/
theorem outletOfLogical_eq {s : State} {p : OutletId} {n : Nat} (h : s.logicalOf p = some n)
    (hone : ∀ q, s.logicalOf q = some n → q = p) : s.outletOfLogical n = some p := by
  cases hf : s.outletOfLogical n with
  | none => simpa [h] using List.find?_eq_none.1 hf p (mem_allOutlets p)
  | some q => rw [hone q (by simpa using List.find?_some hf)]

/-- A byte that names an outlet gives it as the target (R146). -/
theorem outletTarget_of_names {s : State} {b : Byte} {p : OutletId} (h : namesOutlet s b p) :
    s.outletTarget b = some p := by
  rcases h with hb | ⟨h1, h12, hlog, hone⟩
  · have hread : readTarget b = .physical p := by
      have hp : Fin.ofNat 12 (b.toNat - 0x41) = p := Fin.ext (by simp [hb])
      rw [readTarget, if_neg (by omega), if_pos (by omega), hp]
    rw [State.outletTarget, hread]
  · have hread : readTarget b = .logical b.toNat := by rw [readTarget, if_pos ⟨h1, h12⟩]
    rw [State.outletTarget, hread]
    exact outletOfLogical_eq hlog hone

/-- The byte of a gang's number gives it as the target (R146). -/
theorem gangTarget_byte (g : GangId) : gangTarget (byte (0x81 + g.val)) = some g := by
  revert g
  decide

/-! ## Requests with one pair (R155, R157) -/

/-- The bytes of one pair are read back (R155, R202). -/
theorem readPairs_one (id : Byte) {v : Nat} (hv : v < 65536) : readPairs (id :: be16 v) = some [(id, v)] := by
  show some [(id, num16 (byte (v / 256)) (byte v))] = _
  rw [num16_be16 hv]

/-- A SET_PROFILE with one pair that passes the checks writes it, and runs a pass if the write triggers one (R155). -/
theorem reqSetProfile_one {fr : Frame} {s : State} {b id : Byte} {p : OutletId} {f : ProfileField} {v : Nat}
    (hpay : fr.payload = b :: id :: be16 v) (hb : s.outletTarget b = some p) (hv : v < 65536)
    (hid : profileField id = some f) (hrange : fieldInRange f v = true)
    (hallowed : fieldAllowed f (s.outletState p) = true) :
    reqSetProfile fr s =
      (passIf (writePair p f v s).2 (writePair p f v s).1, done [byte (p.val + 1), byte 1]) := by
  have hcheck : checkPairs [(id, v)] = .ok [(id, f, v)] := by simp [checkPairs, hid, hrange]
  have hset : setProfileOf p [(id, v)] s =
      (passIf (writePair p f v s).2 (writePair p f v s).1, done [byte (p.val + 1), byte 1]) := by
    simp [setProfileOf, hcheck, hallowed, writePairs]
  simp [reqSetProfile, hpay, readPairs_one id hv, pairCount, hb, hset]

/-- The same of SET_GANG_PROFILE (R157). -/
theorem reqSetGangProfile_one {fr : Frame} {s : State} {b id : Byte} {g : GangId} {f : GangField} {v : Nat}
    (hpay : fr.payload = b :: id :: be16 v) (hb : gangTarget b = some g) (hv : v < 65536)
    (hid : gangField id = some f) (hrange : gangFieldInRange f v = true)
    (hallowed : s.gangFieldAllowed g f = true) :
    reqSetGangProfile fr s =
      (passIf (writeGangPair g f v s).2 (writeGangPair g f v s).1, done [byte (g.val + 1), byte 1]) := by
  have hcheck : checkGangPairs [(id, v)] = .ok [(id, f, v)] := by simp [checkGangPairs, hid, hrange]
  have hset : setGangProfileOf g [(id, v)] s =
      (passIf (writeGangPair g f v s).2 (writeGangPair g f v s).1, done [byte (g.val + 1), byte 1]) := by
    simp [setGangProfileOf, hcheck, hallowed, writeGangPairs]
  simp [reqSetGangProfile, hpay, readPairs_one id hv, pairCount, hb, hset]

/-- A SET_PROFILE command that is taken (R155, R187). -/
theorem exec_setProfile {s : State} (seq : Byte) (payload : List Byte) (h : s.takesRequests = true) :
    exec (.setProfile seq payload) s =
      .next (answered seq 0x20#8 payload (reqSetProfile (mkFrame seq 0x20#8 payload) s).2
        (reqSetProfile (mkFrame seq 0x20#8 payload) s).1) :=
  congrArg Host.Outcome.next (asRequest_live _ _ seq payload h)

/-- A SET_GANG_PROFILE command that is taken (R157, R187). -/
theorem exec_setGangProfile {s : State} (seq : Byte) (payload : List Byte) (h : s.takesRequests = true) :
    exec (.setGangProfile seq payload) s =
      .next (answered seq 0x21#8 payload (reqSetGangProfile (mkFrame seq 0x21#8 payload) s).2
        (reqSetGangProfile (mkFrame seq 0x21#8 payload) s).1) :=
  congrArg Host.Outcome.next (asRequest_live _ _ seq payload h)

/-! ## Priority writes (R49) -/

/-- A base-priority write on a queued feed: its entry takes the new priority and its place, and a pass is due. -/
theorem priorityWritten_queued {f : Feed} {v : Nat} {s : State} {e : Entry} (hst : s.feedState f = .queued)
    (he : s.entryOf f = some e) :
    priorityWritten f v s =
      ({ s with
          queue := insertBy entryBefore { e with base := v, eff := v, aging := s.agingFor v } (dropEntry f s.queue) },
        true) := by
  rw [priorityWritten, hst]
  dsimp only
  rw [updEntry_some he]

/-! ## Request writes (R48, R76) -/

/-- The state with the request of an outlet written (R3). -/
def withRequest (p : OutletId) (v : Nat) (s : State) : State :=
  s.setOutlet p { s.outlet p with profile := { (s.outlet p).profile with request := v } }

/-- The request amount of a feed after a write to the request of one of its outlets (R1). -/
theorem requestAmount_withRequest {s : State} {f : Feed} (hn : (s.outletsOf f).Nodup) {p : OutletId}
    (hp : p ∈ s.outletsOf f) (v : Nat) :
    (withRequest p v s).requestAmount f = s.requestAmount f - (s.outlet p).profile.request + v := by
  have hrest : ∀ q ∈ (s.outletsOf f).erase p,
      ((withRequest p v s).outlet q).profile.request = (s.outlet q).profile.request := fun q hq => by
    rw [withRequest, setOutlet_outlet_other _ _ _ _ (hn.mem_erase_iff.1 hq).1]
  have hown : ((withRequest p v s).outlet p).profile.request = v := by rw [withRequest, setOutlet_outlet_same]
  have hfeed : (withRequest p v s).outletsOf f = s.outletsOf f := rfl
  rw [State.requestAmount, State.requestAmount, hfeed, ← List.sum_map_erase _ hp, ← List.sum_map_erase _ hp,
    List.map_congr_left hrest, hown]
  omega

/-- An entry that keeps its effective priority and stamp keeps its place in an ordered queue (R46). -/
theorem insertBy_samePlace {front back : List Entry} {e e' : Entry}
    (hord : (front ++ e :: back).Pairwise fun a b => entryBefore a b = true) (heff : e'.eff = e.eff)
    (hstamp : e'.stamp = e.stamp) : insertBy entryBefore e' (front ++ back) = front ++ e' :: back := by
  obtain ⟨-, hback, hfront⟩ := List.pairwise_append.1 hord
  refine insertBy_between _ _ _ _ (fun y hy => ?_) fun y hy => ?_
  · have hbefore := (entryBefore_iff y e).1 (hfront y hy e (by simp))
    rw [Bool.eq_false_iff, ne_eq, entryBefore_iff, heff, hstamp]
    omega
  · have hafter := (entryBefore_iff e y).1 (List.rel_of_pairwise_cons hback (List.mem_of_mem_head? hy))
    rw [entryBefore_iff, heff, hstamp]
    exact hafter

/-- A request write on a queued feed: its entry keeps its place with the new amount, a claim on it follows or is
dropped, and a pass runs when it is dropped (R48, R76). -/
theorem amountWritten_queued {f : Feed} {s : State} {front back : List Entry} {e : Entry}
    (hn : (s.queue.map Entry.feed).Nodup) (hord : orderOk s) (hq : s.queue = front ++ e :: back) (hf : e.feed = f) :
    let u := { s with
      queue := front ++
        { e with amount := s.requestAmount f, unfit := decide (s.budget < s.requestAmount f) } :: back }
    passIf (amountWritten f s).2 (amountWritten f s).1 =
      if s.claim.map Claim.feed = some f then
        (if s.budget < s.requestAmount f then pass { u with claim := none }
        else { u with claim := some { feed := f, amount := s.requestAmount f } })
      else u := by
  intro u
  have he : s.entryOf f = some e := hf ▸ entryOf_of_mem hn (by simp [hq])
  have hdrop : dropEntry f s.queue = front ++ back := by
    rw [← hf, hq]
    exact dropEntry_split (hq ▸ hn)
  have hentry : updEntry f (fun e =>
      { e with amount := s.requestAmount f, unfit := decide (s.budget < s.requestAmount f) }) s = u := by
    have hsorted := hord.1
    rw [hq] at hsorted
    rw [updEntry_some he, hdrop, insertBy_samePlace hsorted] <;> rfl
  rw [amountWritten, hentry]
  by_cases hc : s.claim.map Claim.feed = some f
  · rw [if_pos hc, if_pos ((isClaimant_iff s f).2 hc)]
    by_cases hbad : s.budget < s.requestAmount f
    · rw [if_pos hbad, if_pos (decide_eq_true hbad)]
      rfl
    · rw [if_neg hbad, if_neg (by simpa using hbad)]
      rfl
  · rw [if_neg hc, if_neg (mt (isClaimant_iff s f).1 hc)]
    rfl

/-! ## One pair on a queued feed (R4, R48, R49) -/

theorem writePair_request {p : OutletId} {f : Feed} {v : Nat} {s : State} (hf : s.feedOf p = some f)
    (hst : s.feedState f = .queued) :
    writePair p .request v s = amountWritten f (withRequest p v s) := by
  rw [writePair, hf]
  dsimp only
  rw [if_pos hst]
  rfl

theorem writePair_priority {p : OutletId} {v : Nat} {s : State} (hf : s.feedOf p = some (.solo p)) :
    writePair p .priority v s =
      priorityWritten (.solo p) v
        (s.setOutlet p { s.outlet p with profile := { (s.outlet p).profile with priority := v } }) := by
  rw [writePair, hf]
  rfl

theorem writeGangPair_priority {g : GangId} {v : Nat} {s : State} (hg : (s.membersOf g).isSome = true) :
    writeGangPair g .priority v s =
      priorityWritten (.gang g) v
        (s.setGang g { s.gang g with profile := { (s.gang g).profile with priority := v } }) := by
  rw [writeGangPair]
  dsimp only
  rw [if_pos hg]
  rfl

theorem feedState_setProfile (p : OutletId) (r : Profile) (s : State) (f : Feed) :
    (s.setOutlet p { s.outlet p with profile := r }).feedState f = s.feedState f :=
  feedState_updOutlet (h := fun o => { o with profile := r }) s rfl f

theorem feedState_setGangProfile (g : GangId) (r : GangProfile) (s : State) (f : Feed) :
    (s.setGang g { s.gang g with profile := r }).feedState f = s.feedState f :=
  feedState_updGang (h := fun x => { x with profile := r }) s rfl f

/-- The feed of an entry is queued, and the entry is found under it (R45). -/
theorem entry_queued {s : State} (hp : powerOk s) {e : Entry} (he : e ∈ s.queue) :
    isFeed s e.feed ∧ s.feedState e.feed = .queued ∧ s.entryOf e.feed = some e := by
  have hn := powerOk_nodup hp
  obtain ⟨-, -, ⟨hentries, -⟩, -⟩ := hp
  obtain ⟨hf, hst, -⟩ := hentries e he
  exact ⟨hf, hst, entryOf_of_mem hn he⟩

/-- Settles O25: a request, a priority of a solo feed, and a priority of a gang. -/
theorem queuedEntriesFollowProfileWrites : Obligations.QueuedEntriesFollowProfileWrites := by
  refine ⟨fun seq b p f v s front back e hs hp hord hb hf hv1 hv hq hfe => ?_,
    fun seq b p v s e hs hp hb hf hv he hfe => ?_, fun seq g v s e hs hp hv he hfe => ?_⟩
  · obtain ⟨-, hst, -⟩ := entry_queued hp (e := e) (by simp [hq])
    rw [hfe] at hst
    have hallowed : fieldAllowed .request (s.outletState p) = true := by
      rw [outletState_of_feed hf, hst]
      rfl
    have hreq := reqSetProfile_one (fr := mkFrame seq 0x20#8 (b :: 0x01#8 :: be16 v)) rfl (outletTarget_of_names hb)
      (by omega) rfl (by simp [fieldInRange, inRange, hv1, hv]) hallowed
    have hamount := requestAmount_withRequest (outletsOf_nodup hp.1 f) (mem_outletsOf hf) v
    rw [exec_setProfile _ _ hs, hreq, writePair_request hf hst,
      amountWritten_queued (s := withRequest p v s) (powerOk_nodup (s := s) hp) hord hq hfe, hamount]
    rfl
  · obtain ⟨-, hst, hentry⟩ := entry_queued hp he
    rw [hfe] at hst hentry
    have hallowed : fieldAllowed .priority (s.outletState p) = true := by
      rw [outletState_of_feed hf]
      rfl
    have hreq := reqSetProfile_one (fr := mkFrame seq 0x20#8 (b :: 0x02#8 :: be16 v)) rfl (outletTarget_of_names hb)
      (by omega) rfl (by simp [fieldInRange, inRange, hv]) hallowed
    rw [exec_setProfile _ _ hs, hreq, writePair_priority hf,
      priorityWritten_queued ((feedState_setProfile _ _ _ _).trans hst) hentry]
    rfl
  · obtain ⟨hg, hst, hentry⟩ := entry_queued hp he
    rw [hfe] at hg hst hentry
    have hreq := reqSetGangProfile_one (fr := mkFrame seq 0x21#8 (byte (0x81 + g.val) :: 0x01#8 :: be16 v)) (s := s) rfl
      (gangTarget_byte g) (by omega) rfl (by simp [gangFieldInRange, inRange, hv]) rfl
    rw [exec_setGangProfile _ _ hs, hreq, writeGangPair_priority hg,
      priorityWritten_queued ((feedState_setGangProfile _ _ _ _).trans hst) hentry]
    rfl

end Sys2Proof.Machine
end


/-! # Victims, preemption and shedding (O14, O15, O16) -/

section
namespace Sys2Proof.Machine

open Sys2Proof.Safety

/-! ## Victim order (R68) -/

theorem victimBefore_iff (a b : Running) :
    victimBefore a b = true ↔ a.priority < b.priority ∨ (a.priority = b.priority ∧ b.stamp < a.stamp) := by
  simp [victimBefore]

/-- `a` may stand ahead of `b` in victim order (R68). -/
def Ahead (a b : Running) : Prop := a.priority < b.priority ∨ (a.priority = b.priority ∧ b.stamp ≤ a.stamp)

theorem ahead_of_before {a b : Running} (h : victimBefore a b = true) : Ahead a b := by
  rw [victimBefore_iff] at h
  unfold Ahead
  omega

theorem ahead_of_not_before {a b : Running} (h : victimBefore b a = false) : Ahead a b := by
  have h' : ¬ (b.priority < a.priority ∨ b.priority = a.priority ∧ a.stamp < b.stamp) := by
    rw [← victimBefore_iff, h]
    decide
  unfold Ahead
  omega

theorem Ahead.trans {a b c : Running} (h : Ahead a b) (h' : Ahead b c) : Ahead a c := by
  unfold Ahead at *
  omega

/-- A feed put in its place keeps the order. -/
theorem pairwise_ahead_insertBy (r : Running) {l : List Running} (h : l.Pairwise Ahead) :
    (insertBy victimBefore r l).Pairwise Ahead := by
  obtain ⟨front, back, rfl, hins, hfront, hback⟩ := insertBy_split victimBefore r l
  obtain ⟨hf, hb, hfb⟩ := List.pairwise_append.1 h
  have hafter : ∀ y ∈ back, Ahead r y := by
    cases back with
    | nil => simp
    | cons y ys =>
      have hy : Ahead r y := ahead_of_before (hback y rfl)
      intro z hz
      rcases List.mem_cons.1 hz with rfl | hz
      · exact hy
      · exact hy.trans ((List.pairwise_cons.1 hb).1 z hz)
  rw [hins, List.pairwise_append]
  refine ⟨hf, List.pairwise_cons.2 ⟨hafter, hb⟩, fun x hx y hy => ?_⟩
  rcases List.mem_cons.1 hy with rfl | hy
  · exact ahead_of_not_before (hfront x hx)
  · exact hfb x hx y hy

theorem pairwise_ahead_foldl (l : List Running) {acc : List Running} (h : acc.Pairwise Ahead) :
    (l.foldl (fun a r => insertBy victimBefore r a) acc).Pairwise Ahead := by
  induction l generalizing acc with
  | nil => exact h
  | cons r l ih => exact ih (pairwise_ahead_insertBy r h)

theorem victims_ordered (s : State) : s.victims.Pairwise Ahead := pairwise_ahead_foldl _ List.Pairwise.nil

/-- A victim carries its feed's priority, grant stamp and allocation of the moment. -/
theorem victim_fields {s : State} {r : Running} (h : r ∈ s.victims) :
    r.priority = s.priorityOf r.feed ∧ r.stamp = s.stampOf r.feed ∧ r.alloc = s.allocOf r.feed := by
  have hm := (foldl_insertBy_perm victimBefore _ []).subset h
  rw [List.append_nil] at hm
  obtain ⟨f, -, rfl⟩ := List.mem_map.1 hm
  exact ⟨rfl, rfl, rfl⟩

/-- Every running feed is a victim. -/
theorem running_mem_victims {s : State} (hm : mapsOk s) {f : Feed} (hf : isFeed s f)
    (hp : (s.feedState f).powered = true) : f ∈ s.victims.map Running.feed :=
  (victims_feeds s).symm.subset (List.mem_filter.2 ⟨(mem_feeds hm).2 hf, hp⟩)

/-! ## The stop of a victim (R69, R82) -/

theorem stopVictim_requeue (c : StopCause) {f : Feed} {s : State} (h : s.shedPolicyOf f = .requeue) :
    stopVictim c f s = raise (subjectOf f) .state (raise (subjectOf f) .shed (stopFeed f c .queued s)) := by
  simp only [stopVictim, h, destOf]

theorem stopVictim_drop (c : StopCause) {f : Feed} {s : State} (h : s.shedPolicyOf f = .drop) :
    stopVictim c f s =
      completeOp .powerOn .shed f (raise (subjectOf f) .state (raise (subjectOf f) .shed (stopFeed f c .off s))) := by
  simp only [stopVictim, h, destOf]

/-- Settles O14: victims are inserted in order, and the shed policy decides the stop. -/
theorem victimsAreRankedAndStopped : Obligations.VictimsAreRankedAndStopped := by
  refine ⟨fun s hm => ⟨fun r hr => ?_, fun f => running_mem_victims hm, (victims_runners hm).nodup,
      victims_ordered s⟩,
    fun c f s hm _ => ⟨fun h => ⟨stopFeed f c .queued s, ?_, stopVictim_requeue c h⟩,
      fun h => ⟨stopFeed f c .off s, ?_, stopVictim_drop c h⟩⟩⟩
  · obtain ⟨hf, hp⟩ := (victims_runners hm).running r hr
    exact ⟨hf, hp, victim_fields hr⟩
  · exact stopFeed_spec f c .queued s (outletsOf_nodup hm f)
  · exact stopFeed_spec f c .off s (outletsOf_nodup hm f)

/-! ## The shortest run that covers a need (R74) -/

/-- The first `k` feeds of `l` bring what is available to the need. -/
def Covers (need avail : Int) (l : List Running) (k : Nat) : Prop :=
  need ≤ avail + (((l.take k).map Running.alloc).sum : Nat)

theorem covers_zero (need avail : Int) (l : List Running) : Covers need avail l 0 ↔ need ≤ avail := by
  simp [Covers]

theorem covers_cons_succ (need avail : Int) (r : Running) (l : List Running) (k : Nat) :
    Covers need avail (r :: l) (k + 1) ↔ Covers need (avail + r.alloc) l k := by
  simp [Covers, add_assoc]

theorem shortestRun_met {need avail : Int} (h : need ≤ avail) (l : List Running) :
    shortestRun need avail l = some [] := by
  cases l <;> simp [shortestRun, h]

theorem shortestRun_cons {need avail : Int} (h : ¬ need ≤ avail) (r : Running) (l : List Running) :
    shortestRun need avail (r :: l) = (shortestRun need (avail + r.alloc) l).map (r :: ·) := by
  rw [shortestRun, if_neg h]
  cases shortestRun need (avail + r.alloc) l <;> rfl

/-- The run is as long as it takes to cover the need, and no longer. -/
theorem shortestRun_some {need avail : Int} {l : List Running} {k : Nat} (hk : k ≤ l.length)
    (hc : Covers need avail l k) (hmin : ∀ j, j < k → ¬ Covers need avail l j) :
    shortestRun need avail l = some (l.take k) := by
  induction l generalizing avail k with
  | nil =>
    obtain rfl : k = 0 := by simpa using hk
    exact shortestRun_met ((covers_zero _ _ _).1 hc) []
  | cons r l ih =>
    cases k with
    | zero => exact shortestRun_met ((covers_zero _ _ _).1 hc) _
    | succ k =>
      have hnot : ¬ need ≤ avail := fun h => hmin 0 (by omega) ((covers_zero _ _ _).2 h)
      have hrun := ih (Nat.le_of_succ_le_succ hk) ((covers_cons_succ _ _ _ _ _).1 hc) fun j hj h =>
        hmin (j + 1) (by omega) ((covers_cons_succ _ _ _ _ _).2 h)
      rw [shortestRun_cons hnot, hrun]
      rfl

/-- When not even all of the feeds cover the need there is no run. -/
theorem shortestRun_none {need avail : Int} {l : List Running}
    (h : ∀ k, k ≤ l.length → ¬ Covers need avail l k) :
    shortestRun need avail l = none := by
  induction l generalizing avail with
  | nil =>
    have h0 := h 0 le_rfl
    rw [covers_zero] at h0
    rw [shortestRun, if_neg h0]
  | cons r l ih =>
    have h0 := h 0 (Nat.zero_le _)
    rw [covers_zero] at h0
    have hrest := ih fun k hk hc => h (k + 1) (Nat.succ_le_succ hk) ((covers_cons_succ _ _ _ _ _).2 hc)
    rw [shortestRun_cons h0, hrest]
    rfl

/-! ## Preemption (R72 to R75) -/

/-- The conditions of R72 for a blocked entry. -/
def MayPreempt (e : Entry) (s : State) : Prop :=
  s.policy.preemption = true ∧ s.claim = none ∧ e.unfit = false ∧ s.hold = false

theorem mayPreempt_iff (e : Entry) (s : State) :
    (s.policy.preemption && s.claim.isNone && !e.unfit && !s.hold) = true ↔ MayPreempt e s := by
  simp [MayPreempt, and_assoc]

theorem preempt_idle {e : Entry} {s : State} (h : ¬ MayPreempt e s) : preempt e s = s := by
  rw [preempt, if_neg (mt (mayPreempt_iff e s).1 h)]

/-- What the preemption evaluation does with the run it finds (R75). -/
theorem preempt_run {e : Entry} {s : State} (h : MayPreempt e s) {vs : List Running}
    (hvs : shortestRun e.amount ((s.budget : Int) - s.held) (s.eligible e) = some vs) :
    preempt e s =
      { vs.foldl (fun t r => stopVictim .preempt r.feed t) s with
        claim := some { feed := e.feed, amount := e.amount } } := by
  rw [preempt, if_pos ((mayPreempt_iff e s).2 h), hvs]

theorem preempt_noRun {e : Entry} {s : State}
    (hvs : shortestRun e.amount ((s.budget : Int) - s.held) (s.eligible e) = none) : preempt e s = s := by
  rw [preempt, hvs, ite_self]

/-- Feeds cover what the entry lacks when its amount fits beside the held total less their allocations. -/
theorem covers_entry (e : Entry) (s : State) (k : Nat) :
    Covers e.amount ((s.budget : Int) - s.held) (s.eligible e) k ↔
      e.amount + s.held ≤ s.budget + (((s.eligible e).take k).map Running.alloc).sum := by
  unfold Covers
  omega

/-- Settles O15: the run found is the shortest from the front of the eligible feeds that covers the entry. -/
theorem preemptionStopsShortestPrefix : Obligations.PreemptionStopsShortestPrefix := by
  refine fun e s => ⟨fun hmay => ⟨fun k hk hc hmin => ?_, fun hnone => ?_⟩, preempt_idle⟩
  · exact preempt_run hmay (shortestRun_some hk ((covers_entry e s k).2 hc) fun j hj h =>
      hmin j hj ((covers_entry e s j).1 h))
  · exact preempt_noRun (shortestRun_none fun k hk h => hnone k hk ((covers_entry e s k).1 h))

/-! ## What a victim's stop takes off the active total (R35, R69) -/

/-- A victim's stop is its feed's stop and calm notices. -/
theorem stopVictim_calm {s : State} (hm : mapsOk s) (c : StopCause) (f : Feed) :
    ∃ t, afterStop f c (destOf (s.shedPolicyOf f)) s t ∧ Calm t (stopVictim c f s) := by
  refine ⟨_, stopFeed_spec f c _ s (outletsOf_nodup hm f), ?_⟩
  have htold := fun t : State => (calm_raise (subjectOf f) .shed t).trans (calm_raise (subjectOf f) .state _)
  cases h : s.shedPolicyOf f with
  | requeue =>
    rw [stopVictim_requeue c h]
    exact htold _
  | drop =>
    rw [stopVictim_drop c h]
    exact (htold _).trans (calm_completeOp _ _ _ _)

theorem mapsOk_stopVictim {s : State} (hm : mapsOk s) (c : StopCause) (f : Feed) : mapsOk (stopVictim c f s) :=
  (mapsOk_congr (fixed_stopVictim c f s).activeMap (fixed_stopVictim c f s).stagedMap).2 hm

theorem stopVictim_totals {s : State} (hm : mapsOk s) (c : StopCause) (f : Feed) :
    (stopVictim c f s).active = s.active - s.allocOf f ∧ (stopVictim c f s).held = s.held := by
  obtain ⟨t, ⟨-, -, ht⟩, hcalm⟩ := stopVictim_calm hm c f
  rw [hcalm.active, hcalm.held, ht]
  exact ⟨rfl, rfl⟩

/-- A stopped outlet keeps its allocation (R13). -/
theorem stopVictim_alloc {s : State} (hm : mapsOk s) (c : StopCause) (f : Feed) (p : OutletId) :
    ((stopVictim c f s).outlet p).alloc = (s.outlet p).alloc := by
  obtain ⟨t, ⟨hout, -, -⟩, hcalm⟩ := stopVictim_calm hm c f
  rw [(hcalm.outlet p).alloc, hout p]
  split_ifs <;> rfl

theorem stopVictim_outletPowered_inside {s : State} (hm : mapsOk s) (c : StopCause) {f : Feed} {p : OutletId}
    (hp : s.feedOf p = some f) : (stopVictim c f s).outletPowered p = false := by
  rw [outletPowered_of_feed (((fixed_stopVictim c f s).feedOf p).trans hp), stopVictim_feedState_same hm]

theorem stopVictim_outletPowered_outside {s : State} (hm : mapsOk s) (c : StopCause) {f : Feed} {p : OutletId}
    (hp : s.feedOf p ≠ some f) : (stopVictim c f s).outletPowered p = s.outletPowered p := by
  have hfeed := (fixed_stopVictim c f s).feedOf p
  cases hg : s.feedOf p with
  | none =>
    rw [hg] at hfeed
    simp [State.outletPowered, outletState_unmapped, hfeed, hg]
  | some g =>
    rw [hg] at hfeed hp
    rw [outletPowered_of_feed hfeed, outletPowered_of_feed hg,
      stopVictim_feedState_other hm c fun e => hp (congrArg some e)]

/-- The active total is the sum over the outlets in STARTING and ON (R31). -/
def activeSummed (s : State) : Prop := s.active = allocSum s s.outletPowered

/-- The active total stays the sum R31 names: what leaves it is what the stopped feed's outlets added. -/
theorem activeSummed_stopVictim {s : State} (hm : mapsOk s) (c : StopCause) {f : Feed} (hf : isFeed s f)
    (hp : (s.feedState f).powered = true) (h : activeSummed s) : activeSummed (stopVictim c f s) := by
  have hin : ∀ q ∈ s.outletsOf f, s.feedOf q = some f := fun q hq => feedOf_of_mem hm hf hq
  have hbefore : (s.outletsOf f).map (fun q => if s.outletPowered q then (s.outlet q).alloc else 0) =
      (s.outletsOf f).map fun q => (s.outlet q).alloc :=
    List.map_congr_left fun q hq => by rw [outletPowered_of_feed (hin q hq), hp, if_pos rfl]
  have hafter : (s.outletsOf f).map
      (fun q => if (stopVictim c f s).outletPowered q then ((stopVictim c f s).outlet q).alloc else 0) =
      (s.outletsOf f).map fun _ => 0 :=
    List.map_congr_left fun q hq => by simp [stopVictim_outletPowered_inside hm c (hin q hq)]
  have hsum := outletSum_change (outletsOf_nodup hm f)
    (c := fun q => if s.outletPowered q then (s.outlet q).alloc else 0)
    (c' := fun q => if (stopVictim c f s).outletPowered q then ((stopVictim c f s).outlet q).alloc else 0)
    fun q hq => by rw [stopVictim_outletPowered_outside hm c fun e => hq (mem_outletsOf e), stopVictim_alloc hm]
  rw [hbefore, hafter, List.map_const', List.sum_replicate, smul_zero] at hsum
  have hactive : s.active = outletSum fun q => if s.outletPowered q then (s.outlet q).alloc else 0 := h
  show (stopVictim c f s).active = outletSum _
  rw [(stopVictim_totals hm c f).1, hactive, State.allocOf]
  omega

/-- With no feed in STARTING or ON the active total is 0. -/
theorem activeSummed_zero {s : State} (h : activeSummed s)
    (hoff : ∀ f, isFeed s f → (s.feedState f).powered = false) : s.active = 0 := by
  have hno : ∀ p, s.outletPowered p = false := fun p => by
    cases hf : s.feedOf p with
    | none => simp [State.outletPowered, outletState_unmapped hf]
    | some f => rw [outletPowered_of_feed hf, hoff f (isFeed_of_feedOf hf)]
  rw [h]
  simp [allocSum, hno]

/-! ## A run of stops -/

/-- The victims of a list stop, first to last. -/
def stopAll (c : StopCause) (l : List Running) (s : State) : State := l.foldl (fun t r => stopVictim c r.feed t) s

theorem stopAll_cons (c : StopCause) (r : Running) (l : List Running) (s : State) :
    stopAll c (r :: l) s = stopAll c l (stopVictim c r.feed s) := rfl

theorem stopAll_held (c : StopCause) (l : List Running) {s : State} (hm : mapsOk s) :
    (stopAll c l s).held = s.held := by
  induction l generalizing s with
  | nil => rfl
  | cons r l ih =>
    rw [stopAll_cons, ih (mapsOk_stopVictim hm c r.feed), (stopVictim_totals hm c r.feed).2]

/-- The part while it stops victims: those still listed are the feeds that run, and the active total is their sum. -/
structure Stopping (l : List Running) (s : State) : Prop where
  maps : mapsOk s
  runners : Runners l s
  listed : ∀ f, isFeed s f → (s.feedState f).powered = true → f ∈ l.map Running.feed
  summed : activeSummed s

theorem Stopping.stop {r : Running} {l : List Running} {s : State} (h : Stopping (r :: l) s) (c : StopCause) :
    Stopping l (stopVictim c r.feed s) := by
  obtain ⟨hf, hp⟩ := h.runners.running r (by simp)
  refine ⟨mapsOk_stopVictim h.maps c r.feed, h.runners.stop h.maps c, fun f hf' hp' => ?_,
    activeSummed_stopVictim h.maps c hf hp h.summed⟩
  have hne : f ≠ r.feed := fun e => by
    rw [e, stopVictim_feedState_same h.maps] at hp'
    cases hp'
  rw [isFeed_congr (fixed_stopVictim c r.feed s).activeMap] at hf'
  rw [stopVictim_feedState_other h.maps c hne] at hp'
  simpa [hne] using h.listed f hf' hp'

/-- Once every victim has stopped nothing is active. -/
theorem Stopping.stopAll_active {l : List Running} {s : State} (h : Stopping l s) (c : StopCause) :
    (stopAll c l s).active = 0 := by
  induction l generalizing s with
  | nil => exact activeSummed_zero h.summed fun f hf => Bool.eq_false_iff.2 fun hp => by simpa using h.listed f hf hp
  | cons r l ih => exact ih (h.stop c)

theorem victims_stopping {s : State} (hm : mapsOk s) (h : activeSummed s) : Stopping s.victims s :=
  ⟨hm, victims_runners hm, fun _ => running_mem_victims hm, h⟩

/-! ## Shortfall shedding (R70) -/

/-- Shedding that has come to fit stops no more. -/
theorem foldl_shedStep_fits (l : List Running) {t : State × Nat} (h : t.1.active ≤ t.1.budget) :
    l.foldl shedStep t = t := by
  induction l with
  | nil => rfl
  | cons r l ih => rw [List.foldl_cons, shedStep, if_pos h, ih]

/-- Shedding stops the feeds of the list from the front: before each stop the active total exceeds the budget, and when
it leaves some of the list running the total fits. -/
theorem foldl_shedStep_prefix (l : List Running) (t : State × Nat) :
    ∃ k, k ≤ l.length ∧ l.foldl shedStep t = (stopAll .shed (l.take k) t.1, t.2 + k) ∧
      (k < l.length → (stopAll .shed (l.take k) t.1).active ≤ t.1.budget) ∧
      ∀ j, j < k → t.1.budget < (stopAll .shed (l.take j) t.1).active := by
  induction l generalizing t with
  | nil => exact ⟨0, le_rfl, rfl, by simp, by simp⟩
  | cons r l ih =>
    by_cases hfit : t.1.active ≤ t.1.budget
    · exact ⟨0, Nat.zero_le _, foldl_shedStep_fits _ hfit, fun _ => hfit, by simp⟩
    · obtain ⟨k, hk, hrun, hend, habove⟩ := ih (stopVictim .shed r.feed t.1, t.2 + 1)
      rw [(fixed_stopVictim .shed r.feed t.1).budget] at hend habove
      refine ⟨k + 1, Nat.succ_le_succ hk, ?_, fun hlt => hend (Nat.lt_of_succ_lt_succ hlt), fun j hj => ?_⟩
      · rw [List.foldl_cons, shedStep, if_neg hfit, hrun, List.take_succ_cons, stopAll_cons, Nat.add_right_comm,
          Nat.add_assoc]
      · cases j with
        | zero => exact Nat.lt_of_not_le hfit
        | succ j => exact habove j (Nat.lt_of_succ_lt_succ hj)

/-- Settles O16: shedding stops victims from the front of their order, and after the whole of it nothing is active. -/
theorem sheddingStopsPrefixInOrder : Obligations.SheddingStopsPrefixInOrder := by
  intro s hm _ hsum
  obtain ⟨k, hk, hrun, hend, habove⟩ := foldl_shedStep_prefix s.victims (s, 0)
  have hshed : shedAll s = (stopAll .shed (s.victims.take k) s, k) := by rw [shedAll, hrun, Nat.zero_add]
  refine ⟨k, hk, hshed, ?_, ?_, habove⟩
  · rw [hshed]
    rcases hk.lt_or_eq with hlt | rfl
    · exact hend hlt
    · rw [List.take_length, (victims_stopping hm hsum).stopAll_active]
      exact Nat.zero_le _
  · rw [hshed]
    exact stopAll_held .shed _ hm

end Sys2Proof.Machine
end


/-! # Scans, and the fault inputs of an outlet (O45, O49) -/

section
namespace Sys2Proof.Machine

/-! ## Events outside a hard reset -/

section
variable {s : State} (h : s.inReset = false)
include h

theorem next_event_live (act : State → State) :
    (.next (event act s) : Host.Outcome State Fault Refusal) = .next (driveAux (act s)) := by
  rw [event_live act h]

/-- The command of an input pin, whose level alone is followed in a hard reset (R199). -/
theorem next_pin_live (act : State → State) (t : State) :
    (.next (if s.inReset then t else event act s) : Host.Outcome State Fault Refusal) = .next (driveAux (act s)) := by
  rw [if_neg (Bool.eq_false_iff.1 h), event_live act h]

end

/-! ## The Meter's part (R86, R87, R89) -/

/-- The levels are bounded by 90 % and 10 % of 12 V (R86). -/
theorem levelOf_eq (v : Nat) :
    levelOf v = if 9 * 1200000 ≤ 10 * v then .up else if 1200000 ≤ 10 * v then .mid else .down := by
  rw [levelOf, Nat.mul_comm Config.nominalUv, Nat.mul_comm v]
  rfl

/-- The record after the Meter's part of a scan, in the manual's numbers. -/
theorem measured_eq (v i : Nat) (o : OutletRec) :
    measured v i o =
      { o with
        ring := if o.ring.length < 8 then o.ring ++ [min 2000 (2000 * v * i / (1200000 * 1000000))]
          else o.ring.tail ++ [min 2000 (2000 * v * i / (1200000 * 1000000))]
        peak := max o.peak (min 2000 (2000 * v * i / (1200000 * 1000000)))
        latest := some (min 2000 (2000 * v * i / (1200000 * 1000000)),
          if 9 * 1200000 ≤ 10 * v then .up else if 1200000 ≤ 10 * v then .mid else .down) } := by
  rw [measured, levelOf_eq, pushSample, List.drop_one]
  rfl

/-! ## The overdraw comparison (R88, R94) -/

/-- The overdraw window after the comparison: with the check ON and 8 samples it runs exactly while the average is above
the limit, and a running one is not restarted (R94). -/
theorem compareDraw_window (o : OutletRec) :
    (compareDraw o).overdrawWindow =
      if o.profile.overdrawCheck = true ∧ o.ring.length = 8 then
        if o.overdrawLimit < o.ring.sum / 8 then some (o.overdrawWindow.getD o.profile.overdrawWindow) else none
      else o.overdrawWindow := by
  unfold compareDraw OutletRec.average OutletRec.ready Config.ringSize
  by_cases hready : o.ring.length = 8
  · by_cases hcheck : o.profile.overdrawCheck = true
    · by_cases hover : o.overdrawLimit < o.ring.sum / 8
      · cases hw : o.overdrawWindow <;> simp [hready, hcheck, hover, hw]
      · simp [hready, hcheck, hover]
    · simp [hready, hcheck]
  · simp [hready]

/-! ## The scan by the outlet's state (R93, R94) -/

/-- A DOWN output is reported to stopping feeds only (R16, R93, R125). -/
theorem reportDown_notStopping {p : OutletId} {s : State} (h : ∀ c d, s.outletState p ≠ .mapped (.stopping c d)) :
    reportDown p s = s := by
  unfold reportDown
  split
  · rfl
  · next q hf =>
    cases feedOf_solo hf
    split
    · next c d hst => exact absurd (hst ▸ outletState_of_feed hf) (h c d)
    · rfl
  · next g hf =>
    split
    · next c d hst => exact absurd (hst ▸ outletState_of_feed hf) (h c d)
    · rfl

section
variable {p : OutletId} {s : State} (v i : Nat)

theorem measured_outletState : (updOutlet p (measured v i) s).outletState p = s.outletState p :=
  (calm_measured p v i s).outletState p

/-- In ON a scan goes on to the overdraw comparison. -/
theorem scan_on (h : s.outletState p = .mapped .on) :
    scan p v i s = s.setOutlet p (compareDraw (measured v i (s.outlet p))) := by
  have hon : (updOutlet p (measured v i) s).outletOn p = true := by
    rw [State.outletOn, measured_outletState, decide_eq_true h]
  rw [scan, if_pos hon, updOutlet_updOutlet]

/-- Outside ON a scan ends with the measurement, unless it finds a stopping outlet DOWN. -/
theorem scan_notOn (h : s.outletState p ≠ .mapped .on)
    (hdown : levelOf v = .down → ∀ c d, s.outletState p ≠ .mapped (.stopping c d)) :
    scan p v i s = s.setOutlet p (measured v i (s.outlet p)) := by
  have hoff : ¬ (updOutlet p (measured v i) s).outletOn p = true := by
    rw [State.outletOn, measured_outletState, decide_eq_false h]
    decide
  rw [scan, if_neg hoff]
  split
  · next hl => exact reportDown_notStopping (by rw [measured_outletState]; exact hdown hl)
  · rfl

end

/-- Settles O45: the scan measures, and whether it compares or reports rests on the outlet's state. -/
theorem scanMeasuresAndCompares : Obligations.ScanMeasuresAndCompares := by
  intro p v i s hlive
  have hexec : exec (.meterScan p v i) s = .next (driveAux (scan p v i s)) := next_event_live hlive _
  dsimp only
  rw [hexec, ← levelOf_eq]
  refine ⟨fun hoff hdown => ?_, fun hon => ?_⟩
  · rw [scan_notOn v i hoff hdown, measured_eq, levelOf_eq]
  · rw [scan_on v i hon, compareDraw_meter, compareDraw_window, measured_eq, levelOf_eq]
    rfl

/-! ## A qualified pulse and the examination of a condition (R100 to R102) -/

section
variable (p : OutletId) (s : State) (r : OutletRec)

/-- A qualified pulse by the trip mode and, in PAIR mode, by the pair window (R101, R102). -/
theorem qualify_setOutlet :
    qualify p (s.setOutlet p r) =
      if r.profile.tripMode = .single then takeFault p .overcurrent (s.setOutlet p { r with width := none })
      else if r.pairWindow = none then
        s.setOutlet p { r with width := none, pairWindow := some r.profile.pairWindow }
      else takeFault p .overcurrent (s.setOutlet p { r with width := none, pairWindow := none }) := by
  simp only [qualify, updOutlet_setOutlet, setOutlet_outlet_same]
  cases r.profile.tripMode with
  | single => rfl
  | pair => cases r.pairWindow <;> rfl

/-- A width of 0 qualifies at once, another is measured (R100). -/
theorem examine_setOutlet :
    examine p (s.setOutlet p r) =
      if r.profile.width = 0 then qualify p (s.setOutlet p r)
      else s.setOutlet p { r with width := some r.profile.width } := by
  rw [examine, setOutlet_outlet_same, updOutlet_setOutlet]

end

/-! ## The events of the fault inputs (R95, R98 to R104) -/

section
variable {p : OutletId} {s : State}

/-- A condition that begins is examined in STARTING and ON while no blanking runs (R98, R99). -/
theorem overcurrentBegins_absent (h : (s.outlet p).overcurrent = false) :
    overcurrentBegins p s =
      if s.outletPowered p = true ∧ (s.outlet p).blanking = none then
        examine p (s.setOutlet p { s.outlet p with overcurrent := true })
      else s.setOutlet p { s.outlet p with overcurrent := true } := by
  have hpins : Calm s (s.setOutlet p { s.outlet p with overcurrent := true }) :=
    calm_pins (h := fun o => { o with overcurrent := true }) s rfl
  rw [overcurrentBegins, if_neg (by simp [h]), updOutlet]
  simp [State.examined, hpins.outletPowered]

/-- At the blanking's end a present condition is taken as beginning (R99). -/
theorem blankingExpired_running (hb : (s.outlet p).blanking.isSome = true) (hp : s.outletPowered p = true) :
    blankingExpired p s =
      if (s.outlet p).overcurrent = true then examine p (s.setOutlet p { s.outlet p with blanking := none })
      else s.setOutlet p { s.outlet p with blanking := none } := by
  rw [blankingExpired, if_pos ⟨hb, hp⟩, updOutlet]
  dsimp only
  rw [setOutlet_outlet_same]

theorem widthReached_running (hw : (s.outlet p).width.isSome = true) (hp : s.outletPowered p = true) :
    widthReached p s = qualify p s := if_pos ⟨hw, hp⟩

theorem shortChanged_same {a : Bool} (h : (s.outlet p).shortN = a) : shortChanged p a s = s := if_pos h

/-- SHORT_N going active trips the outlet at once (R104). -/
theorem shortChanged_active (h : (s.outlet p).shortN = false) :
    shortChanged p true s = takeFault p .short (s.setOutlet p { s.outlet p with shortN := true }) :=
  if_neg (by simp [h])

/-- A release is recorded and does nothing else; of a released line it is no change. -/
theorem shortChanged_released : shortChanged p false s = s.setOutlet p { s.outlet p with shortN := false } := by
  by_cases h : (s.outlet p).shortN = false
  · rw [shortChanged_same h, ← h, setOutlet_outlet_self]
  · exact if_neg h

theorem overdrawExpired_running (hw : (s.outlet p).overdrawWindow.isSome = true) (hon : s.outletState p = .mapped .on) :
    overdrawExpired p s = takeFault p .overdraw (s.setOutlet p { s.outlet p with overdrawWindow := none }) :=
  if_pos ⟨hw, decide_eq_true hon⟩

end

/-- Settles O49: outside a reset each command is its event; the condition's events come to its examination and to the
qualified pulse, of the record as the event has left it. -/
theorem faultInputsAct : Obligations.FaultInputsAct := by
  refine ⟨fun p s hlive => ?_, fun p s hlive => ?_⟩
  · intro o qualified examined
    have hqualify : ∀ r, qualified r = qualify p (s.setOutlet p r) := fun r => (qualify_setOutlet p s r).symm
    have hexamine : ∀ r, examined r = examine p (s.setOutlet p r) := fun r => by
      rw [examine_setOutlet, ← hqualify]
    refine ⟨fun habsent => ?_, next_pin_live hlive _ _, fun hrun hpow => ?_, fun hrun hpow => ?_,
      next_event_live hlive _⟩
    · rw [hexamine, ← overcurrentBegins_absent habsent]
      exact next_pin_live hlive _ _
    · rw [hexamine, ← blankingExpired_running hrun hpow]
      exact next_event_live hlive _
    · rw [hqualify, setOutlet_outlet_self, ← widthReached_running hrun hpow]
      exact next_event_live hlive _
  · refine ⟨fun hreleased => ?_, fun hactive => ?_, ?_, fun hrun hon => ?_⟩
    · rw [← shortChanged_active hreleased]
      exact next_pin_live hlive _ _
    · rw [← congrArg driveAux (shortChanged_same hactive)]
      exact next_pin_live hlive _ _
    · rw [← shortChanged_released]
      exact next_pin_live hlive _ _
    · rw [← overdrawExpired_running hrun hon]
      exact next_event_live hlive _

end Sys2Proof.Machine
end


/-! # Feed records under the part's operations, and faults, CLEAR_FAULT and feed timers in the manual's words (O18, O29,
O50) -/

section
namespace Sys2Proof.Machine

open Sys2Proof.Safety

/-! ## Changes outside the retry part of the feeds -/

/-- `t` has the active map of `s` and, of every feed, the state, the count, the backoff and the latch threshold. -/
structure SameRetry (s t : State) : Prop where
  activeMap : t.activeMap = s.activeMap
  state : ∀ f, t.feedState f = s.feedState f
  count : ∀ f, (t.feedRec f).count = (s.feedRec f).count
  backoff : ∀ f, (t.feedRec f).backoff = (s.feedRec f).backoff
  threshold : ∀ f, t.thresholdOf f = s.thresholdOf f

theorem SameRetry.refl (s : State) : SameRetry s s := ⟨rfl, fun _ => rfl, fun _ => rfl, fun _ => rfl, fun _ => rfl⟩

theorem SameRetry.trans {s t u : State} (a : SameRetry s t) (b : SameRetry t u) : SameRetry s u :=
  ⟨b.activeMap.trans a.activeMap, fun f => (b.state f).trans (a.state f), fun f => (b.count f).trans (a.count f),
    fun f => (b.backoff f).trans (a.backoff f), fun f => (b.threshold f).trans (a.threshold f)⟩

theorem SameRetry.foldl {α : Type} {g : State → α → State} (hg : ∀ s x, SameRetry s (g s x)) (l : List α)
    (s : State) : SameRetry s (l.foldl g s) := by
  induction l generalizing s with
  | nil => exact SameRetry.refl s
  | cons x l ih => exact (hg s x).trans (ih (g s x))

/-- Records and thresholds that stand keep the retry part. -/
theorem sameRetry_of_rec {s t : State} (ha : t.activeMap = s.activeMap) (hr : ∀ f, t.feedRec f = s.feedRec f)
    (ht : ∀ f, t.thresholdOf f = s.thresholdOf f) : SameRetry s t where
  activeMap := ha
  state f := congrArg FeedRec.state (hr f)
  count f := congrArg FeedRec.count (hr f)
  backoff f := congrArg FeedRec.backoff (hr f)
  threshold := ht

/-- A change outside outlets, gangs and the active map. -/
theorem sameRetry_of_eq {s t : State} (ho : t.outlets = s.outlets) (hg : t.gangs = s.gangs)
    (ha : t.activeMap = s.activeMap) : SameRetry s t := by
  refine sameRetry_of_rec ha (fun f => ?_) (fun f => ?_) <;> cases f
  · simp only [State.feedRec, outlet_of_outlets ho]
  · simp only [State.feedRec, gang_of_gangs hg]
  · simp only [State.thresholdOf, outlet_of_outlets ho]
  · simp only [State.thresholdOf, gang_of_gangs hg]

theorem feedRec_setOutlet {p : OutletId} {o : OutletRec} {s : State} (hr : o.own = (s.outlet p).own) (f : Feed) :
    (s.setOutlet p o).feedRec f = s.feedRec f := by
  cases f with
  | gang g => rfl
  | solo q =>
    simp only [State.feedRec, setOutlet_outlet]
    split
    · next e => rw [hr, e]
    · rfl

theorem thresholdOf_setOutlet_other {p : OutletId} {f : Feed} (o : OutletRec) (s : State) (h : f ≠ .solo p) :
    (s.setOutlet p o).thresholdOf f = s.thresholdOf f := by
  cases f with
  | gang g => rfl
  | solo q =>
    have hq : q ≠ p := fun e => h (by rw [e])
    simp only [State.thresholdOf, setOutlet_outlet, if_neg hq]

theorem sameRetry_setOutlet {p : OutletId} {o : OutletRec} {s : State} (hr : o.own = (s.outlet p).own)
    (ht : o.profile.threshold = (s.outlet p).profile.threshold) : SameRetry s (s.setOutlet p o) := by
  refine sameRetry_of_rec rfl (feedRec_setOutlet hr) fun f => ?_
  by_cases e : f = .solo p
  · subst e
    simp only [State.thresholdOf, setOutlet_outlet_same, ht]
  · exact thresholdOf_setOutlet_other o s e

theorem sameRetry_updOutlet {p : OutletId} {h : OutletRec → OutletRec} (s : State)
    (hr : (h (s.outlet p)).own = (s.outlet p).own)
    (ht : (h (s.outlet p)).profile.threshold = (s.outlet p).profile.threshold) : SameRetry s (updOutlet p h s) :=
  sameRetry_setOutlet hr ht

theorem setGang_gang (g k : GangId) (r : GangRec) (s : State) :
    (s.setGang g r).gang k = if k = g then r else s.gang k := tget_tset s.gangs g k r

theorem feedRec_setGang {g : GangId} {r : GangRec} {s : State} (hr : r.own = (s.gang g).own) (f : Feed) :
    (s.setGang g r).feedRec f = s.feedRec f := by
  cases f with
  | solo p => rfl
  | gang k =>
    simp only [State.feedRec, setGang_gang]
    split
    · next e => rw [hr, e]
    · rfl

theorem thresholdOf_setGang_other {g : GangId} {f : Feed} (r : GangRec) (s : State) (h : f ≠ .gang g) :
    (s.setGang g r).thresholdOf f = s.thresholdOf f := by
  cases f with
  | solo p => rfl
  | gang k =>
    have hk : k ≠ g := fun e => h (by rw [e])
    simp only [State.thresholdOf, setGang_gang, if_neg hk]

theorem sameRetry_updGang {g : GangId} {h : GangRec → GangRec} (s : State) (hr : (h (s.gang g)).own = (s.gang g).own)
    (ht : (h (s.gang g)).profile.threshold = (s.gang g).profile.threshold) : SameRetry s (updGang g h s) := by
  refine sameRetry_of_rec rfl (feedRec_setGang hr) fun f => ?_
  by_cases e : f = .gang g
  · subst e
    simp only [State.thresholdOf, updGang, setGang_gang_same, ht]
  · exact thresholdOf_setGang_other _ s e

theorem sameRetry_raise (subj : Subject) (fl : NoticeFlag) (s : State) : SameRetry s (raise subj fl s) :=
  sameRetry_of_eq rfl rfl rfl

/-- A feed's pending operation is no part of its retries. -/
theorem sameRetry_setOp (f : Feed) (x : Option SlotId) (s : State) :
    SameRetry s (updFeed f (fun r => { r with op := x }) s) := by
  have hrec : ∀ g, (updFeed f (fun r => { r with op := x }) s).feedRec g =
      { s.feedRec g with op := if g = f then x else (s.feedRec g).op } := fun g => by
    by_cases e : g = f
    · subst e
      simp
    · simp [updFeed_feedRec_other _ _ _ _ e, e]
  refine ⟨(fixed_updFeed f _ s).activeMap, fun g => ?_, fun g => ?_, fun g => ?_, fun g => updFeed_thresholdOf f g _ s⟩
  · rw [State.feedState, hrec, State.feedState]
  · rw [hrec]
  · rw [hrec]

theorem sameRetry_setSlot (n : SlotId) (x : Slot) (s : State) : SameRetry s (s.setSlot n x) :=
  sameRetry_of_eq rfl rfl rfl

theorem sameRetry_bindSlot (n : SlotId) (op : SlotOp) (f : Feed) (s : State) : SameRetry s (bindSlot n op f s) :=
  (sameRetry_setSlot n _ s).trans (sameRetry_setOp f (some n) _)

theorem sameRetry_completeOp (k : PowerKind) (o : Completion) (f : Feed) (s : State) :
    SameRetry s (completeOp k o f s) := by
  unfold completeOp
  split
  · exact SameRetry.refl s
  · split
    · split
      · exact ((sameRetry_setSlot _ _ s).trans (sameRetry_setOp f none _)).trans (sameRetry_raise _ _ _)
      · exact SameRetry.refl s
    · exact SameRetry.refl s

theorem sameRetry_raiseFault (f : Feed) (p : OutletId) (s : State) : SameRetry s (raiseFault f p s) := by
  cases f with
  | solo q => exact sameRetry_raise _ _ s
  | gang g => exact (sameRetry_raise _ _ s).trans (sameRetry_raise _ _ _)

theorem sameRetry_stopOutlet (s : State) (p : OutletId) : SameRetry s (stopOutlet s p) := by
  refine SameRetry.trans (sameRetry_setOutlet (p := p) ?_ ?_) (sameRetry_of_eq rfl rfl rfl) <;> rfl

theorem sameRetry_grantOutlet (n : Nat) (s : State) (p : OutletId) : SameRetry s (grantOutlet n s p) := by
  refine SameRetry.trans (sameRetry_setOutlet (p := p) ?_ ?_) (sameRetry_of_eq rfl rfl rfl) <;> rfl

theorem sameRetry_returnAlloc (p : OutletId) (s : State) : SameRetry s (returnAlloc p s) := by
  refine SameRetry.trans (sameRetry_setOutlet (p := p) ?_ ?_) (sameRetry_of_eq rfl rfl rfl) <;> rfl

/-! ## Counted faults (R97, R107, R126) -/

/-- The recording of a fault, but for the count. -/
theorem recordFault_sameRetry (f : Feed) (p : OutletId) (c : FaultCause) (s : State) :
    SameRetry (updFeed f (fun r => { r with count := countUp r.count }) s) (recordFault f p c s) := by
  have hcause := sameRetry_updOutlet (p := p) (h := fun o => { o with lastCause := some c })
    (updFeed f (fun r => { r with count := countUp r.count }) s) rfl rfl
  cases f with
  | solo q => exact hcause
  | gang g => exact hcause.trans (sameRetry_updGang (h := fun r => { r with lastMember := some p }) _ rfl rfl)

theorem recordFault_count (f : Feed) (p : OutletId) (c : FaultCause) (s : State) :
    ((recordFault f p c s).feedRec f).count = countUp (s.feedRec f).count := by
  rw [(recordFault_sameRetry f p c s).count, updFeed_feedRec_same]

theorem recordFault_thresholdOf (f : Feed) (p : OutletId) (c : FaultCause) (s : State) (g : Feed) :
    (recordFault f p c s).thresholdOf g = s.thresholdOf g := by
  rw [(recordFault_sameRetry f p c s).threshold, updFeed_thresholdOf]

theorem mapsOk_fixed {s t : State} (h : Fixed s t) (hm : mapsOk s) : mapsOk t :=
  (mapsOk_congr h.activeMap h.stagedMap).2 hm

/-- Below the latch threshold a fault stops the feed for RETRY_WAIT (R107, R126). -/
theorem faultFeed_below {f : Feed} {s : State} (p : OutletId) (c : FaultCause)
    (h : countUp (s.feedRec f).count < s.thresholdOf f) :
    faultFeed f p c s =
      raise (subjectOf f) .state (raiseFault f p (stopFeed f .fault .retryWait (recordFault f p c s))) :=
  if_pos (by rwa [recordFault_count, recordFault_thresholdOf])

/-- From the latch threshold on it completes a pending POWER_ON and stops the feed for LATCHED (R107, R126). -/
theorem faultFeed_atThreshold {f : Feed} {s : State} (p : OutletId) (c : FaultCause)
    (h : s.thresholdOf f ≤ countUp (s.feedRec f).count) :
    faultFeed f p c s =
      raise (subjectOf f) .state (raiseFault f p
        (stopFeed f .fault .latched (completeOp .powerOn .faulted f (recordFault f p c s)))) :=
  if_neg (by rw [recordFault_count, recordFault_thresholdOf]; exact Nat.not_lt.2 h)

/-- A fault at an outlet outside STARTING and ON has no effect (R97). -/
theorem takeFault_unpowered {p : OutletId} {s : State} (c : FaultCause) (h : s.outletPowered p = false) :
    takeFault p c s = s := by
  unfold takeFault
  cases hf : s.feedOf p with
  | none => rfl
  | some f =>
    rw [outletPowered_of_feed hf] at h
    exact if_neg (Bool.eq_false_iff.1 h)

/-- In STARTING and ON it is taken on the outlet's feed. -/
theorem takeFault_powered {p : OutletId} {f : Feed} {s : State} (c : FaultCause) (hf : s.feedOf p = some f)
    (h : s.outletPowered p = true) : takeFault p c s = faultFeed f p c s := by
  rw [outletPowered_of_feed hf] at h
  simp [takeFault, hf, h]

/-- Settles O18: the recording, the stop by the threshold, and the notices, for a solo feed and for a gang. -/
theorem faultsCountAndStop : Obligations.FaultsCountAndStop := by
  intro p c s hm
  refine ⟨takeFault_unpowered c, fun f hpow hf => ?_⟩
  intro n u v told
  have hv : v = recordFault f p c s := by cases f <;> rfl
  have htold : ∀ t, told t = raise (subjectOf f) .state (raiseFault f p t) := fun t => by
    cases f with
    | solo q => rw [feedOf_solo hf]; rfl
    | gang g => rfl
  have hstop : ∀ (d : Dest) (w : State), Fixed s w → afterStop f .fault d w (stopFeed f .fault d w) := fun d w hw =>
    stopFeed_spec f .fault d w (outletsOf_nodup (mapsOk_fixed hw hm) f)
  have hrec := fixed_recordFault f p c s
  rw [hv, takeFault_powered c hf hpow]
  refine ⟨fun hlt => ⟨_, hstop .retryWait _ hrec, ?_⟩,
    fun hle => ⟨_, hstop .latched _ (hrec.trans (fixed_completeOp _ _ _ _)), ?_⟩⟩
  · rw [htold]
    exact faultFeed_below p c hlt
  · rw [htold]
    exact faultFeed_atThreshold p c hle

/-! ## CLEAR_FAULT (R115, R116, R128, R158) -/

/-- A byte that names a feed gives it as the target of a power request (R146). -/
theorem feedTarget_of_names {s : State} {b : Byte} {f : Feed} (h : namesFeed s b f) : s.feedTarget b = .ok f := by
  cases f with
  | solo p =>
    obtain ⟨h1, h12, hlog, hone, hsolo⟩ := h
    have hread : readTarget b = .logical b.toNat := if_pos ⟨h1, h12⟩
    simp [State.feedTarget, hread, outletOfLogical_eq hlog hone, hsolo]
  | gang g =>
    obtain ⟨hb, hdef⟩ := h
    have hread : readTarget b = .gang g := by
      have hg : Fin.ofNat 4 (b.toNat - 0x81) = g := Fin.ext (by simp [hb])
      rw [readTarget, if_neg (by omega), if_neg (by omega), if_pos (by omega), hg]
    simp [State.feedTarget, hread, hdef]

theorem countAfterClear_eq (st : FeedState) : countAfterClear st = if retryBound st = true then 1 else 0 := by
  cases st with
  | stopping c d => cases d <;> rfl
  | _ => rfl

theorem clearFeed_latched {f : Feed} {s : State} (h : s.feedState f = .latched) :
    clearFeed f s = raise (subjectOf f) .state (updFeed f (fun r => { r with state := .off, count := 0 }) s) := by
  simp [clearFeed, h]

theorem clearFeed_elsewhere {f : Feed} {s : State} (h : s.feedState f ≠ .latched) :
    clearFeed f s = updFeed f (fun r => { r with count := countAfterClear (s.feedState f) }) s := by
  unfold clearFeed
  split
  · next hst => exact absurd hst h
  · rfl

/-- A CLEAR_FAULT command that is taken. -/
theorem exec_clearFault {s : State} {b : Byte} {f : Feed} (seq : Byte) (h : s.takesRequests = true)
    (hb : namesFeed s b f) :
    exec (.clearFault seq [b]) s =
      .next (answered seq 0x12#8 [b]
        (done [codeFeedState ((clearFeed f s).feedState f), byte ((clearFeed f s).feedRec f).count])
        (clearFeed f s)) := by
  have hreq : reqClearFault (mkFrame seq 0x12#8 [b]) s = (clearFeed f s,
      done [codeFeedState ((clearFeed f s).feedState f), byte ((clearFeed f s).feedRec f).count]) := by
    simp [reqClearFault, mkFrame, feedTarget_of_names hb]
  have hexec : exec (.clearFault seq [b]) s = .next (answered seq 0x12#8 [b]
      (reqClearFault (mkFrame seq 0x12#8 [b]) s).2 (reqClearFault (mkFrame seq 0x12#8 [b]) s).1) :=
    congrArg Host.Outcome.next (asRequest_live _ _ seq [b] h)
  rw [hexec, hreq]

/-- Settles O29: the reply reads the state and the count that the clearing leaves. -/
theorem clearFaultSetsTheCount : Obligations.ClearFaultSetsTheCount := by
  intro seq b f s hlive hb st n
  rw [exec_clearFault seq hlive hb]
  refine ⟨fun hst => ?_, fun hst => ?_⟩
  · rw [clearFeed_latched hst]
    simp only [State.feedState, raise_feedRec, updFeed_feedRec_same]
    rfl
  · rw [clearFeed_elsewhere hst, countAfterClear_eq]
    simp only [State.feedState, updFeed_feedRec_same]
    rfl

/-! ## Stability and backoff (R112, R113, R123, R127) -/

theorem stabilityExpired_on {f : Feed} {s : State} (ht : (s.feedRec f).stability.isSome = true)
    (hst : s.feedState f = .on) :
    stabilityExpired f s = updFeed f (fun r => { r with count := 0, stability := none }) s := if_pos ⟨ht, hst⟩

theorem backoffExpired_waiting {f : Feed} {s : State} (ht : (s.feedRec f).backoff.isSome = true)
    (hst : s.feedState f = .retryWait) :
    backoffExpired f s = pass (raise (subjectOf f) .state (enterQueued f .retry s)) := if_pos ⟨ht, hst⟩

/-- Settles O50: outside a reset each command is the expiry of its feed's timer. -/
theorem feedTimersExpire : Obligations.FeedTimersExpire := by
  intro s hlive
  refine ⟨fun p hf ht hst => ?_, fun g hf ht hst => ?_, fun p hf ht hst => ?_, fun g hf ht hst => ?_⟩
  · refine (next_event_live hlive _).trans ?_
    rw [if_pos hf, stabilityExpired_on (f := .solo p) ht hst]
    rfl
  · refine (next_event_live hlive _).trans ?_
    rw [if_pos hf, stabilityExpired_on (f := .gang g) ht hst]
    rfl
  · refine (next_event_live hlive _).trans ?_
    rw [if_pos hf, backoffExpired_waiting (f := .solo p) ht hst]
    rfl
  · refine (next_event_live hlive _).trans ?_
    rw [if_pos hf, backoffExpired_waiting (f := .gang g) ht hst]
    rfl

end Sys2Proof.Machine
end


/-! # Retries stay below the latch threshold: the shared operations (O60) -/

section
namespace Sys2Proof.Machine

open Sys2Proof.Safety

/-! ## The record of one feed (R107, R110, R111) -/

/-- What `retryOk` asks of a feed's record, `n` being the feed's latch threshold. -/
def RetryRec (n : Nat) (r : FeedRec) : Prop :=
  r.count ≤ 15 ∧ (retryBound r.state = true → 1 ≤ r.count ∧ r.count < n) ∧
    (r.state = .retryWait → r.backoff.isSome = true)

theorem retryOk_iff (s : State) : retryOk s ↔ ∀ f, isFeed s f → RetryRec (s.thresholdOf f) (s.feedRec f) := Iff.rfl

/-- Outside RETRY_WAIT and the way there the count alone is bounded. -/
theorem RetryRec.of_unbound {n : Nat} {r : FeedRec} (hc : r.count ≤ 15) (hst : retryBound r.state = false) :
    RetryRec n r :=
  ⟨hc, fun h => absurd h (Bool.eq_false_iff.1 hst), fun h => by rw [h] at hst; cases hst⟩

theorem retryBound_powered {st : FeedState} (h : st.powered = true) : retryBound st = false := by
  cases st with
  | retryWait => cases h
  | stopping c d => cases h
  | _ => rfl

theorem retryBound_stopping {c : StopCause} {d : Dest} (h : d ≠ .retryWait) : retryBound (.stopping c d) = false := by
  cases d with
  | retryWait => exact absurd rfl h
  | _ => rfl

theorem SameRetry.retryOk {s t : State} (h : SameRetry s t) (hs : retryOk s) : retryOk t := by
  intro f hf
  rw [h.count, h.state, h.threshold, h.backoff]
  exact hs f ((isFeed_congr h.activeMap f).1 hf)

/-- One feed's record changes. -/
theorem retryOk_updFeed {f : Feed} {h : FeedRec → FeedRec} {s : State} (hs : retryOk s)
    (hr : isFeed s f → RetryRec (s.thresholdOf f) (h (s.feedRec f))) : retryOk (updFeed f h s) := by
  rw [retryOk_iff]
  intro g hg
  have hg' : isFeed s g := (isFeed_congr (fixed_updFeed f h s).activeMap g).1 hg
  rw [updFeed_thresholdOf]
  by_cases e : g = f
  · subst e
    rw [updFeed_feedRec_same]
    exact hr hg'
  · rw [updFeed_feedRec_other _ _ _ _ e]
    exact hs g hg'

/-- A feed enters a state outside RETRY_WAIT and the way there, its count not raised. -/
theorem retryOk_enter {f : Feed} {h : FeedRec → FeedRec} {s : State} (hs : retryOk s)
    (hc : (h (s.feedRec f)).count ≤ (s.feedRec f).count) (hst : retryBound (h (s.feedRec f)).state = false) :
    retryOk (updFeed f h s) :=
  retryOk_updFeed hs fun hf => .of_unbound (hc.trans (hs f hf).1) hst

theorem retryOk_setState {f : Feed} {st : FeedState} {s : State} (hs : retryOk s) (hst : retryBound st = false) :
    retryOk (setState f st s) := retryOk_enter hs le_rfl hst

/-! ## Entries, withdrawals and redirected stops -/

section
variable {s : State} (hs : retryOk s) (f : Feed)
include hs

theorem retryOk_enterQueued (o : Origin) : retryOk (enterQueued f o s) :=
  (sameRetry_of_eq rfl rfl rfl).retryOk
    (retryOk_enter (f := f) (h := fun r => { r with state := .queued, backoff := none }) hs le_rfl rfl)

theorem retryOk_withdraw : retryOk (withdraw f s) :=
  retryOk_setState (s := { s with
    queue := dropEntry f s.queue, claim := if s.isClaimant f then none else s.claim }) hs rfl

theorem retryOk_leaveRetry : retryOk (leaveRetry f s) := retryOk_enter hs le_rfl rfl

theorem retryOk_redirect (c : StopCause) {d : Dest} (hd : d ≠ .retryWait) : retryOk (redirect f c d s) :=
  retryOk_setState hs (retryBound_stopping hd)

end

/-! ## Stops (R13, R124) -/

/-- The feed part of a stop, but for the gang's flag of R125. -/
theorem stopRecord_sameRetry (f : Feed) (c : StopCause) (d : Dest) (s : State) :
    SameRetry (updFeed f (fun r => { r with state := .stopping c d, stability := none }) s) (stopRecord f c d s) := by
  cases f with
  | solo p => exact SameRetry.refl _
  | gang g =>
    have hflag : stopRecord (.gang g) c d s = updGang g (fun r => { r with timedOut := false })
        (updFeed (.gang g) (fun r => { r with state := .stopping c d, stability := none }) s) := by
      simp [stopRecord, updFeed, updGang]
    rw [hflag]
    exact sameRetry_updGang _ rfl rfl

/-- A stop for RETRY_WAIT needs a count of at least 1 below the latch threshold; any other stop needs nothing. -/
theorem retryOk_stopFeed {f : Feed} {c : StopCause} {d : Dest} {s : State} (hs : retryOk s)
    (hd : d = .retryWait → 1 ≤ (s.feedRec f).count ∧ (s.feedRec f).count < s.thresholdOf f) :
    retryOk (stopFeed f c d s) := by
  have hout : SameRetry s ((s.outletsOf f).foldl stopOutlet s) := SameRetry.foldl sameRetry_stopOutlet _ s
  have hs' := hout.retryOk hs
  refine (stopRecord_sameRetry f c d _).retryOk (retryOk_updFeed hs' fun hf => ?_)
  by_cases e : d = .retryWait
  · subst e
    refine ⟨(hs' f hf).1, fun _ => ?_, fun h => by cases h⟩
    rw [hout.threshold, hout.count]
    exact hd rfl
  · exact .of_unbound (hs' f hf).1 (retryBound_stopping e)

/-- A stop that leads elsewhere than to RETRY_WAIT. -/
theorem retryOk_stopElsewhere {f : Feed} {c : StopCause} {d : Dest} {s : State} (hs : retryOk s)
    (hd : d ≠ .retryWait) : retryOk (stopFeed f c d s) := retryOk_stopFeed hs fun e => absurd e hd

theorem destOf_ne_retryWait (r : ShedPolicy) : destOf r ≠ .retryWait := by cases r <;> nofun

theorem retryOk_stopVictim (c : StopCause) (f : Feed) {s : State} (hs : retryOk s) : retryOk (stopVictim c f s) := by
  have h := ((sameRetry_raise (subjectOf f) .shed _).trans (sameRetry_raise (subjectOf f) .state _)).retryOk
    (retryOk_stopElsewhere (f := f) (c := c) hs (destOf_ne_retryWait (s.shedPolicyOf f)))
  unfold stopVictim
  dsimp only
  split
  · exact (sameRetry_completeOp _ _ _ _).retryOk h
  · exact h

/-! ## Faults (R107, R126) -/

theorem countUp_bounds {n : Nat} (h : n ≤ 15) : 1 ≤ countUp n ∧ countUp n ≤ 15 := by
  unfold countUp Config.countMax
  split <;> omega

/-- A running feed's fault is counted: it stops for RETRY_WAIT only with a count below its latch threshold. -/
theorem retryOk_faultFeed {f : Feed} {s : State} (hs : retryOk s) (hf : isFeed s f)
    (hp : (s.feedState f).powered = true) (p : OutletId) (c : FaultCause) : retryOk (faultFeed f p c s) := by
  obtain ⟨hmin, hmax⟩ := countUp_bounds (hs f hf).1
  have hrec : retryOk (recordFault f p c s) := (recordFault_sameRetry f p c s).retryOk
    (retryOk_updFeed hs fun _ => .of_unbound hmax (retryBound_powered hp))
  have htold : ∀ t, SameRetry t (raise (subjectOf f) .state (raiseFault f p t)) := fun t =>
    (sameRetry_raiseFault f p t).trans (sameRetry_raise _ _ _)
  by_cases hlt : countUp (s.feedRec f).count < s.thresholdOf f
  · rw [faultFeed_below p c hlt]
    refine (htold _).retryOk (retryOk_stopFeed hrec fun _ => ?_)
    rw [recordFault_count, recordFault_thresholdOf]
    exact ⟨hmin, hlt⟩
  · rw [faultFeed_atThreshold p c (Nat.not_lt.1 hlt)]
    exact (htold _).retryOk (retryOk_stopElsewhere ((sameRetry_completeOp _ _ _ _).retryOk hrec) nofun)

theorem retryOk_takeFault (p : OutletId) (c : FaultCause) {s : State} (hs : retryOk s) :
    retryOk (takeFault p c s) := by
  unfold takeFault
  split
  · exact hs
  · next f hf =>
    split
    · next hp => exact retryOk_faultFeed hs (isFeed_of_feedOf hf) hp p c
    · exact hs

/-! ## The overcurrent condition (R98 to R103) -/

theorem retryOk_qualify (p : OutletId) {s : State} (hs : retryOk s) : retryOk (qualify p s) := by
  have h : retryOk (updOutlet p (fun o => { o with width := none }) s) := (sameRetry_updOutlet s rfl rfl).retryOk hs
  unfold qualify
  dsimp only
  split
  · exact retryOk_takeFault p _ h
  · split
    · exact (sameRetry_updOutlet _ rfl rfl).retryOk h
    · exact retryOk_takeFault p _ ((sameRetry_updOutlet _ rfl rfl).retryOk h)

theorem retryOk_examine (p : OutletId) {s : State} (hs : retryOk s) : retryOk (examine p s) := by
  unfold examine
  split
  · exact retryOk_qualify p hs
  · exact (sameRetry_updOutlet _ rfl rfl).retryOk hs

/-! ## Grants and the pass (R11, R54 to R59, R72 to R75) -/

theorem retryOk_afterGrant (ps : List OutletId) {s : State} (hs : retryOk s) : retryOk (afterGrant ps s) := by
  unfold afterGrant
  split
  · split
    · exact retryOk_takeFault _ _ hs
    · exact hs
  · refine ps.foldlRecOn examineAtEntry hs fun t ht p _ => ?_
    unfold examineAtEntry
    split
    · exact retryOk_examine p ht
    · exact ht

theorem retryOk_grantFeed (f : Feed) {s : State} (hs : retryOk s) : retryOk (grantFeed f s) := by
  have hout : SameRetry s ((s.outletsOf f).foldl (grantOutlet (s.grantStamps + 1))
      { s with grantStamps := s.grantStamps + 1 }) :=
    SameRetry.trans (t := { s with grantStamps := s.grantStamps + 1 }) (sameRetry_of_eq rfl rfl rfl)
      (SameRetry.foldl (sameRetry_grantOutlet _) _ _)
  exact retryOk_afterGrant _ ((sameRetry_raise _ _ _).retryOk (retryOk_setState (hout.retryOk hs) rfl))

theorem retryOk_grantEntry (e : Entry) {s : State} (hs : retryOk s) : retryOk (grantEntry e s) :=
  retryOk_grantFeed e.feed (s := { s with
    queue := dropEntry e.feed s.queue, claim := if s.isClaimant e.feed then none else s.claim }) hs

theorem retryOk_claimantStage {s : State} (hs : retryOk s) : retryOk (claimantStage s) := by
  unfold claimantStage
  split
  · exact hs
  · split
    · exact hs
    · exact ite_keeps (fun _ => retryOk_grantEntry _ hs) hs

theorem retryOk_walk (m : AdmissionMode) (es : List Entry) (b : Option Entry) {s : State} (hs : retryOk s) :
    retryOk (walk m es b s).1 := by
  induction es generalizing b s with
  | nil => exact hs
  | cons e es ih =>
    rw [walk_cons]
    split
    · exact ih b hs
    · split
      · exact ih b (retryOk_grantEntry e hs)
      · split
        · exact hs
        · exact ih _ hs

theorem retryOk_preempt (e : Entry) {s : State} (hs : retryOk s) : retryOk (preempt e s) := by
  unfold preempt
  split
  · split
    · exact hs
    · next vs _ =>
      exact (sameRetry_of_eq rfl rfl rfl).retryOk
        (vs.foldlRecOn (motive := retryOk) _ hs fun t ht r _ => retryOk_stopVictim .preempt r.feed ht)
  · exact hs

theorem retryOk_pass {s : State} (hs : retryOk s) : retryOk (pass s) := by
  have h : retryOk (walk (claimantStage s).policy.mode (claimantStage s).queue none (claimantStage s)).1 :=
    retryOk_walk _ _ _ (retryOk_claimantStage hs)
  unfold pass
  split
  · exact hs
  · dsimp only
    split
    · exact h
    · exact retryOk_preempt _ h

theorem retryOk_passIf (b : Bool) {s : State} (hs : retryOk s) : retryOk (passIf b s) :=
  ite_keeps (fun _ => retryOk_pass hs) hs

/-! ## The budget (R30, R38, R39, R70) -/

theorem retryOk_shedStep (t : State × Nat) (r : Running) (ht : retryOk t.1) : retryOk (shedStep t r).1 := by
  unfold shedStep
  split
  · exact ht
  · exact retryOk_stopVictim .shed r.feed ht

theorem retryOk_shedAll {s : State} (hs : retryOk s) : retryOk (shedAll s).1 := by
  have h := s.victims.foldlRecOn (motive := fun t : State × Nat => retryOk t.1) (b := (s, 0)) shedStep hs
    fun t ht r _ => retryOk_shedStep t r ht
  exact h

theorem retryOk_recompute {s : State} (hs : retryOk s) : retryOk (recompute s).1 := by
  have hfit : ∀ b c, retryOk (refit { s with budget := b, claim := c }) := fun b c =>
    (sameRetry_of_eq rfl rfl rfl).retryOk hs
  unfold recompute
  dsimp only
  split
  · exact retryOk_passIf _ ((sameRetry_raise _ _ _).retryOk (retryOk_shedAll (hfit s.budgetNow none)))
  · split
    · exact retryOk_pass ((sameRetry_raise _ _ _).retryOk (hfit s.budgetNow s.claim))
    · exact hs

/-! ## A feed's change with its notice and its completion -/

section
variable {s : State} (hs : retryOk s) (f : Feed)
include hs

/-- A feed enters QUEUED with its notice and the pass of the entry (R53). -/
theorem retryOk_enterTold (o : Origin) : retryOk (pass (raise (subjectOf f) .state (enterQueued f o s))) :=
  retryOk_pass ((sameRetry_raise _ _ _).retryOk (retryOk_enterQueued hs f o))

theorem retryOk_withdrawTold (o : Completion) :
    retryOk (completeOp .powerOn o f (raise (subjectOf f) .state (withdraw f s))) :=
  ((sameRetry_raise _ _ _).trans (sameRetry_completeOp _ _ _ _)).retryOk (retryOk_withdraw hs f)

theorem retryOk_leaveTold (o : Completion) :
    retryOk (completeOp .powerOn o f (raise (subjectOf f) .state (leaveRetry f s))) :=
  ((sameRetry_raise _ _ _).trans (sameRetry_completeOp _ _ _ _)).retryOk (retryOk_leaveRetry hs f)

theorem retryOk_stopTold (c : StopCause) (o : Completion) :
    retryOk (completeOp .powerOn o f (raise (subjectOf f) .state (stopFeed f c .off s))) :=
  ((sameRetry_raise _ _ _).trans (sameRetry_completeOp _ _ _ _)).retryOk (retryOk_stopElsewhere hs nofun)

theorem retryOk_redirectTold (c : StopCause) {d : Dest} (hd : d ≠ .retryWait) (o : Completion) :
    retryOk (completeOp .powerOn o f (redirect f c d s)) :=
  (sameRetry_completeOp _ _ _ _).retryOk (retryOk_redirect hs f c hd)

end

/-! ## Discharge ends and discharge timeouts (R16, R17, R110, R125) -/

/-- The leaving of STOPPING: a feed on its way to RETRY_WAIT gets there with its count and with a backoff (R110). -/
theorem retryOk_enterDest {f : Feed} {c : StopCause} {d : Dest} {s : State} (hs : retryOk s)
    (hst : s.feedState f = .stopping c d) : retryOk (enterDest f d s) := by
  cases d with
  | off => exact retryOk_setState hs rfl
  | queued => exact retryOk_enterQueued hs f .requeue
  | retryWait =>
    refine retryOk_updFeed hs fun hf => ?_
    obtain ⟨hmax, hbound, -⟩ := hs f hf
    exact ⟨hmax, fun _ => hbound (by rw [hst]; rfl), fun _ => rfl⟩
  | latched => exact retryOk_setState hs rfl

theorem retryOk_soloDischarged {p : OutletId} {c : StopCause} {d : Dest} {s : State} (hs : retryOk s)
    (hst : s.feedState (.solo p) = .stopping c d) : retryOk (soloDischarged p d s) := by
  have hret := sameRetry_returnAlloc p s
  have hdest : retryOk (enterDest (.solo p) d (returnAlloc p s)) :=
    retryOk_enterDest (hret.retryOk hs) ((hret.state _).trans hst)
  exact retryOk_pass (((sameRetry_raise _ _ _).trans (sameRetry_completeOp _ _ _ _)).retryOk hdest)

theorem sameRetry_recordTimeout (p : OutletId) (s : State) :
    SameRetry s (updOutlet p (fun o => { o with lastCause := some .dischargeTimeout }) (returnAlloc p s)) :=
  (sameRetry_returnAlloc p s).trans (sameRetry_updOutlet _ rfl rfl)

theorem retryOk_soloTimeout (p : OutletId) {s : State} (hs : retryOk s) : retryOk (soloTimeout p s) :=
  retryOk_pass (((((sameRetry_raise _ _ _).trans (sameRetry_completeOp _ _ _ _)).trans
    (sameRetry_completeOp _ _ _ _)).trans (sameRetry_raise _ _ _)).retryOk
      (retryOk_setState ((sameRetry_recordTimeout p s).retryOk hs) rfl))

theorem retryOk_gangLeaves (g : GangId) {s : State} (hs : retryOk s) : retryOk (gangLeaves g s) := by
  unfold gangLeaves
  split
  · next c d hst =>
    exact ((sameRetry_completeOp _ _ _ _).trans (sameRetry_raise _ _ _)).retryOk
      (retryOk_enterDest (f := .gang g) hs hst)
  · exact hs

theorem retryOk_memberReturned (g : GangId) {s : State} (hs : retryOk s) : retryOk (memberReturned g s) :=
  retryOk_pass (ite_keeps (fun _ => retryOk_gangLeaves g hs) hs)

theorem retryOk_memberTimeout (g : GangId) (c : StopCause) (p : OutletId) {s : State} (hs : retryOk s) :
    retryOk (memberTimeout g c p s) := by
  have hstop : retryOk (redirect (.gang g) c .latched
      (updOutlet p (fun o => { o with lastCause := some .dischargeTimeout }) (returnAlloc p s))) :=
    retryOk_redirect ((sameRetry_recordTimeout p s).retryOk hs) _ c nofun
  exact retryOk_memberReturned g (((((sameRetry_updGang (g := g)
    (h := fun r => { r with lastMember := some p, timedOut := true }) _ rfl rfl).trans
    (sameRetry_completeOp _ _ _ _)).trans (sameRetry_raise _ _ _)).trans (sameRetry_raise _ _ _)).retryOk hstop)

end Sys2Proof.Machine
end


/-! # Retries stay below the latch threshold: power requests and profile writes (O60) -/

section
namespace Sys2Proof.Machine

open Sys2Proof.Safety

/-! ## Power requests -/

theorem retryOk_powerOnEffect (f : Feed) {s : State} (hs : retryOk s) : retryOk (powerOnEffect f s) := by
  unfold powerOnEffect
  split
  · exact retryOk_enterTold hs f .host
  · exact hs

theorem retryOk_powerOnFeed (fr : Frame) (b : Byte) (f : Feed) {s : State} (hs : retryOk s) :
    retryOk (powerOnFeed fr b f s).1 := by
  rcases powerOnFeed_state fr b f s with e | ⟨n, e⟩ <;> rw [e]
  · exact hs
  · exact retryOk_powerOnEffect f ((sameRetry_bindSlot n _ f s).retryOk hs)

theorem retryOk_reqPowerOn (fr : Frame) {s : State} (hs : retryOk s) : retryOk (reqPowerOn fr s).1 := by
  unfold reqPowerOn
  split
  · split
    · exact hs
    · exact retryOk_powerOnFeed _ _ _ hs
  · exact hs

theorem destAfterOff_ne_retryWait (d : Dest) : destAfterOff d ≠ .retryWait := by cases d <;> nofun

/-- A running feed is turned off by the host, its pending POWER_ON cancelled first (R152). -/
theorem retryOk_hostStop (f : Feed) (n : SlotId) (op : SlotOp) {s : State} (hs : retryOk s) :
    retryOk (bindSlot n op f (raise (subjectOf f) .state
      (stopFeed f .host .off (completeOp .powerOn .cancelled f s)))) :=
  ((sameRetry_raise _ _ _).trans (sameRetry_bindSlot _ _ _ _)).retryOk
    (retryOk_stopElsewhere ((sameRetry_completeOp _ _ _ _).retryOk hs) nofun)

theorem retryOk_powerOffFeed (fr : Frame) (b : Byte) (f : Feed) {s : State} (hs : retryOk s) :
    retryOk (powerOffFeed fr b f s).1 := by
  unfold powerOffFeed
  dsimp only
  split
  · exact hs
  · exact hs
  · exact retryOk_pass (retryOk_withdrawTold hs f .cancelled)
  · exact retryOk_leaveTold hs f .cancelled
  · split
    · exact hs
    · exact retryOk_hostStop f _ _ hs
  · split
    · exact hs
    · exact retryOk_hostStop f _ _ hs
  · next c d _ =>
    split
    · exact hs
    · split
      · exact hs
      · exact (sameRetry_bindSlot _ _ _ _).retryOk
          (retryOk_redirectTold hs f c (destAfterOff_ne_retryWait d) .cancelled)

theorem retryOk_offOne (t : State × Nat) (f : Feed) (ht : retryOk t.1) : retryOk (offOne t f).1 := by
  unfold offOne
  dsimp only
  split
  · exact ht
  · exact ht
  · exact retryOk_withdrawTold ht f .cancelled
  · exact retryOk_leaveTold ht f .cancelled
  · exact retryOk_stopTold ht f .host .cancelled
  · exact retryOk_stopTold ht f .host .cancelled
  · exact retryOk_redirectTold ht f _ (by decide) .cancelled
  · exact retryOk_redirectTold ht f _ (by decide) .cancelled
  · exact ht
  · exact ht

theorem retryOk_powerOffEvery {s : State} (hs : retryOk s) : retryOk (powerOffEvery s).1 := by
  have h := s.feeds.foldlRecOn (motive := fun t : State × Nat => retryOk t.1) (b := (s, 0)) offOne hs
    fun t ht f _ => retryOk_offOne t f ht
  exact retryOk_passIf _ h

theorem retryOk_reqPowerOff (fr : Frame) {s : State} (hs : retryOk s) : retryOk (reqPowerOff fr s).1 := by
  unfold reqPowerOff
  split
  · split
    · exact retryOk_powerOffEvery hs
    · split
      · exact hs
      · exact retryOk_powerOffFeed _ _ _ hs
  · exact hs

/-- A CLEAR_FAULT leaves a feed that waits to retry the count 1, which is below a threshold that a count of at least 1
was below (R116, R128). -/
theorem retryOk_clearFeed (f : Feed) {s : State} (hs : retryOk s) : retryOk (clearFeed f s) := by
  by_cases hst : s.feedState f = .latched
  · rw [clearFeed_latched hst]
    exact (sameRetry_raise _ _ _).retryOk (retryOk_enter hs (Nat.zero_le _) rfl)
  · rw [clearFeed_elsewhere hst]
    refine retryOk_updFeed hs fun hf => ?_
    obtain ⟨-, hbound, hback⟩ := hs f hf
    rw [countAfterClear_eq]
    refine ⟨?_, fun hb => ?_, hback⟩
    · dsimp only
      split <;> decide
    · obtain ⟨hmin, hlt⟩ := hbound hb
      have hb' : retryBound (s.feedState f) = true := hb
      dsimp only
      rw [if_pos hb']
      exact ⟨le_rfl, hmin.trans_lt hlt⟩

theorem retryOk_reqClearFault (fr : Frame) {s : State} (hs : retryOk s) : retryOk (reqClearFault fr s).1 := by
  unfold reqClearFault
  split
  · split
    · exact hs
    · exact retryOk_clearFeed _ hs
  · exact hs

/-! ## Profile writes (R3, R120, R155 to R157) -/

theorem SameStates.outletState {s t : State} (h : SameStates s t) (p : OutletId) :
    t.outletState p = s.outletState p := by
  simp only [State.outletState, feedOf_congr h.activeMap, h.state]

theorem sameRetry_updEntry (f : Feed) (g : Entry → Entry) (s : State) : SameRetry s (updEntry f g s) := by
  cases he : s.entryOf f with
  | none => rw [updEntry_none he]; exact SameRetry.refl s
  | some e => rw [updEntry_some he]; exact sameRetry_of_eq rfl rfl rfl

theorem sameRetry_priorityWritten (f : Feed) (v : Nat) (s : State) : SameRetry s (priorityWritten f v s).1 := by
  unfold priorityWritten
  split
  · exact sameRetry_updEntry f _ s
  · exact SameRetry.refl s

theorem sameRetry_amountWritten (f : Feed) (s : State) : SameRetry s (amountWritten f s).1 := by
  have he : SameRetry s (updEntry f (fun e =>
      { e with amount := s.requestAmount f, unfit := decide (s.budget < s.requestAmount f) }) s) :=
    sameRetry_updEntry f _ s
  unfold amountWritten
  dsimp only
  split
  · split
    · exact he.trans (sameRetry_of_eq rfl rfl rfl)
    · exact he.trans (sameRetry_of_eq rfl rfl rfl)
  · exact he

/-- What R4 lets follow the write of a field changes no feed's retries. -/
theorem writePair_sameRetry (p : OutletId) (f : ProfileField) (v : Nat) (s : State) :
    SameRetry (updOutlet p (fun o => { o with profile := writeField f v o.profile }) s) (writePair p f v s).1 := by
  unfold writePair
  dsimp only
  split
  · split
    · split
      · exact sameRetry_amountWritten _ _
      · exact SameRetry.refl _
    · exact SameRetry.refl _
  · split
    · exact sameRetry_priorityWritten _ _ _
    · exact SameRetry.refl _
  · exact sameRetry_updOutlet (h := fun o => { o with pairWindow := none }) _ rfl rfl
  · split
    · exact SameRetry.refl _
    · exact sameRetry_updOutlet (h := fun o => { o with overdrawWindow := none }) _ rfl rfl
  · exact sameRetry_updOutlet (h := fun o => { o with overdrawWindow := o.overdrawWindow.map fun _ => v }) _ rfl rfl
  · exact SameRetry.refl _

theorem writeField_threshold {f : ProfileField} (v : Nat) (r : Profile) (h : f ≠ .threshold) :
    (writeField f v r).threshold = r.threshold := by
  cases f with
  | threshold => exact absurd rfl h
  | _ => rfl

theorem retryBound_of_not_fixes {st : FeedState} (h : st.fixesThreshold = false) : retryBound st = false := by
  cases st with
  | retryWait => cases h
  | stopping c d => cases h
  | _ => rfl

/-- Latch thresholds may change where the feed neither waits to retry nor is on its way there. -/
theorem retryOk_of_rec {s t : State} (hs : retryOk s) (ha : t.activeMap = s.activeMap)
    (hr : ∀ f, t.feedRec f = s.feedRec f)
    (ht : ∀ f, isFeed s f → retryBound (s.feedState f) = true → t.thresholdOf f = s.thresholdOf f) : retryOk t := by
  rw [retryOk_iff]
  intro f hf
  have hf' := (isFeed_congr ha f).1 hf
  obtain ⟨hmax, hbound, hback⟩ := hs f hf'
  rw [hr]
  exact ⟨hmax, fun hb => by rw [ht f hf' hb]; exact hbound hb, hback⟩

/-- A latch threshold is written only where the feed neither waits to retry nor stops (R3). -/
theorem retryOk_writePair {p : OutletId} {f : ProfileField} {s : State} (hs : retryOk s)
    (ha : fieldAllowed f (s.outletState p) = true) (v : Nat) : retryOk (writePair p f v s).1 := by
  refine (writePair_sameRetry p f v s).retryOk ?_
  by_cases e : f = .threshold
  · subst e
    refine retryOk_of_rec hs rfl (feedRec_setOutlet rfl) fun g hg hb => thresholdOf_setOutlet_other _ s fun e => ?_
    subst e
    have hfix : (s.feedState (.solo p)).fixesThreshold = false := by
      simpa [outletState_of_feed (f := .solo p) hg, fieldAllowed] using ha
    exact absurd hb (Bool.eq_false_iff.1 (retryBound_of_not_fixes hfix))
  · exact (sameRetry_updOutlet s rfl (writeField_threshold v _ e)).retryOk hs

theorem retryOk_writePairs (p : OutletId) (l : List (ProfileField × Nat)) {t : State × Bool} (ht : retryOk t.1)
    (hl : ∀ x ∈ l, fieldAllowed x.1 (t.1.outletState p) = true) :
    retryOk (l.foldl (fun t x => ((writePair p x.1 x.2 t.1).1, t.2 || (writePair p x.1 x.2 t.1).2)) t).1 := by
  induction l generalizing t with
  | nil => exact ht
  | cons x l ih =>
    rw [List.foldl_cons]
    refine ih (retryOk_writePair ht (hl x (by simp)) x.2) fun y hy => ?_
    rw [(sameStates_writePair p x.1 x.2 t.1).outletState]
    exact hl y (by simp [hy])

theorem retryOk_setProfileOf (p : OutletId) (l : List (Byte × Nat)) {s : State} (hs : retryOk s) :
    retryOk (setProfileOf p l s).1 := by
  unfold setProfileOf
  split
  · exact hs
  · split
    · exact hs
    · next hno =>
      refine retryOk_passIf _ (retryOk_writePairs p _ (t := (s, false)) hs fun x hx => ?_)
      obtain ⟨y, hy, rfl⟩ := List.mem_map.1 hx
      simpa using List.find?_eq_none.1 hno y hy

theorem retryOk_reqSetProfile (fr : Frame) {s : State} (hs : retryOk s) : retryOk (reqSetProfile fr s).1 := by
  unfold reqSetProfile
  split
  · exact hs
  · split
    · exact hs
    · split
      · split
        · exact hs
        · exact retryOk_setProfileOf _ _ hs
      · exact hs

theorem SameStates.gangFieldAllowed {s t : State} (h : SameStates s t) (g : GangId) (f : GangField) :
    t.gangFieldAllowed g f = s.gangFieldAllowed g f := by
  have hst : (t.gang g).own.state = (s.gang g).own.state := h.state (.gang g)
  cases f <;> simp only [State.gangFieldAllowed, membersOf_congr h.activeMap, hst]

/-- What follows the write of a gang's field changes no feed's retries. -/
theorem writeGangPair_sameRetry (g : GangId) (f : GangField) (v : Nat) (s : State) :
    SameRetry (updGang g (fun r => { r with profile := writeGangField f v r.profile }) s)
      (writeGangPair g f v s).1 := by
  unfold writeGangPair
  dsimp only
  split
  · split
    · exact sameRetry_priorityWritten _ _ _
    · exact SameRetry.refl _
  · exact SameRetry.refl _

theorem sameStates_writeGangPair (g : GangId) (f : GangField) (v : Nat) (s : State) :
    SameStates s (writeGangPair g f v s).1 := by
  have hwrite : SameStates s (updGang g (fun r => { r with profile := writeGangField f v r.profile }) s) :=
    ⟨rfl, feedState_updGang s rfl⟩
  have hrest := writeGangPair_sameRetry g f v s
  exact hwrite.trans ⟨hrest.activeMap, hrest.state⟩

theorem writeGangField_threshold {f : GangField} (v : Nat) (r : GangProfile) (h : f ≠ .threshold) :
    (writeGangField f v r).threshold = r.threshold := by
  cases f with
  | threshold => exact absurd rfl h
  | _ => rfl

/-- A gang's latch threshold is written only where the gang neither waits to retry nor stops (R120). -/
theorem retryOk_writeGangPair {g : GangId} {f : GangField} {s : State} (hs : retryOk s)
    (ha : s.gangFieldAllowed g f = true) (v : Nat) : retryOk (writeGangPair g f v s).1 := by
  refine (writeGangPair_sameRetry g f v s).retryOk ?_
  by_cases e : f = .threshold
  · subst e
    refine retryOk_of_rec hs rfl (feedRec_setGang rfl) fun k hk hb => thresholdOf_setGang_other _ s fun e => ?_
    subst e
    have hdef : (s.membersOf g).isSome = true := hk
    have hfix : (s.gang g).own.state.fixesThreshold = false := by simpa [State.gangFieldAllowed, hdef] using ha
    exact absurd hb (Bool.eq_false_iff.1 (retryBound_of_not_fixes hfix))
  · exact (sameRetry_updGang s rfl (writeGangField_threshold v _ e)).retryOk hs

theorem retryOk_writeGangPairs (g : GangId) (l : List (GangField × Nat)) {t : State × Bool} (ht : retryOk t.1)
    (hl : ∀ x ∈ l, t.1.gangFieldAllowed g x.1 = true) :
    retryOk (l.foldl (fun t x => ((writeGangPair g x.1 x.2 t.1).1, t.2 || (writeGangPair g x.1 x.2 t.1).2)) t).1 := by
  induction l generalizing t with
  | nil => exact ht
  | cons x l ih =>
    rw [List.foldl_cons]
    refine ih (retryOk_writeGangPair ht (hl x (by simp)) x.2) fun y hy => ?_
    rw [(sameStates_writeGangPair g x.1 x.2 t.1).gangFieldAllowed]
    exact hl y (by simp [hy])

theorem retryOk_setGangProfileOf (g : GangId) (l : List (Byte × Nat)) {s : State} (hs : retryOk s) :
    retryOk (setGangProfileOf g l s).1 := by
  unfold setGangProfileOf
  split
  · exact hs
  · split
    · exact hs
    · next hno =>
      refine retryOk_passIf _ (retryOk_writeGangPairs g _ (t := (s, false)) hs fun x hx => ?_)
      obtain ⟨y, hy, rfl⟩ := List.mem_map.1 hx
      simpa using List.find?_eq_none.1 hno y hy

theorem retryOk_reqSetGangProfile (fr : Frame) {s : State} (hs : retryOk s) : retryOk (reqSetGangProfile fr s).1 := by
  unfold reqSetGangProfile
  split
  · exact hs
  · split
    · exact hs
    · split
      · split
        · exact hs
        · exact retryOk_setGangProfileOf _ _ hs
      · exact hs

end Sys2Proof.Machine
end


/-! # Retries stay below the latch threshold: the other requests, the events and every step (O60) -/

section
namespace Sys2Proof.Machine

open Sys2Proof.Safety

/-! ## Supplies, policy and aging -/

theorem sameRetry_writeCapacity (k : SupplyId) (v : Option Nat) (s : State) : SameRetry s (writeCapacity k v s) := by
  unfold writeCapacity
  split
  · exact SameRetry.refl s
  · split
    · exact SameRetry.refl s
    · exact sameRetry_of_eq rfl rfl rfl

theorem sameRetry_writeReserve (v : Option Nat) (s : State) : SameRetry s (writeReserve v s) := by
  cases v <;> exact sameRetry_of_eq rfl rfl rfl

theorem retryOk_setSupplyTo (c1 c2 r : Option Nat) {s : State} (hs : retryOk s) :
    retryOk (setSupplyTo c1 c2 r s).1 :=
  retryOk_recompute ((((sameRetry_writeCapacity 0 c1 s).trans (sameRetry_writeCapacity 1 c2 _)).trans
    (sameRetry_writeReserve r _)).retryOk hs)

theorem retryOk_reqSetSupply (fr : Frame) {s : State} (hs : retryOk s) : retryOk (reqSetSupply fr s).1 := by
  unfold reqSetSupply
  split
  · exact hs
  · split
    · dsimp only
      split
      · exact retryOk_setSupplyTo _ _ _ hs
      · exact hs
    · exact hs

theorem retryOk_writePolicy (n : Policy) {s : State} (hs : retryOk s) : retryOk (writePolicy n s) :=
  retryOk_passIf _ ((sameRetry_of_eq rfl rfl rfl).retryOk hs)

theorem retryOk_reqSetPolicy (fr : Frame) {s : State} (hs : retryOk s) : retryOk (reqSetPolicy fr s).1 := by
  unfold reqSetPolicy
  split
  · exact hs
  · split
    · dsimp only
      split
      · exact retryOk_writePolicy _ hs
      · exact hs
    · exact hs

theorem sameRetry_updSupply (k : SupplyId) (h : SupplyRec → SupplyRec) (s : State) : SameRetry s (updSupply k h s) :=
  sameRetry_of_eq rfl rfl rfl

theorem retryOk_supgoodLost (k : SupplyId) {s : State} (hs : retryOk s) : retryOk (supgoodLost k s) := by
  unfold supgoodLost
  split
  · exact retryOk_recompute (((sameRetry_updSupply _ _ _).trans (sameRetry_raise _ _ _)).retryOk hs)
  · exact (sameRetry_updSupply k _ s).retryOk hs

theorem retryOk_supplyRestored (k : SupplyId) {s : State} (hs : retryOk s) : retryOk (supplyRestored k s) := by
  unfold supplyRestored
  split
  · exact retryOk_recompute (((sameRetry_updSupply _ _ _).trans (sameRetry_raise _ _ _)).retryOk hs)
  · exact hs

theorem retryOk_ageEntry (f : Feed) {s : State} (hs : retryOk s) : retryOk (ageEntry f s) := by
  unfold ageEntry
  split
  · exact hs
  · split
    · exact retryOk_passIf _ ((sameRetry_updEntry f _ s).retryOk hs)
    · exact hs

/-! ## Lines and EOFF (R193, R195, R196) -/

theorem retryOk_emergencyFeed (f : Feed) {s : State} (hs : retryOk s) : retryOk (emergencyFeed s f) := by
  unfold emergencyFeed
  split
  · exact retryOk_stopTold hs f .emergency .emergency
  · exact retryOk_stopTold hs f .emergency .emergency
  · exact retryOk_redirectTold hs f _ (by decide) .emergency
  · exact retryOk_redirectTold hs f _ (by decide) .emergency
  · exact hs
  · exact hs
  · exact retryOk_withdrawTold hs f .emergency
  · exact retryOk_leaveTold hs f .emergency
  · exact hs
  · exact hs

theorem retryOk_assertEoff {s : State} (hs : retryOk s) : retryOk (assertEoff s) := by
  have h := s.feeds.foldlRecOn (motive := retryOk) emergencyFeed ((sameRetry_raise .part .emergency s).retryOk hs)
    fun t ht f _ => retryOk_emergencyFeed f ht
  exact retryOk_pass ((sameRetry_of_eq rfl rfl rfl).retryOk h)

theorem retryOk_releaseOutlet (p : OutletId) {s : State} (hs : retryOk s) : retryOk (releaseOutlet s p) := by
  unfold releaseOutlet
  split
  · exact (sameRetry_raise _ _ _).retryOk (retryOk_enterQueued hs _ _)
  · exact hs

theorem retryOk_releaseEoff {s : State} (hs : retryOk s) : retryOk (releaseEoff s) :=
  allOutlets.foldlRecOn (motive := retryOk) releaseOutlet ((sameRetry_raise .part .emergency s).retryOk hs)
    fun _ ht p _ => retryOk_releaseOutlet p ht

theorem retryOk_sourcesChanged (s : State) {t : State} (ht : retryOk t) : retryOk (sourcesChanged s t) := by
  unfold sourcesChanged
  split
  · exact retryOk_assertEoff ht
  · split
    · exact retryOk_pass (retryOk_releaseEoff ht)
    · exact ite_keeps (fun _ => retryOk_pass ht) ht

theorem sameRetry_setInput (l : LineId) (i : InputLine) (s : State) : SameRetry s (setInput l i s) := by
  cases l <;> exact sameRetry_of_eq rfl rfl rfl

theorem retryOk_lineQualified (l : LineId) {s : State} (hs : retryOk s) : retryOk (lineQualified l s) := by
  unfold lineQualified
  dsimp only
  split
  · exact retryOk_sourcesChanged s ((sameRetry_setInput l _ s).retryOk hs)
  · exact hs

theorem retryOk_changeLine (k : AuxId) (fn : LineFn) {s : State} (hs : retryOk s) : retryOk (changeLine k fn s) := by
  unfold changeLine
  split
  · exact hs
  · exact retryOk_sourcesChanged s ((sameRetry_of_eq rfl rfl rfl).retryOk hs)

theorem retryOk_reqSetLine (fr : Frame) {s : State} (hs : retryOk s) : retryOk (reqSetLine fr s).1 := by
  unfold reqSetLine
  split
  · split
    · exact retryOk_changeLine _ _ hs
    · exact hs
  · exact hs

/-! ## Maps, notices and meters -/

theorem sameRetry_reqStageMap (fr : Frame) (s : State) : SameRetry s (reqStageMap fr s).1 := by
  unfold reqStageMap
  repeat' split
  all_goals exact sameRetry_of_eq rfl rfl rfl

theorem sameRetry_reqStageGang (fr : Frame) (s : State) : SameRetry s (reqStageGang fr s).1 := by
  unfold reqStageGang
  repeat' split
  all_goals exact sameRetry_of_eq rfl rfl rfl

theorem sameRetry_reqDiscardMap (fr : Frame) (s : State) : SameRetry s (reqDiscardMap fr s).1 := by
  unfold reqDiscardMap
  split <;> exact sameRetry_of_eq rfl rfl rfl

/-- OFF and LATCHED are no states of a retry. -/
theorem retryBound_of_not_busy {st : FeedState} (h : st.busy = false) : retryBound st = false := by
  cases st with
  | retryWait => cases h
  | stopping c d => cases h
  | _ => rfl

theorem retryRec_rest (n : Nat) : RetryRec n FeedRec.rest := .of_unbound (Nat.zero_le _) rfl

/-- Before an apply the feed of an outlet is in OFF or LATCHED (R138). -/
theorem feed_not_busy {s : State} (hq : s.quiescent = true) {p : OutletId} {f : Feed} (hf : s.feedOf p = some f) :
    (s.feedState f).busy = false := by
  have hall := List.all_eq_true.1 (Bool.and_eq_true_iff.1 hq).1 p (mem_allOutlets p)
  simpa [outletBusy_of_feed hf] using hall

/-- The feed part an outlet has after an apply: its own or at rest, or the state of the gang it has left (R140). -/
theorem retryRec_outletAfter {s : State} (hs : retryOk s) (hq : s.quiescent = true) {p : OutletId}
    (hp : s.stagedMap.feedOf p = some (.solo p)) :
    RetryRec (s.outlet p).profile.threshold (s.outletAfter p).own := by
  unfold State.outletAfter
  dsimp only
  split
  · next hn => rw [hp] at hn; cases hn
  · next hn => rw [hp] at hn; cases hn
  · exact retryRec_rest _
  · next q _ hsolo _ =>
    have hfeed : s.feedOf p = some (.solo q) := hsolo
    obtain rfl := feedOf_solo hfeed
    exact hs (.solo q) hfeed
  · next g _ hgang _ =>
    have hfeed : s.feedOf p = some (.gang g) := hgang
    exact .of_unbound (Nat.zero_le _) (retryBound_of_not_busy (feed_not_busy hq hfeed))
  · exact retryRec_rest _

/-- The feed part a gang of the new map has: its own where its membership stands, else at rest or LATCHED (R141). -/
theorem retryRec_gangAfter {s : State} (hs : retryOk s) {g : GangId} (hg : (tget s.stagedMap.gangs g).isSome = true) :
    RetryRec (s.gang g).profile.threshold (s.gangAfter g).own := by
  unfold State.gangAfter
  dsimp only
  split
  · split
    · exact retryRec_rest _
    · split
      · exact .of_unbound (Nat.zero_le _) rfl
      · exact retryRec_rest _
  · next hsame =>
    have hsame' : tget s.stagedMap.gangs g = tget s.activeMap.gangs g := by simpa [State.membershipChanges] using hsame
    rw [hsame'] at hg
    exact hs (.gang g) hg

theorem retryOk_applyStaged {s : State} (hs : retryOk s) (hq : s.quiescent = true) : retryOk (applyStaged s) := by
  rw [retryOk_iff]
  intro f hf
  cases f with
  | solo p =>
    have h := retryRec_outletAfter hs hq (p := p) hf
    simp only [State.thresholdOf, State.feedRec, applyStaged_outlet]
    rwa [show (s.outletAfter p).profile = (s.outlet p).profile by rw [outletAfter_eq]]
  | gang g =>
    have h := retryRec_gangAfter hs (g := g) hf
    simp only [State.thresholdOf, State.feedRec, applyStaged_gang]
    rwa [gangAfter_profile]

theorem sameRetry_applyNotices (s t : State) : SameRetry t (applyNotices s t) :=
  ((sameRetry_raise _ _ t).trans (SameRetry.foldl (fun u p => sameRetry_raise (.outlet p) .state u) _ _)).trans
    (SameRetry.foldl (fun u g => sameRetry_raise (.gang g) .state u) _ _)

theorem retryOk_reqApplyMap (fr : Frame) {s : State} (hs : retryOk s) : retryOk (reqApplyMap fr s).1 := by
  unfold reqApplyMap
  split
  · split
    · next hq =>
      split
      · exact hs
      · exact (sameRetry_applyNotices s _).retryOk (retryOk_applyStaged hs hq)
    · exact hs
  · exact hs

theorem sameRetry_freeSlotOf (s : State) (n : Notice) : SameRetry s (freeSlotOf s n) := by
  unfold freeSlotOf
  split
  · exact sameRetry_setSlot _ _ s
  · exact SameRetry.refl s

theorem sameRetry_acknowledge (a : Nat) (s : State) : SameRetry s (acknowledge a s) := by
  unfold acknowledge
  split
  · exact SameRetry.trans (t := { s with notices := s.notices.filter fun n => !ackedBy s.nextNumber a n })
      (sameRetry_of_eq rfl rfl rfl) (SameRetry.foldl sameRetry_freeSlotOf _ _)
  · exact SameRetry.refl s

theorem sameRetry_reqFetchNotices (fr : Frame) (s : State) : SameRetry s (reqFetchNotices fr s).1 := by
  unfold reqFetchNotices fetch
  split
  · split
    · exact (sameRetry_acknowledge _ s).trans (sameRetry_of_eq rfl rfl rfl)
    · exact SameRetry.refl s
  · exact SameRetry.refl s

theorem sameRetry_reqReadMeter (fr : Frame) (s : State) : SameRetry s (reqReadMeter fr s).1 := by
  unfold reqReadMeter
  split
  · split
    · exact sameRetry_updOutlet (h := fun o => { o with peak := peakAfterRead o }) s rfl rfl
    · exact SameRetry.refl s
  · exact SameRetry.refl s

/-! ## Events of outlets and gangs -/

theorem retryOk_reportDown (p : OutletId) {s : State} (hs : retryOk s) : retryOk (reportDown p s) := by
  unfold reportDown
  split
  · exact hs
  · split
    · next hst => exact retryOk_soloDischarged hs hst
    · exact hs
  · split
    · exact ite_keeps (fun _ => hs) (retryOk_memberReturned _ ((sameRetry_returnAlloc p s).retryOk hs))
    · exact hs

theorem retryOk_scan (p : OutletId) (v i : Nat) {s : State} (hs : retryOk s) : retryOk (scan p v i s) := by
  have h : retryOk (updOutlet p (measured v i) s) := (sameRetry_updOutlet s rfl rfl).retryOk hs
  unfold scan
  dsimp only
  split
  · refine (sameRetry_updOutlet _ ?_ ?_).retryOk h <;> rw [compareDraw_meter]
  · exact ite_keeps (fun _ => retryOk_reportDown p h) h

theorem retryOk_dischargeExpired (p : OutletId) {s : State} (hs : retryOk s) : retryOk (dischargeExpired p s) := by
  unfold dischargeExpired
  split
  · split
    · exact retryOk_soloTimeout p hs
    · exact hs
  · exact hs

theorem retryOk_memberDischargeExpired (p : OutletId) {s : State} (hs : retryOk s) :
    retryOk (memberDischargeExpired p s) := by
  unfold memberDischargeExpired
  split
  · split
    · split
      · exact retryOk_memberTimeout _ _ p hs
      · exact hs
    · exact hs
  · exact hs

theorem retryOk_enterOn (f : Feed) {s : State} (hs : retryOk s) : retryOk (enterOn f s) :=
  retryOk_enter hs le_rfl rfl

theorem retryOk_rampExpired (p : OutletId) {s : State} (hs : retryOk s) : retryOk (rampExpired p s) := by
  have h : retryOk (updOutlet p (fun o => { o with ramp := none }) s) := (sameRetry_updOutlet s rfl rfl).retryOk hs
  unfold rampExpired
  split
  · dsimp only
    split
    · exact ((sameRetry_raise _ _ _).trans (sameRetry_completeOp _ _ _ _)).retryOk (retryOk_enterOn _ h)
    · exact retryOk_takeFault p _ h
  · exact hs

theorem retryOk_memberRampIn (g : GangId) (p : OutletId) {s : State} (hs : retryOk s) :
    retryOk (memberRampIn g p s) := by
  have h : retryOk (updOutlet p (fun o => { o with ramp := none }) s) := (sameRetry_updOutlet s rfl rfl).retryOk hs
  unfold memberRampIn
  dsimp only
  split
  · split
    · exact ((sameRetry_completeOp _ _ _ _).trans (sameRetry_raise _ _ _)).retryOk (retryOk_enterOn _ h)
    · exact h
  · exact retryOk_takeFault p _ h

theorem retryOk_memberRampExpired (p : OutletId) {s : State} (hs : retryOk s) : retryOk (memberRampExpired p s) := by
  unfold memberRampExpired
  split
  · exact ite_keeps (fun _ => retryOk_memberRampIn _ p hs) hs
  · exact hs

theorem retryOk_blankingExpired (p : OutletId) {s : State} (hs : retryOk s) : retryOk (blankingExpired p s) := by
  have h : retryOk (updOutlet p (fun o => { o with blanking := none }) s) := (sameRetry_updOutlet s rfl rfl).retryOk hs
  unfold blankingExpired
  split
  · exact ite_keeps (fun _ => retryOk_examine p h) h
  · exact hs

/-- The count becomes 0 in ON, where no retry is bound (R113, R123). -/
theorem retryOk_stabilityExpired (f : Feed) {s : State} (hs : retryOk s) : retryOk (stabilityExpired f s) :=
  ite_keeps (fun hc => retryOk_enter hs (Nat.zero_le _)
    (retryBound_powered (show (s.feedState f).powered = true by rw [hc.2]; rfl))) hs

theorem retryOk_backoffExpired (f : Feed) {s : State} (hs : retryOk s) : retryOk (backoffExpired f s) :=
  ite_keeps (fun _ => retryOk_enterTold hs f .retry) hs

theorem retryOk_arrived (f : Feed) {s : State} (hs : retryOk s) : retryOk (arrived f s) :=
  ite_keeps (fun _ => retryOk_enterTold hs f .presence) hs

theorem retryOk_departed (f : Feed) {s : State} (hs : retryOk s) : retryOk (departed f s) := by
  unfold departed
  split
  · exact hs
  · exact hs
  · exact retryOk_pass (retryOk_withdrawTold hs f .removed)
  · exact retryOk_stopTold hs f .removal .removed
  · exact retryOk_stopTold hs f .removal .removed
  · exact retryOk_redirectTold hs f _ (by decide) .removed
  · exact retryOk_redirectTold hs f _ (by decide) .removed
  · exact hs
  · exact hs
  · exact retryOk_leaveTold hs f .removed

theorem retryOk_presenceActs (p : OutletId) (a : Bool) {s : State} (hs : retryOk s) :
    retryOk (presenceActs p a s) := by
  unfold presenceActs
  split
  · split
    · exact retryOk_arrived _ hs
    · exact retryOk_departed _ hs
  · exact hs

theorem retryOk_debounced (p : OutletId) {s : State} (hs : retryOk s) : retryOk (debounced p s) := by
  have h := sameRetry_updOutlet (p := p) (h := fun o => { o with debounce := none }) s rfl rfl
  unfold debounced
  split
  · dsimp only
    split
    · exact h.retryOk hs
    · exact retryOk_presenceActs p _ (((h.trans (sameRetry_updOutlet (p := p)
        (h := fun o => { o with presence := o.pres }) _ rfl rfl)).trans (sameRetry_raise _ _ _)).retryOk hs)
  · exact hs

theorem retryOk_presChanged (p : OutletId) (a : Bool) {s : State} (hs : retryOk s) : retryOk (presChanged p a s) :=
  ite_keeps (fun _ => hs) ((sameRetry_updOutlet s rfl rfl).retryOk hs)

theorem retryOk_overcurrentBegins (p : OutletId) {s : State} (hs : retryOk s) : retryOk (overcurrentBegins p s) := by
  have h : retryOk (updOutlet p (fun o => { o with overcurrent := true }) s) :=
    (sameRetry_updOutlet s rfl rfl).retryOk hs
  unfold overcurrentBegins
  split
  · exact hs
  · exact ite_keeps (fun _ => retryOk_examine p h) h

theorem retryOk_shortChanged (p : OutletId) (a : Bool) {s : State} (hs : retryOk s) :
    retryOk (shortChanged p a s) := by
  have h : retryOk (updOutlet p (fun o => { o with shortN := a }) s) := (sameRetry_updOutlet s rfl rfl).retryOk hs
  unfold shortChanged
  split
  · exact hs
  · exact ite_keeps (fun _ => retryOk_takeFault p _ h) h

theorem retryOk_overdrawExpired (p : OutletId) {s : State} (hs : retryOk s) : retryOk (overdrawExpired p s) :=
  ite_keeps (fun _ => retryOk_takeFault p _ ((sameRetry_updOutlet s rfl rfl).retryOk hs)) hs

/-! ## Hard reset (R25, R131) -/

/-- After a hard reset every feed part is at rest. -/
theorem retryOk_blocksReset (s : State) : retryOk (blocksReset s) := by
  rw [retryOk_iff]
  intro f _
  cases f with
  | solo p =>
    simp only [State.feedRec, blocksReset_outlet]
    exact retryRec_rest _
  | gang g =>
    simp only [State.feedRec, blocksReset_gang]
    exact retryRec_rest _

theorem sameRetry_wakeOutlet (s : State) (p : OutletId) : SameRetry s (wakeOutlet s p) := by
  unfold wakeOutlet
  split
  · exact sameRetry_updOutlet (h := fun o => { o with debounce := some o.profile.debounce }) s rfl rfl
  · exact SameRetry.refl s

theorem sameRetry_wakeSupply (s : State) (k : SupplyId) : SameRetry s (wakeSupply s k) := by
  unfold wakeSupply
  split <;> exact sameRetry_of_eq rfl rfl rfl

theorem sameRetry_wakeEoff (s : State) : SameRetry s (wakeEoff s) := by
  unfold wakeEoff
  split <;> exact sameRetry_of_eq rfl rfl rfl

theorem sameRetry_wake (s : State) :
    SameRetry s (wakeEoff (wakeSupply (wakeSupply (allOutlets.foldl wakeOutlet s) 0) 1)) :=
  (((SameRetry.foldl sameRetry_wakeOutlet allOutlets s).trans (sameRetry_wakeSupply _ 0)).trans
    (sameRetry_wakeSupply _ 1)).trans (sameRetry_wakeEoff _)

theorem retryOk_finishReset (v : Level) (s : State) : retryOk (finishReset v s) := by
  unfold finishReset
  refine (SameRetry.trans ?_ (sameRetry_wake _)).retryOk (retryOk_blocksReset s)
  exact sameRetry_of_eq rfl rfl rfl

/-! ## Every step -/

/-- Every effect of the part keeps the retries below the latch threshold. -/
theorem effectsKeep_retryOk : EffectsKeep retryOk where
  pending _ _ h := (sameRetry_of_eq rfl rfl rfl).retryOk h
  link _ _ h := (sameRetry_of_eq rfl rfl rfl).retryOk h
  aux _ h := (sameRetry_of_eq rfl rfl rfl).retryOk h
  readMeter f s h := (sameRetry_reqReadMeter f s).retryOk h
  powerOn f _ h := retryOk_reqPowerOn f h
  powerOff f _ h := retryOk_reqPowerOff f h
  clearFault f _ h := retryOk_reqClearFault f h
  setProfile f _ h := retryOk_reqSetProfile f h
  setGangProfile f _ h := retryOk_reqSetGangProfile f h
  setSupply f _ h := retryOk_reqSetSupply f h
  setPolicy f _ h := retryOk_reqSetPolicy f h
  setLine f _ h := retryOk_reqSetLine f h
  stageMap f s h := (sameRetry_reqStageMap f s).retryOk h
  stageGang f s h := (sameRetry_reqStageGang f s).retryOk h
  applyMap f _ h := retryOk_reqApplyMap f h
  discardMap f s h := (sameRetry_reqDiscardMap f s).retryOk h
  fetchNotices f s h := (sameRetry_reqFetchNotices f s).retryOk h
  resetBy _ _ h := (sameRetry_of_eq rfl rfl rfl).retryOk h
  enterReset s _ := (sameRetry_of_eq (s := blocksReset s) rfl rfl rfl).retryOk (retryOk_blocksReset s)
  finishReset v s _ := retryOk_finishReset v s
  outletPins _ _ _ _ s h := (sameRetry_updOutlet s rfl rfl).retryOk h
  supgoodInReset k _ s h := (sameRetry_updSupply k _ s).retryOk h
  lineInput l i s h := (sameRetry_setInput l i s).retryOk h
  supgoodLost k _ h := retryOk_supgoodLost k h
  supgoodFound k s h := ite_keeps (fun _ => h) ((sameRetry_updSupply k _ s).retryOk h)
  supplyRestored k _ h := retryOk_supplyRestored k h
  ageEntry f _ h := retryOk_ageEntry f h
  scan p v i _ h := retryOk_scan p v i h
  dischargeExpired p _ h := retryOk_dischargeExpired p h
  memberDischargeExpired p _ h := retryOk_memberDischargeExpired p h
  rampExpired p _ h := retryOk_rampExpired p h
  memberRampExpired p _ h := retryOk_memberRampExpired p h
  blankingExpired p _ h := retryOk_blankingExpired p h
  stabilityExpired f _ h := retryOk_stabilityExpired f h
  backoffExpired f _ _ h := retryOk_backoffExpired f h
  presChanged p a _ h := retryOk_presChanged p a h
  debounced p _ h := retryOk_debounced p h
  overcurrentBegins p _ h := retryOk_overcurrentBegins p h
  overcurrentEnds _ s h := (sameRetry_updOutlet s rfl rfl).retryOk h
  widthReached p _ h := ite_keeps (fun _ => retryOk_qualify p h) h
  pairWindowExpired _ s h := (sameRetry_updOutlet s rfl rfl).retryOk h
  shortChanged p a _ h := retryOk_shortChanged p a h
  overdrawExpired p _ h := retryOk_overdrawExpired p h
  lineQualified l _ h := retryOk_lineQualified l h

/-- Settles O60: every effect of the part keeps the retries below the latch threshold, and so does every step. -/
theorem stepsKeepRetriesBelowTheThreshold : Obligations.StepsKeepRetriesBelowTheThreshold :=
  fun s t _ h hstep => effectsKeep_retryOk.step s t h hstep

end Sys2Proof.Machine
end


/-! # The discharges of a stopping gang's members, in the manual's words (O47) -/

section
namespace Sys2Proof.Machine

open Sys2Proof.Safety

/-! ## The last return (R125) -/

theorem Calm.allDischarged {s t : State} (h : Calm s t) (g : GangId) : t.allDischarged g = s.allDischarged g := by
  have halloc : ∀ q, (t.outlet q).alloc = (s.outlet q).alloc := fun q => (h.outlet q).alloc
  simp only [State.allDischarged, h.outletsOf, halloc]

/-- With one member's allocation returned, a gang is discharged exactly if no other member holds any (R125). -/
theorem allDischarged_returned {p : OutletId} {o : OutletRec} (ho : o.alloc = 0) (g : GangId) (s : State) :
    (s.setOutlet p o).allDischarged g = true ↔ ∀ q ∈ s.outletsOf (.gang g), q ≠ p → (s.outlet q).alloc = 0 := by
  simp only [State.allDischarged, List.all_eq_true, decide_eq_true_eq]
  refine forall₂_congr fun q _ => ?_
  rw [setOutlet_outlet]
  by_cases e : q = p
  · simp [e, ho]
  · simp [e]

theorem allDischarged_returnAlloc (p : OutletId) (g : GangId) (s : State) (o : OutletRec) :
    (returnAlloc p (s.setOutlet p o)).allDischarged g = true ↔
      ∀ q ∈ s.outletsOf (.gang g), q ≠ p → (s.outlet q).alloc = 0 := by
  rw [returnAlloc_setOutlet]
  exact allDischarged_returned (o := returned o) rfl g s

/-- A stopping gang goes to its destination, where a pending POWER_OFF completes (R125). -/
theorem gangLeaves_stopping {g : GangId} {c : StopCause} {d : Dest} {s : State}
    (h : s.feedState (.gang g) = .stopping c d) :
    gangLeaves g s = raise (.gang g) .state
      (completeOp .powerOff (if (s.gang g).timedOut = true then .dischargeFault else .stopped) (.gang g)
        (enterDest (.gang g) d s)) := by
  have h' : (s.gang g).own.state = .stopping c d := h
  rw [gangLeaves, h']

theorem memberReturned_last {g : GangId} {s : State} (h : s.allDischarged g = true) :
    memberReturned g s = pass (gangLeaves g s) := by
  rw [memberReturned, if_pos h]

theorem memberReturned_more {g : GangId} {s : State} (h : ¬ s.allDischarged g = true) :
    memberReturned g s = pass s := by
  rw [memberReturned, if_neg h]

/-! ## A scan that finds a member DOWN -/

section
variable {p : OutletId} {g : GangId} {c : StopCause} {d : Dest} {s : State}

/-- A scan that finds a stopping gang's member DOWN ends its discharge, once (R93, R125). -/
theorem scan_down_member (hf : s.feedOf p = some (.gang g)) (hst : s.feedState (.gang g) = .stopping c d) {v : Nat}
    (hv : 10 * v < 1200000) (i : Nat) :
    scan p v i s =
      if (s.outlet p).alloc = 0 then updOutlet p (measured v i) s
      else memberDischarged g p (updOutlet p (measured v i) s) := by
  have hcalm := calm_measured p v i s
  have hf' : (updOutlet p (measured v i) s).feedOf p = some (.gang g) := (hcalm.feedOf p).trans hf
  have hst' : (updOutlet p (measured v i) s).feedState (.gang g) = .stopping c d := (hcalm.state _).trans hst
  have halloc : ((updOutlet p (measured v i) s).outlet p).alloc = (s.outlet p).alloc := (hcalm.outlet p).alloc
  have hoff : ¬ (updOutlet p (measured v i) s).outletOn p = true := by
    simp [State.outletOn, outletState_of_feed hf', hst']
  unfold scan reportDown
  dsimp only
  rw [if_neg hoff, if_pos (levelOf_down hv), hf']
  dsimp only
  rw [hst', halloc]

/-! ## A member's discharge timeout -/

/-- The discharge timeout of a stopping gang's member (R125). -/
theorem memberDischargeExpired_stopping (hf : s.feedOf p = some (.gang g))
    (hst : s.feedState (.gang g) = .stopping c d) (ht : (s.outlet p).discharge.isSome = true) :
    memberDischargeExpired p s = memberTimeout g c p s := by
  rw [memberDischargeExpired, if_pos ht, hf]
  dsimp only
  rw [hst]

end

/-- The records after a member's discharge timeout: the member's allocation returned and its cause recorded, the gang
on its way to LATCHED with its last fault member (R125). -/
def memberTimedOut (g : GangId) (c : StopCause) (p : OutletId) (s : State) : State :=
  ({ s.setOutlet p { returned (s.outlet p) with lastCause := some .dischargeTimeout } with
      held := s.held - (s.outlet p).alloc }).setGang g
    { s.gang g with
      own := { (s.gang g).own with state := .stopping c .latched }, lastMember := some p, timedOut := true }

/-- What a member's discharge timeout does before the return acts on the gang: the records, the completion of a pending
POWER_ON, and FAULT on the gang and on the member (R125). -/
def memberTimeoutTold (g : GangId) (c : StopCause) (p : OutletId) (s : State) : State :=
  raise (.outlet p) .fault
    (raise (.gang g) .fault (completeOp .powerOn .faulted (.gang g) (memberTimedOut g c p s)))

section
variable (g : GangId) (c : StopCause) (p : OutletId) (s : State)

theorem memberTimedOut_eq :
    updGang g (fun r => { r with lastMember := some p, timedOut := true })
        (redirect (.gang g) c .latched
          (updOutlet p (fun o => { o with lastCause := some .dischargeTimeout }) (returnAlloc p s))) =
      memberTimedOut g c p s := by
  have hcause : updOutlet p (fun o => { o with lastCause := some .dischargeTimeout }) (returnAlloc p s) =
      { s.setOutlet p { returned (s.outlet p) with lastCause := some .dischargeTimeout } with
        held := s.held - (s.outlet p).alloc } :=
    congrArg (fun t : State => { t with held := s.held - (s.outlet p).alloc })
      (updOutlet_setOutlet p (fun o => { o with lastCause := some .dischargeTimeout }) s (returned (s.outlet p)))
  rw [hcause]
  simp only [redirect, setState, updFeed, updGang, setGang_gang_same, setGang_setGang]
  rfl

theorem memberTimeout_eq : memberTimeout g c p s = memberReturned g (memberTimeoutTold g c p s) := by
  rw [memberTimeout, memberTimedOut_eq, memberTimeoutTold]

theorem calm_memberTimeoutTold : Calm (memberTimedOut g c p s) (memberTimeoutTold g c p s) :=
  ((calm_completeOp _ _ _ _).trans (calm_raise _ _ _)).trans (calm_raise _ _ _)

theorem memberTimeoutTold_feedState : (memberTimeoutTold g c p s).feedState (.gang g) = .stopping c .latched := by
  rw [(calm_memberTimeoutTold g c p s).state]
  simp [State.feedState, State.feedRec, memberTimedOut]

theorem memberTimeoutTold_allDischarged :
    (memberTimeoutTold g c p s).allDischarged g = true ↔
      ∀ q ∈ s.outletsOf (.gang g), q ≠ p → (s.outlet q).alloc = 0 := by
  rw [(calm_memberTimeoutTold g c p s).allDischarged]
  exact allDischarged_returned (o := { returned (s.outlet p) with lastCause := some .dischargeTimeout }) rfl g s

end

/-- A completion leaves the mark of a discharge timeout as it is. -/
theorem completeOp_timedOut (k : PowerKind) (o : Completion) (f : Feed) (s : State) (g : GangId) :
    ((completeOp k o f s).gang g).timedOut = (s.gang g).timedOut := by
  have hclear (n : SlotId) (x : Slot) :
      ((updFeed f (fun r => { r with op := none }) (s.setSlot n x)).gang g).timedOut = (s.gang g).timedOut := by
    rw [updFeed_gang]
    split <;> rfl
  unfold completeOp
  split
  · rfl
  · split
    · split
      · exact hclear _ _
      · rfl
    · rfl

theorem memberTimeoutTold_timedOut (g : GangId) (c : StopCause) (p : OutletId) (s : State) :
    ((memberTimeoutTold g c p s).gang g).timedOut = true := by
  have h := completeOp_timedOut .powerOn .faulted (.gang g) (memberTimedOut g c p s) g
  rw [memberTimedOut, setGang_gang_same] at h
  exact h

/-- Settles O47: the return of one member's allocation is the gang's last exactly if no other member holds any; the four
destinations are the cases of `enterDest`. -/
theorem membersDischargeOneByOne : Obligations.MembersDischargeOneByOne := by
  intro p g c d s hlive hf hst
  refine ⟨fun v i hv => ?_, fun ht => ?_⟩
  · dsimp only
    rw [← measured_down hv i (s.outlet p)]
    have hscan : exec (.meterScan p v i) s = .next (driveAux (scan p v i s)) := next_event_live hlive _
    have hlast := allDischarged_returnAlloc p g s (measured v i (s.outlet p))
    have hst' : (returnAlloc p (s.setOutlet p (measured v i (s.outlet p)))).feedState (.gang g) = .stopping c d := hst
    rw [hscan, scan_down_member hf hst hv i, memberDischarged, updOutlet]
    refine ⟨fun h0 => by rw [if_pos h0], fun h0 hmore => ?_, fun h0 hall => ?_⟩
    · rw [if_neg h0, memberReturned_more (mt hlast.1 hmore), returnAlloc_setOutlet]
      rfl
    · rw [if_neg h0, memberReturned_last (hlast.2 hall), gangLeaves_stopping hst', returnAlloc_setOutlet]
      cases d <;> rfl
  · have hexp : exec (.memberDischargeTimeout p) s = .next (driveAux (memberTimeout g c p s)) :=
      (next_event_live hlive _).trans (by rw [memberDischargeExpired_stopping hf hst ht])
    have hlast := memberTimeoutTold_allDischarged g c p s
    rw [hexp, memberTimeout_eq]
    refine ⟨fun hmore => ?_, fun hall => ?_⟩
    · rw [memberReturned_more (mt hlast.1 hmore)]
      rfl
    · rw [memberReturned_last (hlast.2 hall), gangLeaves_stopping (memberTimeoutTold_feedState g c p s),
        if_pos (memberTimeoutTold_timedOut g c p s)]
      rfl

end Sys2Proof.Machine
end

/-! # Editing the staged map (O34) -/

section
namespace Sys2Proof.Machine

open Sys2Proof.Safety

/-! ## Numbers in bytes (R134, R135, R202) -/

/-- The byte of a physical index is read back. -/
theorem readPhysical_byte (p : OutletId) : readPhysical (byte (p.val + 1)) = some p := by
  revert p
  decide

theorem readPhysical_none {b : Byte} : readPhysical b = none ↔ ¬ (1 ≤ b.toNat ∧ b.toNat ≤ 12) := by
  rw [readPhysical, ite_eq_right_iff]
  simp

/-- The byte of a gang's number is read back. -/
theorem readGangNumber_byte (g : GangId) : readGangNumber (byte (g.val + 1)) = some g := by
  revert g
  decide

theorem readGangNumber_none {b : Byte} : readGangNumber b = none ↔ ¬ (1 ≤ b.toNat ∧ b.toNat ≤ 4) := by
  rw [readGangNumber, ite_eq_right_iff]
  simp

/-- The byte of a staged number, 0 for DISABLED, is read back. -/
theorem readNumber_byte {v : Option Nat} (h : ∀ n ∈ v, 1 ≤ n ∧ n ≤ 12) : readNumber (byte (v.getD 0)) = some v := by
  cases v with
  | none => rfl
  | some n =>
    obtain ⟨h1, h12⟩ := h n rfl
    have hn : (byte n).toNat = n := by rw [byte, BitVec.toNat_ofNat, Nat.mod_eq_of_lt (by omega)]
    rw [Option.getD_some, readNumber, hn, if_neg (by omega), if_pos h12]

theorem readNumber_none {b : Byte} (h : 12 < b.toNat) : readNumber b = none := by
  rw [readNumber, if_neg (by omega), if_neg (by omega)]

/-! ## STAGE_MAP (R134) -/

/-- The bytes of pairs are read back as the pairs. -/
theorem readTwos_flatMap (l : List (Byte × Byte)) : readTwos (l.flatMap fun x => [x.1, x.2]) = some l := by
  induction l with
  | nil => rfl
  | cons x l ih => simp [readTwos, ih]

/-- One pair out of range spoils the list. -/
theorem readMapPairs_none {l : List (Byte × Byte)}
    (h : ∃ x ∈ l, ¬ (1 ≤ x.1.toNat ∧ x.1.toNat ≤ 12) ∨ 12 < x.2.toNat) : readMapPairs l = none := by
  induction l with
  | nil => simp at h
  | cons y l ih =>
    obtain ⟨x, hx, hbad⟩ := h
    rw [readMapPairs]
    rcases List.mem_cons.1 hx with rfl | hx
    · rcases hbad with hp | hn
      · rw [readPhysical_none.2 hp]
      · rw [readNumber_none hn]
        cases readPhysical x.1 <;> rfl
    · rw [ih ⟨x, hx, hbad⟩]
      cases readPhysical y.1 <;> cases readNumber y.2 <;> rfl

/-- The two bytes of a pair of STAGE_MAP. -/
def pairBytes (x : OutletId × Option Nat) : Byte × Byte := (byte (x.1.val + 1), byte (x.2.getD 0))

/-- Pairs in range are read back from their bytes. -/
theorem readMapPairs_pairBytes {ws : List (OutletId × Option Nat)} (h : ∀ x ∈ ws, ∀ n ∈ x.2, 1 ≤ n ∧ n ≤ 12) :
    readMapPairs (ws.map pairBytes) = some ws := by
  induction ws with
  | nil => rfl
  | cons x ws ih =>
    obtain ⟨hx, hws⟩ := List.forall_mem_cons.1 h
    rw [List.map_cons, pairBytes, readMapPairs, readPhysical_byte, readNumber_byte hx, ih hws]

/-- Of the pairs that name an outlet the last one counts. -/
theorem setNumbers_numbers (ws : List (OutletId × Option Nat)) (m : MapRec) (p : OutletId) :
    tget (ws.foldl MapRec.setNumber m).numbers p =
      ((ws.reverse.find? fun x => decide (x.1 = p)).map Prod.snd).getD (tget m.numbers p) := by
  induction ws generalizing m with
  | nil => rfl
  | cons x ws ih =>
    rw [List.foldl_cons, ih, List.reverse_cons, List.find?_append]
    cases ws.reverse.find? fun x => decide (x.1 = p) with
    | some y => rfl
    | none =>
      by_cases hx : x.1 = p
      · subst hx
        simp [MapRec.setNumber]
      · simp [MapRec.setNumber, hx, tget_tset_other _ _ _ _ (Ne.symm hx)]

theorem setNumbers_gangs (ws : List (OutletId × Option Nat)) (m : MapRec) :
    (ws.foldl MapRec.setNumber m).gangs = m.gangs := by
  induction ws generalizing m with
  | nil => rfl
  | cons x ws ih => exact ih _

section
variable {fr : Frame} {l : List (Byte × Byte)} (hp : fr.payload = l.flatMap fun x => [x.1, x.2]) (h1 : 1 ≤ l.length)
  (h12 : l.length ≤ 12)
include hp h1 h12

/-- A pair out of range refuses the request as a whole (R134). -/
theorem reqStageMap_bad (hr : readMapPairs l = none) (s : State) : reqStageMap fr s = refuse s .badValue := by
  rw [reqStageMap, hp, readTwos_flatMap]
  dsimp only
  rw [if_pos ⟨h1, h12⟩, hr]

/-- Pairs in range are written in list order (R134). -/
theorem reqStageMap_good {ws : List (OutletId × Option Nat)} (hr : readMapPairs l = some ws) (s : State) :
    reqStageMap fr s =
      ({ s with stagedMap := ws.foldl MapRec.setNumber s.stagedMap },
        done [byte (ws.foldl MapRec.setNumber s.stagedMap).enabled.length]) := by
  rw [reqStageMap, hp, readTwos_flatMap]
  dsimp only
  rw [if_pos ⟨h1, h12⟩, hr]

end

/-- A STAGE_MAP command that is taken (R134, R187). -/
theorem exec_stageMap {s : State} (seq : Byte) (payload : List Byte) (h : s.takesRequests = true) :
    exec (.stageMap seq payload) s =
      .next (answered seq 0x30#8 payload (reqStageMap (mkFrame seq 0x30#8 payload) s).2
        (reqStageMap (mkFrame seq 0x30#8 payload) s).1) :=
  congrArg Host.Outcome.next (asRequest_live _ _ seq payload h)

/-! ## STAGE_GANG (R135) -/

/-- One byte that names no outlet spoils the list. -/
theorem readMembers_none {l : List Byte} (h : ∃ b ∈ l, ¬ (1 ≤ b.toNat ∧ b.toNat ≤ 12)) : readMembers l = none := by
  obtain ⟨b, hb, hbad⟩ := h
  rw [readMembers, if_neg]
  intro hall
  have hsome := List.all_eq_true.1 hall b hb
  rw [readPhysical_none.2 hbad] at hsome
  cases hsome

/-- The outlets named by their bytes are read back, each once and ascending. -/
theorem readMembers_bytes (l : List OutletId) :
    ∃ ms, readMembers (l.map fun p => byte (p.val + 1)) = some ms ∧ ms.Pairwise (· < ·) ∧ ∀ p, p ∈ ms ↔ p ∈ l := by
  have hread : readMembers (l.map fun p => byte (p.val + 1)) = some (allOutlets.filter fun p => decide (p ∈ l)) := by
    rw [readMembers, if_pos (by simp [readPhysical_byte])]
    simp [readPhysical_byte, List.any_eq]
  exact ⟨_, hread, (readMembers_sorted hread).1, fun p => by simp [mem_allOutlets]⟩

/-- A gang number or an outlet out of range refuses the request (R135). -/
theorem reqStageGang_bad {fr : Frame} {b : Byte} {l : List Byte} (hp : fr.payload = b :: l) (hl : l.length ≤ 4)
    (h : ¬ (1 ≤ b.toNat ∧ b.toNat ≤ 4) ∨ ∃ c ∈ l, ¬ (1 ≤ c.toNat ∧ c.toNat ≤ 12)) (s : State) :
    reqStageGang fr s = refuse s .badValue := by
  rw [reqStageGang, hp]
  dsimp only
  rw [if_pos hl]
  split
  · next hg hms =>
    rcases h with hb | hc
    · rw [readGangNumber_none.2 hb] at hg
      cases hg
    · rw [readMembers_none hc] at hms
      cases hms
  · rfl

/-- A STAGE_GANG in range: the list replaces the gang's, but a list of one is refused (R135). -/
theorem reqStageGang_good {fr : Frame} {b : Byte} {l : List Byte} {g : GangId} {ms : List OutletId}
    (hp : fr.payload = b :: l) (hl : l.length ≤ 4) (hg : readGangNumber b = some g) (hms : readMembers l = some ms)
    (s : State) :
    reqStageGang fr s =
      if l.length = 1 then refuse s .badValue
      else
        ({ s with stagedMap := s.stagedMap.setGangList g (if ms = [] then none else some ms) },
          done ([byte (g.val + 1), byte ms.length] ++ ms.map fun p => byte (p.val + 1))) := by
  rw [reqStageGang, hp]
  dsimp only
  rw [if_pos hl, hg, hms]

/-- A STAGE_GANG command that is taken (R135, R187). -/
theorem exec_stageGang {s : State} (seq : Byte) (payload : List Byte) (h : s.takesRequests = true) :
    exec (.stageGang seq payload) s =
      .next (answered seq 0x31#8 payload (reqStageGang (mkFrame seq 0x31#8 payload) s).2
        (reqStageGang (mkFrame seq 0x31#8 payload) s).1) :=
  congrArg Host.Outcome.next (asRequest_live _ _ seq payload h)

/-- A DISCARD_MAP command that is taken (R136, R187). -/
theorem exec_discardMap {s : State} (seq : Byte) (payload : List Byte) (h : s.takesRequests = true) :
    exec (.discardMap seq payload) s =
      .next (answered seq 0x33#8 payload (reqDiscardMap (mkFrame seq 0x33#8 payload) s).2
        (reqDiscardMap (mkFrame seq 0x33#8 payload) s).1) :=
  congrArg Host.Outcome.next (asRequest_live _ _ seq payload h)

/-- Settles O34: values in range are read back from their bytes, and one value out of range spoils the request. -/
theorem stagedMapIsEdited : Obligations.StagedMapIsEdited := by
  refine ⟨fun seq l s hs hl hbad => ?_, fun seq g l s hs hl hbad => ?_, fun seq ws s hs h1 h12 hws => ?_,
    fun seq g l s hs hl => ?_, fun seq s hs => exec_discardMap seq [] hs⟩
  · obtain ⟨x, hx, -⟩ := id hbad
    refine (exec_stageMap _ _ hs).trans ?_
    rw [reqStageMap_bad rfl (List.length_pos_of_mem hx) hl (readMapPairs_none hbad)]
    rfl
  · rw [exec_stageGang _ _ hs, reqStageGang_bad rfl hl hbad]
    rfl
  · refine ⟨ws.foldl MapRec.setNumber s.stagedMap, setNumbers_gangs ws _, setNumbers_numbers ws _,
      (exec_stageMap _ _ hs).trans ?_⟩
    have hpay : (ws.flatMap fun x => [byte (x.1.val + 1), byte (x.2.getD 0)]) =
        (ws.map pairBytes).flatMap fun x => [x.1, x.2] := by
      rw [List.flatMap_map]
      rfl
    rw [reqStageMap_good hpay (by simpa using h1) (by simpa using h12) (readMapPairs_pairBytes hws)]
    rfl
  · obtain ⟨ms, hread, hsorted, hmem⟩ := readMembers_bytes l
    have hreq := reqStageGang_good (fr := mkFrame seq 0x31#8 _) rfl (by simpa using hl) (readGangNumber_byte g) hread s
    rw [List.length_map] at hreq
    refine ⟨fun hone => ?_, fun hmore => ⟨ms, hsorted, hmem, ?_⟩⟩
    · rw [exec_stageGang _ _ hs, hreq, if_pos hone]
      rfl
    · rw [exec_stageGang _ _ hs, hreq, if_neg hmore]
      rfl

end Sys2Proof.Machine
end


/-! # The refusals of APPLY_MAP (O36) -/

section
namespace Sys2Proof.Machine

open Sys2Proof.Safety

/-! ## The quiescence test (R138) -/

theorem outletBusy_false {s : State} {p : OutletId} :
    s.outletBusy p = false ↔
      s.outletState p = .unmapped ∨ s.outletState p = .mapped .off ∨ s.outletState p = .mapped .latched := by
  unfold State.outletBusy
  cases s.outletState p with
  | unmapped => simp
  | mapped st => cases st <;> simp [FeedState.busy]

theorem isPending_false {x : Slot} : x.isPending = false ↔ ∀ op f, x ≠ .pending op f := by
  cases x <;> simp [Slot.isPending]

/-- The test passes if every mapped outlet is OFF or LATCHED and no slot is PENDING (R138). -/
theorem quiescent_iff {s : State} :
    s.quiescent = true ↔
      (∀ p, s.outletState p = .unmapped ∨ s.outletState p = .mapped .off ∨ s.outletState p = .mapped .latched) ∧
        ∀ n op f, s.slot n ≠ .pending op f := by
  simp only [State.quiescent, Bool.and_eq_true, List.all_eq_true, mem_allOutlets, mem_allSlots, forall_const,
    Bool.not_eq_true', outletBusy_false, isPending_false]

/-! ## What each check finds (R139) -/

theorem badNumber_iff {m : MapRec} {p : OutletId} :
    m.badNumber p = true ↔ ∃ n, tget m.numbers p = some n ∧
      (m.enabled.length < n ∨ ∃ q, q ≠ p ∧ tget m.numbers q = some n) := by
  unfold MapRec.badNumber
  cases tget m.numbers p <;> simp [mem_allOutlets]

/-- A list holds as many distinct outlets as there are outlets in it. -/
theorem length_filter_contains (ms : List OutletId) : (allOutlets.filter ms.contains).length = ms.dedup.length := by
  have hall : (allOutlets.filter ms.contains).Nodup := List.Nodup.filter _ (by decide : allOutlets.Nodup)
  exact ((List.perm_ext_iff_of_nodup hall ms.nodup_dedup).2 fun p => by simp [mem_allOutlets]).length_eq

theorem badSize_iff {m : MapRec} {g : GangId} :
    m.badSize g = true ↔ ∃ ms, tget m.gangs g = some ms ∧ ms.dedup.length < 2 := by
  unfold MapRec.badSize
  cases tget m.gangs g <;> simp [length_filter_contains]

theorem badMember_iff {m : MapRec} {g : GangId} {p : OutletId} :
    m.badMember g p = true ↔ m.hasMember p g = true ∧
      (tget m.numbers p = none ∨ ∃ h, h < g ∧ m.hasMember p h = true) := by
  simp [MapRec.badMember, mem_allGangs]

theorem badLatch_iff {s : State} {g : GangId} {p : OutletId} :
    s.badLatch g p = true ↔ s.stagedMap.hasMember p g = true ∧ s.outletState p = .mapped .latched ∧
      s.activeMap.hasMember p g = false := by
  simp [State.badLatch, and_assoc]

/-! ## The lowest offending item (R139) -/

theorem find_allOutlets_least {b : OutletId → Bool} {p : OutletId} (hp : b p = true) (hlow : ∀ q, q < p → b q = false) :
    allOutlets.find? b = some p :=
  find_of_least (by decide) (mem_allOutlets p) hp fun q _ => hlow q

/-- The lowest gang that gives a result gives the first. -/
theorem findSome_allGangs_least {α : Type} {f : GangId → Option α} (g : GangId) {a : α} (hg : f g = some a)
    (hlow : ∀ h, h < g → f h = none) : allGangs.findSome? f = some a := by
  obtain ⟨front, back, heq⟩ := List.append_of_mem (mem_allGangs g)
  have hsorted : allGangs.Pairwise (· < ·) := by decide
  rw [heq] at hsorted
  refine List.findSome?_eq_some_iff.2 ⟨front, g, back, heq, hg, fun h hh => hlow h ?_⟩
  exact (List.pairwise_append.1 hsorted).2.2 h hh g (by simp)

theorem find_allGangs_least {b : GangId → Bool} {g : GangId} (hg : b g = true) (hlow : ∀ h, h < g → b h = false) :
    allGangs.find? b = some g := by
  rw [List.find?_eq_findSome?_guard]
  exact findSome_allGangs_least g (by simp [hg]) fun h hh => by simp [hlow h hh]

theorem find_eq_none {α : Type} {b : α → Bool} (l : List α) (h : ∀ x, b x = false) : l.find? b = none :=
  List.find?_eq_none.2 fun x _ => Bool.eq_false_iff.1 (h x)

theorem firstBad_least {bad : GangId → OutletId → Bool} {g : GangId} {p : OutletId} (hbad : bad g p = true)
    (hout : ∀ q, q < p → bad g q = false) (hgang : ∀ h, h < g → ∀ q, bad h q = false) :
    firstBad bad = some (g, p) := by
  refine findSome_allGangs_least g ?_ fun h hh => ?_
  · rw [find_allOutlets_least hbad hout]
    rfl
  · rw [find_eq_none _ (hgang h hh)]
    rfl

theorem firstBad_eq_none {bad : GangId → OutletId → Bool} (h : ∀ g p, bad g p = false) : firstBad bad = none :=
  List.findSome?_eq_none_iff.2 fun g _ => by rw [find_eq_none _ (h g)]; rfl

/-! ## The checks in order (R139) -/

section
variable {s : State}

theorem mapProblem_number {p : OutletId} (hp : s.stagedMap.badNumber p = true)
    (hlow : ∀ q, q < p → s.stagedMap.badNumber q = false) : s.mapProblem = some (1#8, none, some p) := by
  rw [State.mapProblem, find_allOutlets_least hp hlow]

variable (h1 : ∀ p, s.stagedMap.badNumber p = false)
include h1

theorem mapProblem_size {g : GangId} (hg : s.stagedMap.badSize g = true)
    (hlow : ∀ h, h < g → s.stagedMap.badSize h = false) : s.mapProblem = some (2#8, some g, none) := by
  rw [State.mapProblem, find_eq_none _ h1, find_allGangs_least hg hlow]

variable (h2 : ∀ g, s.stagedMap.badSize g = false)
include h2

theorem mapProblem_member {g : GangId} {p : OutletId} (h : firstBad s.stagedMap.badMember = some (g, p)) :
    s.mapProblem = some (3#8, some g, some p) := by
  rw [State.mapProblem, find_eq_none _ h1, find_eq_none _ h2, h]

variable (h3 : ∀ g p, s.stagedMap.badMember g p = false)
include h3

theorem mapProblem_latch {g : GangId} {p : OutletId} (h : firstBad s.badLatch = some (g, p)) :
    s.mapProblem = some (4#8, some g, some p) := by
  rw [State.mapProblem, find_eq_none _ h1, find_eq_none _ h2, firstBad_eq_none h3, h]

theorem mapProblem_none (h4 : ∀ g p, s.badLatch g p = false) : s.mapProblem = none := by
  rw [State.mapProblem, find_eq_none _ h1, find_eq_none _ h2, firstBad_eq_none h3, firstBad_eq_none h4]

end

/-! ## APPLY_MAP (R138, R139) -/

section
variable {fr : Frame} (hp : fr.payload = []) {s : State}
include hp

theorem reqApplyMap_active (hq : s.quiescent = false) : reqApplyMap fr s = refuse s .outletsActive := by
  rw [reqApplyMap, hp]
  dsimp only
  rw [if_neg (Bool.eq_false_iff.1 hq)]

theorem reqApplyMap_problem (hq : s.quiescent = true) {c : Byte} {g : Option GangId} {p : Option OutletId}
    (hm : s.mapProblem = some (c, g, p)) :
    reqApplyMap fr s = (s, refusedWith .mapInvalid [c, codeGang g, codePhysical p]) := by
  rw [reqApplyMap, hp]
  dsimp only
  rw [if_pos hq, hm]

theorem reqApplyMap_passed (hq : s.quiescent = true) (hm : s.mapProblem = none) :
    reqApplyMap fr s = (applyNotices s (applyStaged s), done []) := by
  rw [reqApplyMap, hp]
  dsimp only
  rw [if_pos hq, hm]

end

/-- An APPLY_MAP command that is taken (R138, R187). -/
theorem exec_applyMap {s : State} (seq : Byte) (payload : List Byte) (h : s.takesRequests = true) :
    exec (.applyMap seq payload) s =
      .next (answered seq 0x32#8 payload (reqApplyMap (mkFrame seq 0x32#8 payload) s).2
        (reqApplyMap (mkFrame seq 0x32#8 payload) s).1) :=
  congrArg Host.Outcome.next (asRequest_live _ _ seq payload h)

/-- On a quiet part a failing check refuses the request and is named in the reply (R139). -/
theorem exec_applyMap_problem {s : State} (seq : Byte) (hs : s.takesRequests = true) (hq : s.quiescent = true)
    {c : Byte} {g : Option GangId} {p : Option OutletId} (hm : s.mapProblem = some (c, g, p)) :
    exec (.applyMap seq []) s =
      .next (answered seq 0x32#8 [] [0x02#8, 0x0C#8, c, codeGang g, codePhysical p] s) := by
  rw [exec_applyMap _ _ hs, reqApplyMap_problem rfl hq hm]
  rfl

/-- A test is false where the words it stands for do not hold. -/
theorem false_of_iff {b : Bool} {P : Prop} (h : b = true ↔ P) (hn : ¬ P) : b = false :=
  Bool.eq_false_iff.2 (mt h.1 hn)

/-- Settles O36: the test and the checks in the manual's words, taken in the order in which the model takes them. -/
theorem applyChecksInOrder : Obligations.ApplyChecksInOrder := by
  intro seq s hs
  refine ⟨fun hnot => ?_, fun p hq hp hlow => ?_, fun g hq h1 hg hlow => ?_, fun g p hq h1 h2 h3 => ?_,
    fun g p hq h1 h2 h3 h4 => ?_⟩
  · dsimp only
    rw [exec_applyMap _ _ hs, reqApplyMap_active rfl (false_of_iff quiescent_iff hnot)]
    rfl
  · exact exec_applyMap_problem seq hs (quiescent_iff.2 hq)
      (mapProblem_number (badNumber_iff.2 hp) fun q hlt => false_of_iff badNumber_iff (hlow q hlt))
  · exact exec_applyMap_problem seq hs (quiescent_iff.2 hq)
      (mapProblem_size (fun p => false_of_iff badNumber_iff (h1 p)) (badSize_iff.2 hg)
        fun h hlt => false_of_iff badSize_iff (hlow h hlt))
  · obtain ⟨hbad, hout, hgang⟩ := h3
    have hfirst : firstBad s.stagedMap.badMember = some (g, p) :=
      firstBad_least (badMember_iff.2 hbad) (fun q hlt => false_of_iff badMember_iff (hout q hlt))
        fun h hlt q => false_of_iff badMember_iff (hgang h hlt q)
    exact exec_applyMap_problem seq hs (quiescent_iff.2 hq)
      (mapProblem_member (fun p => false_of_iff badNumber_iff (h1 p)) (fun g => false_of_iff badSize_iff (h2 g)) hfirst)
  · obtain ⟨hbad, hout, hgang⟩ := h4
    have hfirst : firstBad s.badLatch = some (g, p) :=
      firstBad_least (badLatch_iff.2 hbad) (fun q hlt => false_of_iff badLatch_iff (hout q hlt))
        fun h hlt q => false_of_iff badLatch_iff (hgang h hlt q)
    exact exec_applyMap_problem seq hs (quiescent_iff.2 hq)
      (mapProblem_latch (fun p => false_of_iff badNumber_iff (h1 p)) (fun g => false_of_iff badSize_iff (h2 g))
        (fun g p => false_of_iff badMember_iff (h3 g p)) hfirst)

end Sys2Proof.Machine
end


/-! # The staged map made active (O35) -/

section
namespace Sys2Proof.Machine

open Sys2Proof.Safety

/-! ## A map that passes the checks (R138, R139) -/

theorem badNumber_of_numbersOk {m : MapRec} (h : numbersOk m) (p : OutletId) : m.badNumber p = false := by
  refine false_of_iff badNumber_iff ?_
  rintro ⟨n, hn, hlarge | ⟨q, hne, hq⟩⟩
  · exact absurd (h.1 p n hn).2 (Nat.not_le.2 hlarge)
  · exact hne (h.2 q p (by rw [hq]; rfl) (hq.trans hn.symm))

theorem badSize_of_gangsOk {m : MapRec} (h : gangsOk m) (g : GangId) : m.badSize g = false := by
  refine false_of_iff badSize_iff ?_
  rintro ⟨ms, hms, hfew⟩
  obtain ⟨⟨hsorted, -⟩, htwo, -⟩ := h.1 g ms hms
  rw [List.dedup_eq_self.2 (hsorted.imp ne_of_lt)] at hfew
  omega

/-- A member of a gang of a valid map is enabled (R119). -/
theorem enabled_of_member {m : MapRec} (h : gangsOk m) {p : OutletId} {g : GangId} (hp : m.hasMember p g = true) :
    (tget m.numbers p).isSome = true := by
  obtain ⟨ms, hms, hmem⟩ := (hasMember_iff m p g).1 hp
  exact (h.1 g ms hms).2.2 p hmem

theorem badMember_of_gangsOk {m : MapRec} (h : gangsOk m) (g : GangId) (p : OutletId) : m.badMember g p = false := by
  refine false_of_iff badMember_iff ?_
  rintro ⟨hp, hnone | ⟨k, hlt, hk⟩⟩
  · have hsome := enabled_of_member h hp
    rw [hnone] at hsome
    cases hsome
  · exact hlt.ne (h.2 p k g hk hp)

theorem mapProblem_eq_none {s : State} (hn : numbersOk s.stagedMap) (hg : gangsOk s.stagedMap)
    (hl : ∀ g p, s.stagedMap.hasMember p g = true → s.outletState p = .mapped .latched →
      s.activeMap.hasMember p g = true) : s.mapProblem = none := by
  refine mapProblem_none (badNumber_of_numbersOk hn) (badSize_of_gangsOk hg) (badMember_of_gangsOk hg) fun g p => ?_
  refine false_of_iff badLatch_iff ?_
  rintro ⟨hp, hlat, hout⟩
  rw [hl g p hp hlat] at hout
  cases hout

/-! ## The feed a map gives an outlet (R1, R132) -/

section
variable {m : MapRec} {p : OutletId}

theorem mapFeedOf_disabled (h : (tget m.numbers p).isSome = false) : m.feedOf p = none := by
  rw [MapRec.feedOf, Option.not_isSome_iff_eq_none.1 (Bool.eq_false_iff.1 h)]

theorem mapFeedOf_solo (h : (tget m.numbers p).isSome = true) (hg : m.gangOf p = none) :
    m.feedOf p = some (.solo p) := by
  obtain ⟨n, hn⟩ := Option.isSome_iff_exists.1 h
  rw [MapRec.feedOf, hn, hg]

theorem mapFeedOf_gang (h : (tget m.numbers p).isSome = true) {g : GangId} (hg : m.gangOf p = some g) :
    m.feedOf p = some (.gang g) := by
  obtain ⟨n, hn⟩ := Option.isSome_iff_exists.1 h
  rw [MapRec.feedOf, hn, hg]

theorem mapFeedOf_isSome : (m.feedOf p).isSome = (tget m.numbers p).isSome := by
  unfold MapRec.feedOf
  cases tget m.numbers p with
  | none => rfl
  | some n => cases m.gangOf p <;> rfl

end

/-! ## Outlets after the apply (R140) -/

section
variable {s : State} {p : OutletId}

/-- An outlet keeps its last fault cause unless it enters or leaves UNMAPPED. -/
theorem outletAfter_lastCause :
    (s.outletAfter p).lastCause =
      if (tget s.stagedMap.numbers p).isSome = (tget s.activeMap.numbers p).isSome then (s.outlet p).lastCause
      else none := by
  rw [← mapFeedOf_isSome, ← mapFeedOf_isSome]
  unfold State.outletAfter
  cases s.activeMap.feedOf p with
  | none => cases s.stagedMap.feedOf p <;> rfl
  | some f =>
    cases s.stagedMap.feedOf p with
    | none => rfl
    | some k => cases f <;> cases k <;> rfl

/-- An outlet that leaves UNMAPPED has its feed part at rest. -/
theorem outletAfter_own_new (ha : s.activeMap.feedOf p = none) (hst : s.stagedMap.feedOf p = some (.solo p)) :
    (s.outletAfter p).own = FeedRec.rest := by
  rw [State.outletAfter, ha, hst]

theorem outletAfter_solo (ha : s.activeMap.feedOf p = some (.solo p)) (hst : s.stagedMap.feedOf p = some (.solo p)) :
    s.outletAfter p = s.outlet p := by
  rw [State.outletAfter, ha, hst]

/-- A member that becomes solo takes its gang's state, with count 0. -/
theorem outletAfter_own_left {g : GangId} (ha : s.activeMap.feedOf p = some (.gang g))
    (hst : s.stagedMap.feedOf p = some (.solo p)) :
    (s.outletAfter p).own = { FeedRec.rest with state := (s.gang g).own.state } := by
  rw [State.outletAfter, ha, hst]

end

/-! ## Gangs after the apply (R141) -/

section
variable {s : State} {g : GangId}

theorem bringsLatch_iff :
    s.bringsLatch g = true ↔ ∃ p, s.stagedMap.hasMember p g = true ∧ s.outletState p = .mapped .latched := by
  simp [State.bringsLatch, mem_allOutlets]

theorem gangAfter_same (h : s.membershipChanges g = false) : s.gangAfter g = s.gang g := by
  rw [State.gangAfter, h]
  rfl

/-- A changed gang without a new member that was LATCHED is at rest. -/
theorem gangAfter_rest (h : s.membershipChanges g = true) (hb : s.bringsLatch g = false) :
    s.gangAfter g = { s.gang g with own := FeedRec.rest, lastMember := none, timedOut := false } := by
  rw [State.gangAfter, h, hb]
  dsimp only
  cases tget s.stagedMap.gangs g <;> rfl

/-- A changed gang with a new member that was LATCHED is LATCHED, and keeps a last member that it still holds. -/
theorem gangAfter_latched (h : s.membershipChanges g = true) (hb : s.bringsLatch g = true) :
    s.gangAfter g =
      { s.gang g with
        own := { FeedRec.rest with state := .latched }
        lastMember := (s.gang g).lastMember.bind fun p => if s.stagedMap.hasMember p g then some p else none
        timedOut := false } := by
  obtain ⟨p, hp, -⟩ := bringsLatch_iff.1 hb
  obtain ⟨ms, hms, -⟩ := (hasMember_iff _ _ _).1 hp
  simp only [State.gangAfter, h, hb, MapRec.hasMember, hms, if_true]

/-- An apply changes the feed part, the last member and the mark of a discharge timeout of a gang's record at most. -/
theorem gangAfter_eq (s : State) (g : GangId) :
    s.gangAfter g =
      { s.gang g with
        own := (s.gangAfter g).own, lastMember := (s.gangAfter g).lastMember, timedOut := (s.gangAfter g).timedOut } := by
  cases h : s.membershipChanges g with
  | false => rw [gangAfter_same h]
  | true =>
    cases hb : s.bringsLatch g with
    | false => rw [gangAfter_rest h hb]
    | true => rw [gangAfter_latched h hb]

end

/-! ## The notices (R142) -/

/-- Raises one after the other while ALERT_N is low: the list takes them in their order (R168, R176). -/
theorem foldl_raise {α : Type} (subj : α → Subject) (fl : NoticeFlag) (l : List α) {s : State} (h : s.alertN = .low) :
    l.foldl (fun u x => raise (subj x) fl u) s =
      { s with notices := (l.map subj).foldl (fun ns x => raiseIn x fl ns) s.notices } := by
  induction l generalizing s with
  | nil => rfl
  | cons x l ih =>
    rw [List.foldl_cons, ih rfl, raise, ← h]
    rfl

theorem applyNotices_eq (s t : State) :
    applyNotices s t = { t with
      alertN := .low
      notices := ((allGangs.filter s.membershipChanges).map Subject.gang).foldl (fun ns x => raiseIn x .state ns)
        (((allOutlets.filter s.mappingChanges).map Subject.outlet).foldl (fun ns x => raiseIn x .state ns)
          (raiseIn .part .map t.notices)) } := by
  rw [applyNotices, foldl_raise Subject.outlet .state _ rfl, foldl_raise Subject.gang .state _ rfl]
  rfl

/-! ## The state after the apply -/

/-- The part with its staged map made active and the notices of it raised (R139 to R142). -/
def applied (s : State) : State := applyNotices s (applyStaged s)

section
variable (s : State) (p : OutletId)

theorem applied_outlet : (applied s).outlet p = s.outletAfter p := by
  rw [applied, applyNotices_eq, ← applyStaged_outlet]
  rfl

theorem applied_gang (g : GangId) : (applied s).gang g = s.gangAfter g := by
  rw [applied, applyNotices_eq, ← applyStaged_gang]
  rfl

theorem applied_feedOf : (applied s).feedOf p = s.stagedMap.feedOf p := by
  rw [applied, applyNotices_eq]
  rfl

end

section
variable {s : State} {p : OutletId}

theorem applied_unmapped (h : s.stagedMap.feedOf p = none) :
    (applied s).outletState p = .unmapped ∧ (applied s).countOf p = 0 := by
  rw [← applied_feedOf] at h
  exact ⟨outletState_unmapped h, by rw [State.countOf, h]⟩

theorem applied_solo (h : s.stagedMap.feedOf p = some (.solo p)) :
    (applied s).outletState p = .mapped (s.outletAfter p).own.state ∧
      (applied s).countOf p = (s.outletAfter p).own.count := by
  rw [← applied_feedOf] at h
  rw [outletState_of_feed h, State.countOf, h, ← applied_outlet]
  exact ⟨rfl, rfl⟩

theorem applied_member {g : GangId} (h : s.stagedMap.feedOf p = some (.gang g)) :
    (applied s).outletState p = .mapped ((applied s).gang g).own.state ∧ (applied s).countOf p = 0 := by
  rw [← applied_feedOf] at h
  exact ⟨outletState_of_feed h, by rw [State.countOf, h]⟩

/-- An outlet that is mapped before and after and solo after shows the state it had; a count it had in a gang was the
gang's (R140). -/
theorem applied_staysMapped (hw : (tget s.activeMap.numbers p).isSome = true)
    (h : s.stagedMap.feedOf p = some (.solo p)) :
    (applied s).outletState p = s.outletState p ∧
      (applied s).countOf p = if s.activeMap.gangOf p = none then (s.outlet p).own.count else 0 := by
  obtain ⟨hstate, hcount⟩ := applied_solo h
  rw [hstate, hcount]
  cases hg : s.activeMap.gangOf p with
  | none =>
    have ha := mapFeedOf_solo hw hg
    rw [outletAfter_solo ha h, outletState_of_feed (f := .solo p) ha]
    exact ⟨rfl, rfl⟩
  | some g =>
    have ha := mapFeedOf_gang hw hg
    rw [outletAfter_own_left ha h, outletState_of_feed (f := .gang g) ha]
    exact ⟨rfl, rfl⟩

/-- What a changed gang holds after the apply (R141). -/
theorem applied_changedGang {g : GangId} (h : s.membershipChanges g = true) :
    ((applied s).gang g).own.count = 0 ∧ ((applied s).gang g).own.op = none ∧
      (s.bringsLatch g = false → ((applied s).gang g).own.state = .off ∧ ((applied s).gang g).lastMember = none) ∧
      (s.bringsLatch g = true → ((applied s).gang g).own.state = .latched ∧
        ((applied s).gang g).lastMember =
          (s.gang g).lastMember.bind fun p => if s.stagedMap.hasMember p g then some p else none) := by
  rw [applied_gang]
  cases hb : s.bringsLatch g with
  | false =>
    rw [gangAfter_rest h hb]
    exact ⟨rfl, rfl, fun _ => ⟨rfl, rfl⟩, nofun⟩
  | true =>
    rw [gangAfter_latched h hb]
    exact ⟨rfl, rfl, nofun, fun _ => ⟨rfl, rfl⟩⟩

/-- The fields an apply changes are those of outlets and gangs, the active map, and what the notices change. -/
theorem applied_frame (s : State) :
    applied s = { s with
      outlets := (applied s).outlets, gangs := (applied s).gangs, activeMap := s.stagedMap, alertN := .low
      notices := ((allGangs.filter s.membershipChanges).map Subject.gang).foldl (fun ns x => raiseIn x .state ns)
        (((allOutlets.filter s.mappingChanges).map Subject.outlet).foldl (fun ns x => raiseIn x .state ns)
          (raiseIn .part .map s.notices)) } := by
  rw [applied, applyNotices_eq]
  rfl

end

/-- On a quiet part an apply whose map passes the checks is accepted (R138, R139). -/
theorem exec_applyMap_applied {s : State} (seq : Byte) (hs : s.takesRequests = true) (hq : s.quiescent = true)
    (hm : s.mapProblem = none) :
    exec (.applyMap seq []) s = .next (answered seq 0x32#8 [] [0x00#8] (applied s)) := by
  rw [exec_applyMap _ _ hs, reqApplyMap_passed rfl hq hm]
  rfl

/-- Settles O35: the state after is `applied s`, whose outlets, gangs and notices the lemmas above give. -/
theorem applyActivatesTheStagedMap : Obligations.ApplyActivatesTheStagedMap := by
  intro seq s hs hmaps hquiet hslots hnum hgangs hlat on was changed latchedIn
  have hmapping : (fun p => decide (on p ≠ was p)) = s.mappingChanges :=
    funext fun p => decide_eq_decide.2 ne_comm
  have happ := exec_applyMap_applied seq hs (quiescent_iff.2 ⟨hquiet, hslots⟩) (mapProblem_eq_none hnum hgangs hlat)
  refine ⟨applied s, happ, fun p => ?_, fun p => ?_, fun p hoff => applied_unmapped (mapFeedOf_disabled hoff), fun p hon hwas hg => ?_,
    fun p hon hwas hg => applied_staysMapped hwas (mapFeedOf_solo hon hg),
    fun p g hg => applied_member (mapFeedOf_gang (enabled_of_member hgangs (gangOf_some hg)) hg), fun g => ?_,
    fun g hsame => (applied_gang s g).trans (gangAfter_same hsame), fun g hch => ?_, ?_⟩
  · rw [applied_outlet, outletAfter_eq]
  · rw [applied_outlet]
    exact outletAfter_lastCause
  · have hst := mapFeedOf_solo hon hg
    have hrest := outletAfter_own_new (mapFeedOf_disabled hwas) hst
    rw [(applied_solo hst).1, (applied_solo hst).2, hrest]
    exact ⟨rfl, rfl⟩
  · rw [applied_gang, gangAfter_eq]
  · obtain ⟨hcount, hop, hrest, hlatched⟩ := applied_changedGang hch
    exact ⟨hcount, hop, fun hn => hrest (false_of_iff bringsLatch_iff hn), fun hl => hlatched (bringsLatch_iff.2 hl)⟩
  · rw [hmapping]
    exact applied_frame s

end Sys2Proof.Machine
end


/-! # Notices counted by subject, and pending operations that fit a state (O59) -/

section
namespace Sys2Proof.Machine

open Sys2Proof.Safety

/-! ## The notices on a subject (R168, R169) -/

/-- The OPEN notices on a subject. -/
def openOn (x : Subject) (ns : List Notice) : Nat := ns.countP fun n => decide (n.subject = x) && n.isOpen

/-- The DELIVERED notices on a subject. -/
def deliveredOn (x : Subject) (ns : List Notice) : Nat := ns.countP fun n => decide (n.subject = x) && !n.isOpen

theorem noticesOn_openOn (s : State) (x : Subject) :
    ((noticesOn s x).filter Notice.isOpen).length = openOn x s.notices := by
  simp only [noticesOn, List.filter_filter, openOn, List.countP_eq_length_filter, Bool.and_comm]

theorem noticesOn_deliveredOn (s : State) (x : Subject) :
    ((noticesOn s x).filter fun n => !n.isOpen).length = deliveredOn x s.notices := by
  simp only [noticesOn, List.filter_filter, deliveredOn, List.countP_eq_length_filter, Bool.and_comm]

theorem noticesOn_length (s : State) (x : Subject) :
    (noticesOn s x).length = openOn x s.notices + deliveredOn x s.notices := by
  rw [List.length_eq_countP_add_countP Notice.isOpen, ← noticesOn_openOn, ← noticesOn_deliveredOn,
    List.countP_eq_length_filter, List.countP_eq_length_filter]
  simp

/-- `noticesOk` in the counts of OPEN and DELIVERED notices (R149, R169). -/
theorem noticesOk_iff (s : State) :
    noticesOk s ↔ (∀ x, openOn x s.notices ≤ 1 ∧ deliveredOn x s.notices ≤ 1) ∧
      ∀ n, openOn (.slot n) s.notices + deliveredOn (.slot n) s.notices =
        if (s.slot n).isComplete = true then 1 else 0 := by
  simp only [noticesOk, noticesOn_openOn, noticesOn_deliveredOn, noticesOn_length]

/-- A raise leaves its subject one OPEN notice at least, and no other subject gets one (R168). -/
theorem openOn_raiseIn (x subj : Subject) (fl : NoticeFlag) (ns : List Notice) :
    openOn x (raiseIn subj fl ns) = if x = subj then max 1 (openOn x ns) else openOn x ns := by
  induction ns with
  | nil => by_cases h : x = subj <;> simp [raiseIn, openOn, Notice.isOpen, h, eq_comm]
  | cons n ns ih =>
    unfold raiseIn
    split
    · next hn =>
      obtain ⟨hsub, hopen⟩ := hn
      by_cases h : x = subj <;> simp [openOn, List.countP_cons, Notice.isOpen, hsub, hopen, h]
    · next hn =>
      unfold openOn at ih ⊢
      rw [List.countP_cons, List.countP_cons, ih]
      split
      · next h =>
        subst h
        have : (decide (n.subject = x) && n.isOpen) = false := by
          simpa [Notice.isOpen] using hn
        simp [this]
      · rfl

theorem deliveredOn_raiseIn (x subj : Subject) (fl : NoticeFlag) (ns : List Notice) :
    deliveredOn x (raiseIn subj fl ns) = deliveredOn x ns := by
  induction ns with
  | nil => simp [raiseIn, deliveredOn, Notice.isOpen]
  | cons n ns ih =>
    unfold raiseIn
    split
    · next hn => simp [deliveredOn, Notice.isOpen, hn.2]
    · unfold deliveredOn at ih ⊢
      rw [List.countP_cons, List.countP_cons, ih]

/-! ## The most a list can hold (R169) -/

/-- The subjects of notices (R166). -/
def allSubjects : List Subject :=
  allOutlets.map .outlet ++ allGangs.map .gang ++ [.supply 0, .supply 1, .part] ++ allSlots.map .slot

theorem mem_allSubjects (x : Subject) : x ∈ allSubjects := by
  cases x with
  | outlet p => simp [allSubjects, mem_allOutlets]
  | gang g => simp [allSubjects, mem_allGangs]
  | supply k => fin_cases k <;> simp [allSubjects]
  | part => simp [allSubjects]
  | slot n => simp [allSubjects, mem_allSlots]

/-- The most notices a subject can have (R149, R169). -/
def noticeBound : Subject → Nat
  | .slot _ => 1
  | _ => 2

theorem count_subject (x : Subject) (ns : List Notice) :
    (ns.map Notice.subject).count x = openOn x ns + deliveredOn x ns := by
  induction ns with
  | nil => rfl
  | cons n ns ih =>
    simp only [openOn, deliveredOn, List.map_cons, List.count_cons, List.countP_cons, ih]
    cases n.isOpen <;> by_cases h : n.subject = x <;> simp [h] <;> omega

theorem count_subject_le {s : State} (h : noticesOk s) (x : Subject) :
    (s.notices.map Notice.subject).count x ≤ noticeBound x := by
  obtain ⟨hone, hslot⟩ := (noticesOk_iff s).1 h
  obtain ⟨hopen, hdel⟩ := hone x
  rw [count_subject]
  cases x with
  | slot n =>
    rw [hslot n]
    simp only [noticeBound]
    split <;> omega
  | _ => simp only [noticeBound]; omega

/-- Such a list holds at most 42 notices: two on each of 19 subjects and one on each slot (R169). -/
theorem notices_length_le {s : State} (h : noticesOk s) : s.notices.length ≤ 42 := by
  calc s.notices.length
      = (s.notices.map Notice.subject).length := (List.length_map _).symm
    _ = ∑ x ∈ (s.notices.map Notice.subject).toFinset, (s.notices.map Notice.subject).count x :=
        (List.sum_toFinset_count_eq_length _).symm
    _ ≤ ∑ x ∈ allSubjects.toFinset, (s.notices.map Notice.subject).count x :=
        Finset.sum_le_sum_of_subset fun x _ => List.mem_toFinset.2 (mem_allSubjects x)
    _ ≤ ∑ x ∈ allSubjects.toFinset, noticeBound x := Finset.sum_le_sum fun x _ => count_subject_le h x
    _ = 42 := by decide

/-! ## Pending operations and the states they fit (R148) -/

/-- A state fits a pending operation: `onBound` for POWER_ON, `offStopping` for POWER_OFF (R148). -/
def fitsOp : Option PowerKind → FeedState → Prop
  | none, _ => True
  | some .powerOn, st => onBound st = true
  | some .powerOff, st => offStopping st = true

/-- The pending operation that a completion of a kind leaves (R149). -/
def afterCompletion (k : PowerKind) (x : Option PowerKind) : Option PowerKind := if x = some k then none else x

/-- Outside the stops for OFF and LATCHED the completion of a POWER_ON leaves no pending operation. -/
theorem afterCompletion_powerOn {x : Option PowerKind} {st : FeedState} (h : fitsOp x st)
    (hst : offStopping st = false) : afterCompletion .powerOn x = none := by
  rcases x with _ | _ | _
  · rfl
  · rfl
  · rw [show offStopping st = true from h] at hst
    cases hst

/-- Where no POWER_ON can be pending the completion of a POWER_OFF leaves no pending operation. -/
theorem afterCompletion_powerOff {x : Option PowerKind} {st : FeedState} (h : fitsOp x st)
    (hst : onBound st = false) : afterCompletion .powerOff x = none := by
  rcases x with _ | _ | _
  · rfl
  · rw [show onBound st = true from h] at hst
    cases hst
  · rfl

/-- An operation that fits a state other than a stop for OFF or LATCHED fits every state on the way to power. -/
theorem fitsOp_onBound {x : Option PowerKind} {st st' : FeedState} (h : fitsOp x st) (hst : offStopping st = false)
    (hst' : onBound st' = true) : fitsOp x st' := by
  rcases x with _ | _ | _
  · trivial
  · exact hst'
  · rw [show offStopping st = true from h] at hst
    cases hst

/-- Nothing can be pending on a feed in OFF, LATCHED or ON. -/
theorem fitsOp_idle {x : Option PowerKind} {st : FeedState} (h : fitsOp x st) (hon : onBound st = false)
    (hoff : offStopping st = false) : x = none := by
  rcases x with _ | _ | _
  · rfl
  · rw [show onBound st = true from h] at hon
    cases hon
  · rw [show offStopping st = true from h] at hoff
    cases hoff

theorem offStopping_powered {st : FeedState} (h : st.powered = true) : offStopping st = false := by
  cases st with
  | stopping c d => cases h
  | _ => rfl

end Sys2Proof.Machine
end


/-! # Slots, pending operations and notices under the shared operations (O59) -/

section
namespace Sys2Proof.Machine

open Sys2Proof.Safety

/-! ## Changes that keep slots, pending operations and notices -/

theorem noticesOk_congr {s t : State} (hs : t.slots = s.slots) (hn : t.notices = s.notices) (h : noticesOk s) :
    noticesOk t := by
  unfold noticesOk noticesOn State.slot at *
  rw [hs, hn]
  exact h

/-- `t` has the active map, the slots and the pending operations of `s`, and its notices are as sound. -/
structure KeepsSlots (s t : State) : Prop where
  activeMap : t.activeMap = s.activeMap
  op : ∀ f, (t.feedRec f).op = (s.feedRec f).op
  slots : t.slots = s.slots
  notices : noticesOk s → noticesOk t

theorem KeepsSlots.refl (s : State) : KeepsSlots s s := ⟨rfl, fun _ => rfl, rfl, id⟩

theorem KeepsSlots.trans {s t u : State} (a : KeepsSlots s t) (b : KeepsSlots t u) : KeepsSlots s u :=
  ⟨b.activeMap.trans a.activeMap, fun f => (b.op f).trans (a.op f), b.slots.trans a.slots, b.notices ∘ a.notices⟩

theorem KeepsSlots.foldl {α : Type} {g : State → α → State} (hg : ∀ s x, KeepsSlots s (g s x)) (l : List α)
    (s : State) : KeepsSlots s (l.foldl g s) := by
  induction l generalizing s with
  | nil => exact KeepsSlots.refl s
  | cons x l ih => exact (hg s x).trans (ih (g s x))

/-- Feed parts, slots and notices that stand. -/
theorem keepsSlots_of_rec {s t : State} (ha : t.activeMap = s.activeMap) (hr : ∀ f, t.feedRec f = s.feedRec f)
    (hs : t.slots = s.slots) (hn : t.notices = s.notices) : KeepsSlots s t :=
  ⟨ha, fun f => congrArg FeedRec.op (hr f), hs, noticesOk_congr hs hn⟩

theorem keepsSlots_of_eq {s t : State} (ho : t.outlets = s.outlets) (hg : t.gangs = s.gangs)
    (ha : t.activeMap = s.activeMap) (hs : t.slots = s.slots) (hn : t.notices = s.notices) : KeepsSlots s t := by
  refine keepsSlots_of_rec ha (fun f => ?_) hs hn
  cases f
  · simp only [State.feedRec, outlet_of_outlets ho]
  · simp only [State.feedRec, gang_of_gangs hg]

theorem keepsSlots_setOutlet {p : OutletId} {o : OutletRec} {s : State} (hr : o.own = (s.outlet p).own) :
    KeepsSlots s (s.setOutlet p o) := keepsSlots_of_rec rfl (feedRec_setOutlet hr) rfl rfl

theorem keepsSlots_updOutlet {p : OutletId} {h : OutletRec → OutletRec} (s : State)
    (hr : (h (s.outlet p)).own = (s.outlet p).own) : KeepsSlots s (updOutlet p h s) := keepsSlots_setOutlet hr

theorem keepsSlots_updGang {g : GangId} {h : GangRec → GangRec} (s : State)
    (hr : (h (s.gang g)).own = (s.gang g).own) : KeepsSlots s (updGang g h s) :=
  keepsSlots_of_rec rfl (feedRec_setGang hr) rfl rfl

theorem keepsSlots_updFeed (f : Feed) {h : FeedRec → FeedRec} (s : State) (hop : ∀ r, (h r).op = r.op) :
    KeepsSlots s (updFeed f h s) := by
  have hfix := fixed_updFeed f h s
  refine ⟨hfix.activeMap, fun g => ?_, by cases f <;> rfl, noticesOk_congr ?_ ?_⟩
  · by_cases e : g = f
    · subst e
      rw [updFeed_feedRec_same, hop]
    · rw [updFeed_feedRec_other _ _ _ _ e]
  · cases f <;> rfl
  · cases f <;> rfl

/-- A raise on a subject that is no slot (R168). -/
theorem keepsSlots_raise {subj : Subject} (hsub : ∀ n, subj ≠ .slot n) (fl : NoticeFlag) (s : State) :
    KeepsSlots s (raise subj fl s) := by
  refine ⟨rfl, fun f => by rw [raise_feedRec], rfl, fun h => ?_⟩
  rw [noticesOk_iff] at *
  obtain ⟨hone, hslot⟩ := h
  refine ⟨fun x => ?_, fun n => ?_⟩
  · show openOn x (raiseIn subj fl s.notices) ≤ 1 ∧ deliveredOn x (raiseIn subj fl s.notices) ≤ 1
    rw [openOn_raiseIn, deliveredOn_raiseIn]
    obtain ⟨hopen, hdel⟩ := hone x
    refine ⟨?_, hdel⟩
    split <;> omega
  · show openOn (.slot n) (raiseIn subj fl s.notices) + deliveredOn (.slot n) (raiseIn subj fl s.notices) = _
    rw [openOn_raiseIn, deliveredOn_raiseIn, if_neg fun e => hsub n e.symm, raise_slot]
    exact hslot n

theorem subjectOf_ne_slot (f : Feed) (n : SlotId) : subjectOf f ≠ .slot n := by cases f <;> nofun

theorem keepsSlots_tell (f : Feed) (fl : NoticeFlag) (s : State) : KeepsSlots s (raise (subjectOf f) fl s) :=
  keepsSlots_raise (subjectOf_ne_slot f) fl s

theorem keepsSlots_setState (f : Feed) (st : FeedState) (s : State) : KeepsSlots s (setState f st s) :=
  keepsSlots_updFeed f s fun _ => rfl

theorem keepsSlots_enterQueued (f : Feed) (o : Origin) (s : State) : KeepsSlots s (enterQueued f o s) :=
  (keepsSlots_updFeed f (h := fun r => { r with state := .queued, backoff := none }) s fun _ => rfl).trans
    (keepsSlots_of_eq rfl rfl rfl rfl rfl)

theorem keepsSlots_withdraw (f : Feed) (s : State) : KeepsSlots s (withdraw f s) :=
  KeepsSlots.trans (t := dequeued f s) (keepsSlots_of_eq rfl rfl rfl rfl rfl) (keepsSlots_setState f .off _)

theorem keepsSlots_leaveRetry (f : Feed) (s : State) : KeepsSlots s (leaveRetry f s) :=
  keepsSlots_updFeed f s fun _ => rfl

theorem keepsSlots_returnAlloc (p : OutletId) (s : State) : KeepsSlots s (returnAlloc p s) := by
  refine KeepsSlots.trans (keepsSlots_setOutlet (p := p) ?_) (keepsSlots_of_eq rfl rfl rfl rfl rfl)
  rfl

theorem keepsSlots_enterDest (f : Feed) (d : Dest) (s : State) : KeepsSlots s (enterDest f d s) := by
  cases d with
  | off => exact keepsSlots_setState f .off s
  | queued => exact keepsSlots_enterQueued f .requeue s
  | retryWait =>
    exact keepsSlots_updFeed f (h := fun r => { r with state := .retryWait, backoff := some (backoffFor r.count) }) s
      fun _ => rfl
  | latched => exact keepsSlots_setState f .latched s

theorem keepsSlots_stopFeed (f : Feed) (c : StopCause) (d : Dest) (s : State) : KeepsSlots s (stopFeed f c d s) := by
  have hout : ∀ (s : State) (p : OutletId), KeepsSlots s (stopOutlet s p) := fun s p => by
    refine KeepsSlots.trans (keepsSlots_setOutlet (p := p) ?_) (keepsSlots_of_eq rfl rfl rfl rfl rfl)
    rfl
  refine (KeepsSlots.foldl hout (s.outletsOf f) s).trans ?_
  cases f with
  | solo p =>
    exact keepsSlots_updFeed (.solo p) (h := fun r => { r with state := .stopping c d, stability := none }) _
      fun _ => rfl
  | gang g =>
    refine ⟨rfl, fun k => ?_, rfl, id⟩
    cases k with
    | solo p => rfl
    | gang k =>
      show ((updGang g _ _).gang k).own.op = _
      rw [updGang_gang]
      split
      · next e => subst e; rfl
      · rfl

theorem keepsSlots_recordFault (f : Feed) (p : OutletId) (c : FaultCause) (s : State) :
    KeepsSlots s (recordFault f p c s) := by
  have h := (keepsSlots_updFeed f (h := fun r => { r with count := countUp r.count }) s fun _ => rfl).trans
    (keepsSlots_updOutlet (p := p) (h := fun o => { o with lastCause := some c }) _ rfl)
  cases f with
  | solo q => exact h
  | gang g => exact h.trans (keepsSlots_updGang (h := fun r => { r with lastMember := some p }) _ rfl)

theorem keepsSlots_raiseFault (f : Feed) (p : OutletId) (s : State) : KeepsSlots s (raiseFault f p s) := by
  cases f with
  | solo q => exact keepsSlots_tell (.solo q) .fault s
  | gang g => exact (keepsSlots_tell (.gang g) .fault s).trans (keepsSlots_tell (.solo p) .fault _)

theorem keepsSlots_updEntry (f : Feed) (g : Entry → Entry) (s : State) : KeepsSlots s (updEntry f g s) := by
  cases he : s.entryOf f with
  | none => rw [updEntry_none he]; exact KeepsSlots.refl s
  | some e => rw [updEntry_some he]; exact keepsSlots_of_eq rfl rfl rfl rfl rfl

theorem KeepsSlots.slot {s t : State} (h : KeepsSlots s t) (n : SlotId) : t.slot n = s.slot n := by
  simp only [State.slot, h.slots]

theorem KeepsSlots.pendingKind {s t : State} (h : KeepsSlots s t) (f : Feed) :
    t.pendingKind f = s.pendingKind f := by
  unfold State.pendingKind
  rw [h.op]
  simp only [h.slot]

/-! ## Slots and pending operations, feed by feed (R147, R148) -/

/-- PENDING slots and pending operations go together, and the notices are sound: `slotsOk` and `noticesOk` but for the
states of the feeds. -/
structure Tied (s : State) : Prop where
  pending : ∀ n op f, s.slot n = .pending op f → isFeed s f ∧ (s.feedRec f).op = some n
  bound : ∀ f n, isFeed s f → (s.feedRec f).op = some n → ∃ op, s.slot n = .pending op f
  notices : noticesOk s

/-- What O59 keeps. -/
def Booked (s : State) : Prop := slotsOk s ∧ noticesOk s

/-- The state of the feed fits its pending operation. -/
def Fits (s : State) (f : Feed) : Prop := fitsOp (s.pendingKind f) (s.feedState f)

theorem pendingKind_none {s : State} {f : Feed} (h : (s.feedRec f).op = none) : s.pendingKind f = none := by
  simp [State.pendingKind, h]

theorem pendingKind_some {s : State} {f g : Feed} {n : SlotId} {op : SlotOp} (h : (s.feedRec f).op = some n)
    (hs : s.slot n = .pending op g) : s.pendingKind f = some op.kind := by
  simp [State.pendingKind, h, hs]

/-- A feed without a pending operation, or with the operation of its slot. -/
theorem Tied.op_cases {s : State} (h : Tied s) {f : Feed} (hf : isFeed s f) :
    ((s.feedRec f).op = none ∧ s.pendingKind f = none) ∨
      ∃ n op, (s.feedRec f).op = some n ∧ s.slot n = .pending op f ∧ s.pendingKind f = some op.kind := by
  cases hop : (s.feedRec f).op with
  | none => exact .inl ⟨rfl, pendingKind_none hop⟩
  | some n =>
    obtain ⟨op, hs⟩ := h.bound f n hf hop
    exact .inr ⟨n, op, rfl, hs, pendingKind_some hop hs⟩

theorem Tied.op_none {s : State} (h : Tied s) {f : Feed} (hf : isFeed s f) (hk : s.pendingKind f = none) :
    (s.feedRec f).op = none := by
  rcases h.op_cases hf with ⟨hop, -⟩ | ⟨n, op, -, -, hk'⟩
  · exact hop
  · rw [hk] at hk'
    cases hk'

theorem fitsOp_iff (op : SlotOp) (st : FeedState) :
    fitsOp (some op.kind) st ↔
      (op.kind = .powerOn → onBound st = true) ∧ (op.kind = .powerOff → offStopping st = true) := by
  cases op.kind <;> simp [fitsOp]

theorem booked_iff {s : State} : Booked s ↔ Tied s ∧ ∀ f, isFeed s f → Fits s f := by
  constructor
  · rintro ⟨⟨hpend, hbound⟩, hn⟩
    have ht : Tied s :=
      ⟨fun n op f hs => ⟨(hpend n op f hs).1, (hpend n op f hs).2.1⟩, hbound, hn⟩
    refine ⟨ht, fun f hf => ?_⟩
    rcases ht.op_cases hf with ⟨-, hk⟩ | ⟨n, op, -, hs, hk⟩
    · rw [Fits, hk]; trivial
    · rw [Fits, hk, fitsOp_iff]
      exact (hpend n op f hs).2.2
  · rintro ⟨ht, hfit⟩
    refine ⟨⟨fun n op f hs => ?_, ht.bound⟩, ht.notices⟩
    obtain ⟨hf, hop⟩ := ht.pending n op f hs
    have h := hfit f hf
    rw [Fits, pendingKind_some hop hs, fitsOp_iff] at h
    exact ⟨hf, hop, h⟩

theorem KeepsSlots.tied {s t : State} (h : KeepsSlots s t) (ht : Tied s) : Tied t where
  pending n op f hs := by
    rw [isFeed_congr h.activeMap, h.op]
    exact ht.pending n op f (h.slot n ▸ hs)
  bound f n hf hop := by
    rw [h.slot]
    exact ht.bound f n ((isFeed_congr h.activeMap f).1 hf) (h.op f ▸ hop)
  notices := h.notices ht.notices

/-- A change of no slot, no pending operation and no feed's state. -/
theorem KeepsSlots.booked {s t : State} (h : KeepsSlots s t) (hst : ∀ f, t.feedState f = s.feedState f)
    (hb : Booked s) : Booked t := by
  obtain ⟨ht, hfit⟩ := booked_iff.1 hb
  refine booked_iff.2 ⟨h.tied ht, fun f hf => ?_⟩
  rw [Fits, h.pendingKind, hst]
  exact hfit f ((isFeed_congr h.activeMap f).1 hf)

/-! ## Completions (R149) -/

/-- A completion of the kind of the pending operation, or none. -/
theorem Tied.completeOp_cases {s : State} (h : Tied s) {f : Feed} (hf : isFeed s f) (k : PowerKind) (o : Completion) :
    (completeOp k o f s = s ∧ s.pendingKind f ≠ some k) ∨
      ∃ n op, (s.feedRec f).op = some n ∧ s.slot n = .pending op f ∧ s.pendingKind f = some k ∧
        completeOp k o f s = raise (.slot n) .completion
          (updFeed f (fun r => { r with op := none }) (s.setSlot n (.complete op o))) := by
  rcases h.op_cases hf with ⟨hop, hk⟩ | ⟨n, op, hop, hs, hk⟩
  · exact .inl ⟨completeOp_idle k o hop, by simp [hk]⟩
  · by_cases hkind : op.kind = k
    · exact .inr ⟨n, op, hop, hs, by rw [hk, hkind], completeOp_done o hop hs hkind⟩
    · exact .inl ⟨completeOp_otherKind o hop hs hkind, by simpa [hk] using hkind⟩

/-- `s` after the completion of the operation of slot `n` (R149). -/
def completed (n : SlotId) (op : SlotOp) (o : Completion) (f : Feed) (s : State) : State :=
  raise (.slot n) .completion (updFeed f (fun r => { r with op := none }) (s.setSlot n (.complete op o)))

section
variable (n : SlotId) (op : SlotOp) (o : Completion) (f : Feed) (s : State)

theorem completed_activeMap : (completed n op o f s).activeMap = s.activeMap :=
  ((fixed_setSlot n _ s).trans (fixed_updFeed f _ _)).activeMap

theorem completed_op (g : Feed) : ((completed n op o f s).feedRec g).op = if g = f then none else (s.feedRec g).op := by
  rw [completed, raise_feedRec]
  split
  · next e => subst e; rw [updFeed_feedRec_same]
  · next e => rw [updFeed_feedRec_other _ _ _ _ e, setSlot_feedRec]

theorem completed_slot (m : SlotId) : (completed n op o f s).slot m = if m = n then .complete op o else s.slot m := by
  rw [completed, raise_slot, updFeed_slot]
  exact tget_tset s.slots n m _

theorem completed_notices : (completed n op o f s).notices = raiseIn (.slot n) .completion s.notices := by
  cases f <;> rfl

end

/-- The COMPLETION notice is the slot's first (R149). -/
theorem noticesOk_completed {s : State} (h : noticesOk s) {n : SlotId} {op : SlotOp} {g : Feed}
    (hs : s.slot n = .pending op g) (o : Completion) (f : Feed) : noticesOk (completed n op o f s) := by
  rw [noticesOk_iff] at *
  obtain ⟨hone, hslot⟩ := h
  have hnone : openOn (.slot n) s.notices + deliveredOn (.slot n) s.notices = 0 := by
    rw [hslot n, hs]
    rfl
  simp only [completed_notices, completed_slot, openOn_raiseIn, deliveredOn_raiseIn]
  refine ⟨fun x => ?_, fun m => ?_⟩
  · obtain ⟨hopen, hdel⟩ := hone x
    refine ⟨?_, hdel⟩
    split <;> omega
  · by_cases e : m = n
    · subst e
      simp only [if_true, Slot.isComplete]
      omega
    · have e' : ¬ Subject.slot m = Subject.slot n := fun x => e (Subject.slot.inj x)
      rw [if_neg e', if_neg e]
      exact hslot m

/-- A completion keeps slots and pending operations together. -/
theorem Tied.completed {s : State} (h : Tied s) {f : Feed} {n : SlotId} {op : SlotOp}
    (hs : s.slot n = .pending op f) (o : Completion) : Tied (completed n op o f s) where
  pending m op' g hm := by
    rw [completed_slot] at hm
    split at hm
    · cases hm
    · next hne =>
      obtain ⟨hg, hop⟩ := h.pending m op' g hm
      have hgf : g ≠ f := fun e => hne (by
        have := (h.pending n op f hs).2
        rw [e, this] at hop
        exact (Option.some.inj hop).symm)
      rw [isFeed_congr (completed_activeMap n op o f s), completed_op, if_neg hgf]
      exact ⟨hg, hop⟩
  bound g m hg hop := by
    rw [completed_op] at hop
    split at hop
    · cases hop
    · next hgf =>
      obtain ⟨op', hm⟩ := h.bound g m ((isFeed_congr (completed_activeMap n op o f s) g).1 hg) hop
      have hne : m ≠ n := fun e => hgf (by
        rw [e, hs] at hm
        cases hm
        rfl)
      rw [completed_slot, if_neg hne]
      exact ⟨op', hm⟩
  notices := noticesOk_completed h.notices hs o f

/-- The other feeds keep their pending operations. -/
theorem Tied.completed_pendingKind_other {s : State} (h : Tied s) {f g : Feed} {n : SlotId} {op : SlotOp}
    (hs : s.slot n = .pending op f) (o : Completion) (hg : isFeed s g) (hgf : g ≠ f) :
    (Machine.completed n op o f s).pendingKind g = s.pendingKind g := by
  have hop : ((Machine.completed n op o f s).feedRec g).op = (s.feedRec g).op := by rw [completed_op, if_neg hgf]
  rcases h.op_cases hg with ⟨hnone, hk⟩ | ⟨m, op', hm, hsm, hk⟩
  · rw [hk]
    exact pendingKind_none (hop.trans hnone)
  · have hne : m ≠ n := fun e => hgf (by
      rw [e, hs] at hsm
      cases hsm
      rfl)
    rw [hk]
    exact pendingKind_some (hop.trans hm) (by rw [completed_slot, if_neg hne]; exact hsm)

/-! ## Beside one feed -/

/-- Slots and notices are sound but for what `f`'s state fits. -/
structure BookedBeside (f : Feed) (s : State) : Prop where
  feed : isFeed s f
  tied : Tied s
  others : ∀ g, g ≠ f → isFeed s g → Fits s g

theorem BookedBeside.booked {f : Feed} {s : State} (h : BookedBeside f s) (hf : Fits s f) : Booked s :=
  booked_iff.2 ⟨h.tied, fun g hg => by
    by_cases e : g = f
    · exact e ▸ hf
    · exact h.others g e hg⟩

/-- A completion of `f`'s operation keeps the rest sound, and takes the operation of its kind away. -/
theorem BookedBeside.completeOp {f : Feed} {s : State} (h : BookedBeside f s) (k : PowerKind) (o : Completion) :
    BookedBeside f (completeOp k o f s) ∧
      (completeOp k o f s).pendingKind f = afterCompletion k (s.pendingKind f) := by
  have hst := (sameRetry_completeOp k o f s).state
  rcases h.tied.completeOp_cases h.feed k o with ⟨e, hk⟩ | ⟨n, op, hop, hs, hk, e⟩
  · rw [e, afterCompletion, if_neg hk]
    exact ⟨h, rfl⟩
  · have e' : Machine.completeOp k o f s = completed n op o f s := e
    rw [e'] at hst ⊢
    have hfeed := isFeed_congr (completed_activeMap n op o f s)
    refine ⟨⟨(hfeed f).2 h.feed, h.tied.completed hs o, fun g hgf hg => ?_⟩, ?_⟩
    · have hg' := (hfeed g).1 hg
      rw [Fits, h.tied.completed_pendingKind_other hs o hg' hgf, hst]
      exact h.others g hgf hg'
    · rw [pendingKind_none (by rw [completed_op, if_pos rfl]), hk, afterCompletion, if_pos rfl]

/-! ## Moves of one feed -/

/-- `t` is `s` with the feed `f` in the state `st`, as far as slots and notices are concerned. -/
structure Moves (f : Feed) (st : FeedState) (s t : State) : Prop where
  keeps : KeepsSlots s t
  here : t.feedState f = st
  others : ∀ g, g ≠ f → t.feedState g = s.feedState g

theorem Moves.then {f : Feed} {st : FeedState} {s t u : State} (m : Moves f st s t) (k : KeepsSlots t u)
    (hst : ∀ g, u.feedState g = t.feedState g) : Moves f st s u :=
  ⟨m.keeps.trans k, (hst f).trans m.here, fun g hg => (hst g).trans (m.others g hg)⟩

theorem Moves.tell {f : Feed} {st : FeedState} {s t : State} (m : Moves f st s t) (g : Feed) (fl : NoticeFlag) :
    Moves f st s (raise (subjectOf g) fl t) := m.then (keepsSlots_tell g fl t) (sameRetry_raise _ _ _).state

theorem Booked.beside {s : State} (h : Booked s) {f : Feed} (hf : isFeed s f) : BookedBeside f s :=
  ⟨hf, (booked_iff.1 h).1, fun g _ hg => (booked_iff.1 h).2 g hg⟩

theorem Booked.fits {s : State} (h : Booked s) {f : Feed} (hf : isFeed s f) :
    fitsOp (s.pendingKind f) (s.feedState f) := (booked_iff.1 h).2 f hf

section
variable {f : Feed} {st : FeedState} {s t : State} (m : Moves f st s t)
include m

theorem Moves.beside (h : BookedBeside f s) : BookedBeside f t where
  feed := (isFeed_congr m.keeps.activeMap f).2 h.feed
  tied := m.keeps.tied h.tied
  others g hgf hg := by
    rw [Fits, m.keeps.pendingKind, m.others g hgf]
    exact h.others g hgf ((isFeed_congr m.keeps.activeMap g).1 hg)

/-- The feed moves to a state that its pending operation fits. -/
theorem Moves.booked (h : BookedBeside f s) (hfit : fitsOp (s.pendingKind f) st) : Booked t :=
  (m.beside h).booked (by rw [Fits, m.keeps.pendingKind, m.here]; exact hfit)

/-- The feed moves, and its operation of a kind completes. -/
theorem Moves.booked_completeOp (h : BookedBeside f s) (k : PowerKind) (o : Completion)
    (hfit : fitsOp (afterCompletion k (s.pendingKind f)) st) : Booked (completeOp k o f t) := by
  obtain ⟨hb, hk⟩ := (m.beside h).completeOp k o
  refine hb.booked ?_
  rw [Fits, hk, (sameRetry_completeOp k o f t).state, m.keeps.pendingKind, m.here]
  exact hfit

/-- A feed that is not stopping for OFF or LATCHED moves, and its pending POWER_ON completes: nothing is pending. -/
theorem Moves.booked_ended (h : Booked s) (hf : isFeed s f) (hst : offStopping (s.feedState f) = false)
    (o : Completion) : Booked (completeOp .powerOn o f t) :=
  m.booked_completeOp (h.beside hf) .powerOn o (by
    rw [afterCompletion_powerOn (h.fits hf) hst]
    trivial)

end

/-- A completion outside the stops for OFF and LATCHED leaves the feed with nothing pending. -/
theorem Booked.ended {s : State} (h : Booked s) {f : Feed} (hf : isFeed s f)
    (hst : offStopping (s.feedState f) = false) (o : Completion) :
    BookedBeside f (completeOp .powerOn o f s) ∧ (completeOp .powerOn o f s).pendingKind f = none := by
  obtain ⟨hb, hk⟩ := (h.beside hf).completeOp .powerOn o
  exact ⟨hb, hk.trans (afterCompletion_powerOn (h.fits hf) hst)⟩

/-! ## The moves of the shared operations -/

theorem moves_updFeed (f : Feed) {h : FeedRec → FeedRec} (s : State) (hop : ∀ r, (h r).op = r.op) :
    Moves f (h (s.feedRec f)).state s (updFeed f h s) :=
  ⟨keepsSlots_updFeed f s hop, feedState_updFeed_same f h s, fun _ hg => feedState_updFeed_other h s hg⟩

theorem moves_setState (f : Feed) (st : FeedState) (s : State) : Moves f st s (setState f st s) :=
  moves_updFeed f (h := fun r => { r with state := st }) s fun _ => rfl

/-- Other changes that come first. -/
theorem Moves.after {f : Feed} {st : FeedState} {s t u : State} (k : KeepsSlots s t)
    (hst : ∀ g, t.feedState g = s.feedState g) (m : Moves f st t u) : Moves f st s u :=
  ⟨k.trans m.keeps, m.here, fun g hg => (m.others g hg).trans (hst g)⟩

theorem moves_withdraw (f : Feed) (s : State) : Moves f .off s (withdraw f s) :=
  Moves.after (t := dequeued f s) (keepsSlots_of_eq rfl rfl rfl rfl rfl)
    (sameRetry_of_eq (s := s) (t := dequeued f s) rfl rfl rfl).state (moves_setState f .off _)

theorem moves_leaveRetry (f : Feed) (s : State) : Moves f .off s (leaveRetry f s) :=
  moves_updFeed f (h := fun r => { r with state := .off, backoff := none }) s fun _ => rfl

theorem moves_enterQueued (f : Feed) (o : Origin) (s : State) : Moves f .queued s (enterQueued f o s) :=
  (moves_updFeed f (h := fun r => { r with state := .queued, backoff := none }) s fun _ => rfl).then
    (keepsSlots_of_eq rfl rfl rfl rfl rfl) fun _ => rfl

theorem moves_stopFeed {s : State} (hm : mapsOk s) (f : Feed) (c : StopCause) (d : Dest) :
    Moves f (.stopping c d) s (stopFeed f c d s) :=
  ⟨keepsSlots_stopFeed f c d s, (afterStop_feedState (stopFeed_spec f c d s (outletsOf_nodup hm f))).1,
    fun _ hg => stopFeed_feedState_other hm f c d hg⟩

/-- The state a destination stands for (R14). -/
def Dest.entered : Dest → FeedState
  | .off => .off
  | .queued => .queued
  | .retryWait => .retryWait
  | .latched => .latched

theorem moves_enterDest (f : Feed) (d : Dest) (s : State) : Moves f d.entered s (enterDest f d s) := by
  cases d with
  | off => exact moves_setState f .off s
  | queued => exact moves_enterQueued f .requeue s
  | retryWait =>
    exact moves_updFeed f (h := fun r => { r with state := .retryWait, backoff := some (backoffFor r.count) }) s
      fun _ => rfl
  | latched => exact moves_setState f .latched s

/-- At the destination a pending POWER_OFF has completed, and a pending POWER_ON is still on its way (R16, R125). -/
theorem fitsOp_entered {x : Option PowerKind} {c : StopCause} {d : Dest} (h : fitsOp x (.stopping c d)) :
    fitsOp (afterCompletion .powerOff x) d.entered := by
  rcases x with _ | _ | _
  · trivial
  · cases d with
    | off => cases h
    | latched => cases h
    | _ => rfl
  · trivial

/-! ## Stops and faults -/

section
variable {s : State} (hm : mapsOk s) (h : Booked s)
include hm h

theorem booked_stopVictim {f : Feed} (hf : isFeed s f) (hp : (s.feedState f).powered = true) (c : StopCause) :
    Booked (stopVictim c f s) := by
  have hst := offStopping_powered hp
  have m := ((moves_stopFeed hm f c (destOf (s.shedPolicyOf f))).tell f .shed).tell f .state
  unfold stopVictim
  cases hd : s.shedPolicyOf f with
  | requeue =>
    rw [hd] at m
    exact m.booked (h.beside hf) (fitsOp_onBound (h.fits hf) hst rfl)
  | drop =>
    rw [hd] at m
    exact m.booked_ended h hf hst .shed

/-- A running feed's fault keeps a pending POWER_ON on its way to RETRY_WAIT, and completes it before LATCHED (R107). -/
theorem booked_faultFeed {f : Feed} (hf : isFeed s f) (hp : (s.feedState f).powered = true) (p : OutletId)
    (c : FaultCause) : Booked (faultFeed f p c s) := by
  have hst := offStopping_powered hp
  have hfix := fixed_recordFault f p c s
  have hstates := (calm_recordFault f p c s).state
  have hrec : Booked (recordFault f p c s) := (keepsSlots_recordFault f p c s).booked hstates h
  have hf' : isFeed (recordFault f p c s) f := (isFeed_congr hfix.activeMap f).2 hf
  have htold : ∀ {st u v}, Moves f st u v → Moves f st u (raise (subjectOf f) .state (raiseFault f p v)) := fun m =>
    (m.then (keepsSlots_raiseFault f p _) (sameRetry_raiseFault f p _).state).tell f .state
  rw [← hstates f] at hst
  by_cases hlt : countUp (s.feedRec f).count < s.thresholdOf f
  · rw [faultFeed_below p c hlt]
    exact (htold (moves_stopFeed (mapsOk_fixed hfix hm) f .fault .retryWait)).booked (hrec.beside hf')
      (fitsOp_onBound (hrec.fits hf') hst rfl)
  · rw [faultFeed_atThreshold p c (Nat.not_lt.1 hlt)]
    obtain ⟨hb, hk⟩ := hrec.ended hf' hst .faulted
    refine (htold (moves_stopFeed (mapsOk_fixed (hfix.trans (fixed_completeOp _ _ _ _)) hm) f .fault .latched)).booked
      hb ?_
    rw [hk]
    trivial

theorem booked_takeFault (p : OutletId) (c : FaultCause) : Booked (takeFault p c s) := by
  unfold takeFault
  split
  · exact h
  · next f hf =>
    split
    · next hp => exact booked_faultFeed hm h (isFeed_of_feedOf hf) hp p c
    · exact h

end

/-- A change of an outlet outside its feed part. -/
theorem booked_updOutlet {p : OutletId} {g : OutletRec → OutletRec} {s : State} (h : Booked s)
    (hg : (g (s.outlet p)).own = (s.outlet p).own) : Booked (updOutlet p g s) :=
  (keepsSlots_updOutlet s hg).booked (fun f => congrArg FeedRec.state (feedRec_setOutlet hg f)) h

theorem booked_raise {subj : Subject} (hsub : ∀ n, subj ≠ .slot n) (fl : NoticeFlag) {s : State} (h : Booked s) :
    Booked (raise subj fl s) := (keepsSlots_raise hsub fl s).booked (sameRetry_raise _ _ _).state h

theorem booked_qualify {s : State} (hm : mapsOk s) (h : Booked s) (p : OutletId) : Booked (qualify p s) := by
  have hw : Booked (updOutlet p (fun o => { o with width := none }) s) := booked_updOutlet h rfl
  unfold qualify
  dsimp only
  split
  · exact booked_takeFault (s := updOutlet p (fun o => { o with width := none }) s) hm hw p _
  · split
    · exact booked_updOutlet hw rfl
    · refine booked_takeFault (s := updOutlet p (fun o => { o with pairWindow := none }) (updOutlet p _ s)) hm ?_ p _
      exact booked_updOutlet hw rfl

theorem booked_examine {s : State} (hm : mapsOk s) (h : Booked s) (p : OutletId) : Booked (examine p s) := by
  unfold examine
  split
  · exact booked_qualify hm h p
  · exact booked_updOutlet h rfl

/-! ## Grants, the pass and the budget (R11, R34, R54 to R59, R68 to R75) -/

theorem booked_afterGrant (ps : List OutletId) {s : State} (hm : mapsOk s) (h : Booked s) :
    Booked (afterGrant ps s) := by
  unfold afterGrant
  split
  · split
    · exact booked_takeFault hm h _ _
    · exact h
  · refine (ps.foldlRecOn (motive := fun t => mapsOk t ∧ Booked t) examineAtEntry ⟨hm, h⟩ fun t ht p _ => ?_).2
    unfold examineAtEntry
    split
    · exact ⟨mapsOk_fixed (fixed_examine p t) ht.1, booked_examine ht.1 ht.2 p⟩
    · exact ht

theorem moves_grant (f : Feed) (s : State) :
    Moves f .starting s (setState f .starting
      ((s.outletsOf f).foldl (grantOutlet (s.grantStamps + 1)) { s with grantStamps := s.grantStamps + 1 })) := by
  have hout : ∀ (n : Nat) (s : State) (p : OutletId), KeepsSlots s (grantOutlet n s p) := fun n s p => by
    refine KeepsSlots.trans (keepsSlots_setOutlet (p := p) ?_) (keepsSlots_of_eq rfl rfl rfl rfl rfl)
    rfl
  have hk := KeepsSlots.foldl (hout (s.grantStamps + 1)) (s.outletsOf f) { s with grantStamps := s.grantStamps + 1 }
  have hst := (SameRetry.foldl (sameRetry_grantOutlet (s.grantStamps + 1)) (s.outletsOf f)
    { s with grantStamps := s.grantStamps + 1 }).state
  exact Moves.after (KeepsSlots.trans (t := { s with grantStamps := s.grantStamps + 1 })
    (keepsSlots_of_eq rfl rfl rfl rfl rfl) hk) hst (moves_setState f .starting _)

/-- A queued feed is granted: a pending POWER_ON stays pending in STARTING. -/
theorem booked_grantEntry {s : State} (hp : powerOk s) (h : Booked s) {e : Entry} (he : e ∈ s.queue) :
    Booked (grantEntry e s) := by
  obtain ⟨hf, hst, -⟩ := hp.2.2.1.1 e he
  have hd : Booked (dequeued e.feed s) :=
    (keepsSlots_of_eq rfl rfl rfl rfl rfl).booked (sameRetry_of_eq (s := s) rfl rfl rfl).state h
  have m := (moves_grant e.feed (dequeued e.feed s)).tell e.feed .state
  refine booked_afterGrant _ (mapsOk_fixed (s := dequeued e.feed s) ?_ hp.1) (m.booked (hd.beside hf) ?_)
  · exact ((Fixed.trans (t := { dequeued e.feed s with grantStamps := s.grantStamps + 1 }) (fixed_of rfl)
      (Fixed.foldl (g := grantOutlet _) (fun s p => fixed_of rfl) _ _)).trans (fixed_setState _ _ _)).trans
      (fixed_raise _ _ _)
  · refine fitsOp_onBound (hd.fits hf) ?_ rfl
    have hst' : (dequeued e.feed s).feedState e.feed = .queued := hst
    rw [hst']
    rfl

theorem booked_claimantStage {s : State} (hp : powerOk s) (h : Booked s) : Booked (claimantStage s) := by
  unfold claimantStage
  split
  · exact h
  · split
    · exact h
    · next e he => exact ite_keeps (fun _ => booked_grantEntry hp h (entryOf_some he).1) h

theorem booked_walk (m : AdmissionMode) {es : List Entry} {b : Option Entry} {s : State} (hw : WalkReady es b s)
    (h : Booked s) : Booked (walk m es b s).1 := by
  induction es generalizing b s with
  | nil => exact h
  | cons e es ih =>
    rw [walk_cons]
    split
    · exact ih hw.tail h
    · split
      · next hfit => exact ih (hw.granted hfit) (booked_grantEntry hw.power h (hw.ahead e (by simp)))
      · cases m with
        | strict => exact h
        | fitFirst => exact ih hw.blocks h

theorem booked_stopVictims (c : StopCause) (l : List Running) {s : State} (hr : Runners l s) (hm : mapsOk s)
    (h : Booked s) : Booked (l.foldl (fun t r => stopVictim c r.feed t) s) := by
  induction l generalizing s with
  | nil => exact h
  | cons r l ih =>
    obtain ⟨hf, hp⟩ := hr.running r (by simp)
    exact ih (hr.stop hm c) (mapsOk_stopVictim hm c r.feed) (booked_stopVictim hm h hf hp c)

theorem booked_preempt (e : Entry) {s : State} (hm : mapsOk s) (h : Booked s) : Booked (preempt e s) := by
  unfold preempt
  split
  · split
    · exact h
    · next vs hvs =>
      have hr : Runners vs s := (victims_runners hm).sublist
        ((shortestRun_prefix hvs).sublist.trans List.filter_sublist)
      exact (keepsSlots_of_eq rfl rfl rfl rfl rfl).booked (fun _ => rfl) (booked_stopVictims .preempt vs hr hm h)
  · exact h

theorem booked_pass {s : State} (hp : powerOk s) (h : Booked s) : Booked (pass s) := by
  unfold pass
  split
  · exact h
  · have hp' := powerOk_claimantStage hp
    have hready : WalkReady (claimantStage s).queue none (claimantStage s) :=
      ⟨hp', fun _ he => he, hp'.2.2.1.2.1, fun _ hx => by cases hx⟩
    have hw := booked_walk (claimantStage s).policy.mode hready (booked_claimantStage hp h)
    dsimp only
    split
    · exact hw
    · exact booked_preempt _ (walk_ready _ hready).1.1 hw

theorem booked_passIf (b : Bool) {s : State} (hp : powerOk s) (h : Booked s) : Booked (passIf b s) :=
  ite_keeps (fun _ => booked_pass hp h) h

theorem booked_shed (l : List Running) {t : State × Nat} (hr : Runners l t.1) (hm : mapsOk t.1) (h : Booked t.1) :
    Booked (l.foldl shedStep t).1 := by
  induction l generalizing t with
  | nil => exact h
  | cons r l ih =>
    rw [List.foldl_cons]
    by_cases hle : t.1.active ≤ t.1.budget
    · rw [shedStep, if_pos hle]
      exact ih (hr.sublist (List.sublist_cons_self r l)) hm h
    · rw [shedStep, if_neg hle]
      obtain ⟨hf, hp⟩ := hr.running r (by simp)
      exact ih (hr.stop hm .shed) (mapsOk_stopVictim hm .shed r.feed) (booked_stopVictim hm h hf hp .shed)

end Sys2Proof.Machine
end


/-! # Slots, pending operations and notices under power requests (O59) -/

section
namespace Sys2Proof.Machine

open Sys2Proof.Safety

/-! ## The budget and its changes (R30, R38, R39) -/

theorem part_ne_slot (n : SlotId) : Subject.part ≠ .slot n := nofun

theorem booked_recompute {s : State} (hp : powerOk s) (h : Booked s) : Booked (recompute s).1 := by
  obtain ⟨hb, hle⟩ := (powerOk_iff s).1 hp
  have hfit : ∀ b c, Booked (refit { s with budget := b, claim := c }) := fun b c =>
    (keepsSlots_of_eq rfl rfl rfl rfl rfl).booked (sameRetry_of_eq (s := s) rfl rfl rfl).state h
  unfold recompute
  dsimp only
  split
  · have hb' := hb.refit (b := s.budgetNow) (c := none) (.inl rfl)
    have hshed : powerOk (shedAll (refit { s with budget := s.budgetNow, claim := none })).1 :=
      powerOk_shed _ hb' (victims_runners hb'.maps) (.inr fun f hf hrun =>
        (victims_feeds _).symm.subset (List.mem_filter.2 ⟨(mem_feeds hb'.maps).2 hf, hrun⟩))
    exact booked_passIf _ ((calm_raise _ _ _).powerOk hshed)
      (booked_raise part_ne_slot _ (booked_shed _ (victims_runners hb'.maps) hb'.maps (hfit _ _)))
  · split
    · next hlt =>
      have hp' : powerOk (refit { s with budget := s.budgetNow }) :=
        (powerOk_iff _).2 ⟨hb.refit (.inr ⟨rfl, hlt.le⟩), hle.trans hlt.le⟩
      exact booked_pass ((calm_raise _ _ _).powerOk hp') (booked_raise part_ne_slot _ (hfit s.budgetNow s.claim))
    · exact h

/-! ## A feed's change with its notice and its completion -/

section
variable {f : Feed} {s : State} (hf : isFeed s f) (h : Booked s)
include hf h

theorem booked_withdrawTold (hst : s.feedState f = .queued) (o : Completion) :
    Booked (completeOp .powerOn o f (raise (subjectOf f) .state (withdraw f s))) :=
  ((moves_withdraw f s).tell f .state).booked_ended h hf (by rw [hst]; rfl) o

theorem booked_leaveTold (hst : s.feedState f = .retryWait) (o : Completion) :
    Booked (completeOp .powerOn o f (raise (subjectOf f) .state (leaveRetry f s))) :=
  ((moves_leaveRetry f s).tell f .state).booked_ended h hf (by rw [hst]; rfl) o

theorem booked_stopTold (hm : mapsOk s) (hp : (s.feedState f).powered = true) (c : StopCause) (o : Completion) :
    Booked (completeOp .powerOn o f (raise (subjectOf f) .state (stopFeed f c .off s))) :=
  ((moves_stopFeed hm f c .off).tell f .state).booked_ended h hf (offStopping_powered hp) o

theorem booked_redirectTold {c : StopCause} {d : Dest} (hst : s.feedState f = .stopping c d)
    (hd : offStopping (.stopping c d) = false) (c' : StopCause) (d' : Dest) (o : Completion) :
    Booked (completeOp .powerOn o f (redirect f c' d' s)) :=
  (moves_setState f (.stopping c' d') s).booked_ended h hf (hst ▸ hd) o

/-- A feed in OFF or RETRY_WAIT enters QUEUED with its notice. -/
theorem booked_entered (hst : offStopping (s.feedState f) = false) (o : Origin) :
    Booked (raise (subjectOf f) .state (enterQueued f o s)) :=
  ((moves_enterQueued f o s).tell f .state).booked (h.beside hf) (fitsOp_onBound (h.fits hf) hst rfl)

/-- The same with the pass of the entry (R53). -/
theorem booked_enterTold (hp : powerOk s) (hst : (s.feedState f).holding = false) (hq : s.feedState f ≠ .queued)
    (o : Origin) : Booked (pass (raise (subjectOf f) .state (enterQueued f o s))) := by
  refine booked_pass (((lowers_enterQueued hf hst hq o).trans (calm_raise _ _ _).lowers).powerOk hp)
    (booked_entered hf h ?_ o)
  cases hs : s.feedState f with
  | stopping c d => rw [hs] at hst; cases hst
  | _ => rfl

end

/-! ## The binding of a slot (R148) -/

section
variable {f : Feed} {s : State} (h : BookedBeside f s) (hk : s.pendingKind f = none) {n : SlotId}
  (hn : s.slot n = .free) (op : SlotOp)
include h hk hn

/-- A FREE slot is bound to a feed with nothing pending. -/
theorem BookedBeside.bindSlot :
    BookedBeside f (bindSlot n op f s) ∧ (bindSlot n op f s).pendingKind f = some op.kind := by
  have hfix := fixed_bindSlot n op f s
  have hnone := h.tied.op_none h.feed hk
  have hop : ∀ g, ((Machine.bindSlot n op f s).feedRec g).op = if g = f then some n else (s.feedRec g).op := fun g => by
    unfold Machine.bindSlot
    split
    · next e => subst e; rw [updFeed_feedRec_same]
    · next e => rw [updFeed_feedRec_other _ _ _ _ e, setSlot_feedRec]
  have hslot : ∀ m, (Machine.bindSlot n op f s).slot m = if m = n then .pending op f else s.slot m := fun m => by
    unfold Machine.bindSlot
    rw [updFeed_slot]
    exact tget_tset s.slots n m _
  have hfeed := isFeed_congr hfix.activeMap
  have hkind : (Machine.bindSlot n op f s).pendingKind f = some op.kind :=
    pendingKind_some (by rw [hop, if_pos rfl]) (by rw [hslot, if_pos rfl])
  refine ⟨⟨(hfeed f).2 h.feed, ⟨fun m op' g hm => ?_, fun g m hg hgm => ?_, ?_⟩, fun g hgf hg => ?_⟩, hkind⟩
  · rw [hslot] at hm
    split at hm
    · next e =>
      cases hm
      exact ⟨(hfeed f).2 h.feed, by rw [hop, if_pos rfl, e]⟩
    · obtain ⟨hg, hgm⟩ := h.tied.pending m op' g hm
      have hgf : g ≠ f := fun e => by rw [e, hnone] at hgm; cases hgm
      exact ⟨(hfeed g).2 hg, by rw [hop, if_neg hgf]; exact hgm⟩
  · rw [hop] at hgm
    split at hgm
    · next e =>
      cases hgm
      exact ⟨op, by rw [hslot, if_pos rfl, e]⟩
    · obtain ⟨op', hm⟩ := h.tied.bound g m ((hfeed g).1 hg) hgm
      have hmn : m ≠ n := fun e => by rw [e, hn] at hm; cases hm
      exact ⟨op', by rw [hslot, if_neg hmn]; exact hm⟩
  · have hnot : (Machine.bindSlot n op f s).notices = s.notices := by cases f <;> rfl
    have hs := h.tied.notices
    rw [noticesOk_iff] at hs ⊢
    rw [hnot]
    refine ⟨hs.1, fun m => ?_⟩
    rw [hs.2 m, hslot]
    by_cases e : m = n
    · rw [if_pos e, e, hn]
      rfl
    · rw [if_neg e]
  · have hg' := (hfeed g).1 hg
    have hopg : ((Machine.bindSlot n op f s).feedRec g).op = (s.feedRec g).op := by rw [hop, if_neg hgf]
    have hkg : (Machine.bindSlot n op f s).pendingKind g = s.pendingKind g := by
      rcases h.tied.op_cases hg' with ⟨hnone', hkg⟩ | ⟨m, op', hm, hsm, hkg⟩
      · rw [hkg]
        exact pendingKind_none (hopg.trans hnone')
      · have hmn : m ≠ n := fun e => by rw [e, hn] at hsm; cases hsm
        rw [hkg]
        exact pendingKind_some (hopg.trans hm) (by rw [hslot, if_neg hmn]; exact hsm)
    rw [Fits, hkg, (sameRetry_bindSlot n op f s).state]
    exact h.others g hgf hg'

theorem BookedBeside.booked_bindSlot (hfit : fitsOp (some op.kind) (s.feedState f)) : Booked (Machine.bindSlot n op f s) := by
  obtain ⟨hb, hkind⟩ := h.bindSlot hk hn op
  exact hb.booked (by rw [Fits, hkind, (sameRetry_bindSlot n op f s).state]; exact hfit)

end

/-! ## Power requests -/

/-- The states from which an accepted POWER_ON goes on (R150, R151). -/
theorem onBound_of_accepted {st : FeedState} (h1 : st ≠ .latched) (h2 : st.endsOff = false) (h3 : st ≠ .on)
    (h4 : st ≠ .off) : onBound st = true := by
  cases st with
  | stopping c d =>
    cases d with
    | queued => rfl
    | retryWait => rfl
    | _ => cases h2
  | queued => rfl
  | starting => rfl
  | retryWait => rfl
  | _ => contradiction

theorem booked_powerOnFeed (fr : Frame) (b : Byte) {f : Feed} {s : State} (hf : isFeed s f) (hp : powerOk s)
    (h : Booked s) : Booked (powerOnFeed fr b f s).1 := by
  unfold powerOnFeed
  split
  · exact h
  split
  · exact h
  · next hlat =>
    split
    · exact h
    · next hends =>
      split
      · exact h
      · next hop =>
        split
        · exact h
        · split
          · exact h
          · next hon =>
            split
            · exact h
            · next n hn =>
              have hk : s.pendingKind f = none := pendingKind_none (by simpa using hop)
              have hfree := (freeSlot_some.1 hn).1
              have hc := calm_bindSlot n { seq := fr.seq, kind := .powerOn, target := b } f s
              obtain ⟨hb, hkind⟩ := (h.beside hf).bindSlot hk hfree { seq := fr.seq, kind := .powerOn, target := b }
              have hst := hc.state f
              dsimp only
              unfold powerOnEffect
              split
              · next hoff =>
                have hf' := (hc.isFeed f).2 hf
                refine booked_pass (((lowers_enterQueued hf' (by rw [hoff]; rfl) (by simp [hoff]) .host).trans
                  (calm_raise _ _ _).lowers).powerOk (hc.powerOk hp)) ?_
                refine ((moves_enterQueued f .host _).tell f .state).booked hb ?_
                rw [hkind]
                rfl
              · next hoff =>
                refine (h.beside hf).booked_bindSlot hk hfree _ ?_
                exact onBound_of_accepted hlat (by simpa using hends) hon fun e => hoff (hst.trans e)

theorem booked_reqPowerOn (fr : Frame) {s : State} (hp : powerOk s) (h : Booked s) : Booked (reqPowerOn fr s).1 := by
  unfold reqPowerOn
  split
  · split
    · exact h
    · next hf => exact booked_powerOnFeed _ _ (feedTarget_isFeed hf) hp h
  · exact h

theorem offStopping_destAfterOff (c : StopCause) (d : Dest) : offStopping (.stopping c (destAfterOff d)) = true := by
  cases d <;> rfl

/-- A completion frees no slot and takes none that is FREE. -/
theorem BookedBeside.free_completeOp {f : Feed} {s : State} (h : BookedBeside f s) {n : SlotId} (hn : s.slot n = .free)
    (k : PowerKind) (o : Completion) : (Machine.completeOp k o f s).slot n = .free := by
  rcases h.tied.completeOp_cases h.feed k o with ⟨e, -⟩ | ⟨m, op, -, hm, -, e⟩
  · rw [e, hn]
  · have hne : n ≠ m := fun e => by rw [← e, hn] at hm; cases hm
    rw [show Machine.completeOp k o f s = completed m op o f s from e, completed_slot, if_neg hne, hn]

/-- A running feed is turned off by the host: its POWER_ON is cancelled and the slot bound to the POWER_OFF (R152). -/
theorem booked_hostStop {f : Feed} {s : State} (hf : isFeed s f) (hm : mapsOk s) (h : Booked s)
    (hp : (s.feedState f).powered = true) {n : SlotId} (hn : s.freeSlot = some n) {op : SlotOp}
    (hop : op.kind = .powerOff) :
    Booked (bindSlot n op f (raise (subjectOf f) .state
      (stopFeed f .host .off (completeOp .powerOn .cancelled f s)))) := by
  obtain ⟨hb, hk⟩ := h.ended hf (offStopping_powered hp) .cancelled
  have m := (moves_stopFeed (mapsOk_fixed (fixed_completeOp .powerOn .cancelled f s) hm) f .host .off).tell f .state
  refine (m.beside hb).booked_bindSlot (m.keeps.pendingKind f ▸ hk) ?_ op ?_
  · rw [m.keeps.slot]
    exact (h.beside hf).free_completeOp (freeSlot_some.1 hn).1 .powerOn .cancelled
  · rw [hop, m.here]
    rfl

theorem afterCompletion_not_off {x : Option PowerKind} (h : x ≠ some .powerOff) : afterCompletion .powerOn x = none := by
  rcases x with _ | _ | _
  · rfl
  · rfl
  · exact absurd rfl h

/-- A stopping feed's destination is turned, its POWER_ON cancelled and the slot bound to the POWER_OFF (R15, R152). -/
theorem booked_hostTurn {f : Feed} {s : State} (hf : isFeed s f) (h : Booked s) (c : StopCause) (d : Dest)
    (hk : s.pendingKind f ≠ some .powerOff) {n : SlotId} (hn : s.freeSlot = some n) {op : SlotOp}
    (hop : op.kind = .powerOff) :
    Booked (bindSlot n op f (completeOp .powerOn .cancelled f (redirect f c (destAfterOff d) s))) := by
  have m : Moves f (.stopping c (destAfterOff d)) s (redirect f c (destAfterOff d) s) := moves_setState f _ s
  have hb := m.beside (h.beside hf)
  obtain ⟨hb', hk'⟩ := hb.completeOp .powerOn .cancelled
  refine hb'.booked_bindSlot (hk'.trans ?_) (hb.free_completeOp ?_ .powerOn .cancelled) op ?_
  · rw [m.keeps.pendingKind]
    exact afterCompletion_not_off hk
  · rw [m.keeps.slot]
    exact (freeSlot_some.1 hn).1
  · rw [hop, (sameRetry_completeOp .powerOn .cancelled f _).state, m.here]
    exact offStopping_destAfterOff c d

theorem booked_powerOffFeed (fr : Frame) (b : Byte) {f : Feed} {s : State} (hf : isFeed s f) (hp : powerOk s)
    (h : Booked s) : Booked (powerOffFeed fr b f s).1 := by
  unfold powerOffFeed
  dsimp only
  split
  · exact h
  · exact h
  · next hst =>
    exact booked_pass ((lowers_withdrawTold hf hst .cancelled).powerOk hp) (booked_withdrawTold hf h hst .cancelled)
  · next hst => exact booked_leaveTold hf h hst .cancelled
  · next hst =>
    split
    · exact h
    · next hn => exact booked_hostStop hf hp.1 h (by rw [hst]; rfl) hn rfl
  · next hst =>
    split
    · exact h
    · next hn => exact booked_hostStop hf hp.1 h (by rw [hst]; rfl) hn rfl
  · next c d _ =>
    split
    · exact h
    · next hk =>
      split
      · exact h
      · next hn => exact booked_hostTurn hf h c d hk hn rfl

theorem booked_offOne {t : State × Nat} {f : Feed} (hf : isFeed t.1 f) (hm : mapsOk t.1) (h : Booked t.1) :
    Booked (offOne t f).1 := by
  unfold offOne
  dsimp only
  split
  · exact h
  · exact h
  · next hst => exact booked_withdrawTold hf h hst .cancelled
  · next hst => exact booked_leaveTold hf h hst .cancelled
  · next hst => exact booked_stopTold hf h hm (by rw [hst]; rfl) .host .cancelled
  · next hst => exact booked_stopTold hf h hm (by rw [hst]; rfl) .host .cancelled
  · next hst => exact booked_redirectTold hf h hst rfl _ _ .cancelled
  · next hst => exact booked_redirectTold hf h hst rfl _ _ .cancelled
  · exact h
  · exact h

theorem booked_offAll (l : List Feed) {t : State × Nat} (hl : ∀ f ∈ l, isFeed t.1 f) (hm : mapsOk t.1)
    (h : Booked t.1) : Booked (l.foldl offOne t).1 := by
  induction l generalizing t with
  | nil => exact h
  | cons f l ih =>
    have hfix := fixed_offOne t f
    exact ih (fun x hx => (isFeed_congr hfix.activeMap x).2 (hl x (by simp [hx]))) (mapsOk_fixed hfix hm)
      (booked_offOne (hl f (by simp)) hm h)

theorem booked_powerOffEvery {s : State} (hp : powerOk s) (h : Booked s) : Booked (powerOffEvery s).1 := by
  have hfeeds : ∀ f ∈ s.feeds, isFeed s f := fun _ hf => (mem_feeds hp.1).1 hf
  exact booked_passIf _ ((lowers_offAll s.feeds (s, 0) hfeeds).powerOk hp)
    (booked_offAll s.feeds (t := (s, 0)) hfeeds hp.1 h)

theorem booked_reqPowerOff (fr : Frame) {s : State} (hp : powerOk s) (h : Booked s) :
    Booked (reqPowerOff fr s).1 := by
  unfold reqPowerOff
  split
  · split
    · exact booked_powerOffEvery hp h
    · split
      · exact h
      · next hf => exact booked_powerOffFeed _ _ (feedTarget_isFeed hf) hp h
  · exact h

/-- CLEAR_FAULT frees a LATCHED feed, on which nothing is pending, and sets a count elsewhere (R158). -/
theorem booked_clearFeed {f : Feed} {s : State} (hf : isFeed s f) (h : Booked s) : Booked (clearFeed f s) := by
  by_cases hst : s.feedState f = .latched
  · rw [clearFeed_latched hst]
    refine ((moves_updFeed f (h := fun r => { r with state := .off, count := 0 }) s fun _ => rfl).tell f .state).booked
      (h.beside hf) ?_
    rw [fitsOp_idle (h.fits hf) (by rw [hst]; rfl) (by rw [hst]; rfl)]
    trivial
  · rw [clearFeed_elsewhere hst]
    have hc := calm_updFeed f s (h := fun r => { r with count := countAfterClear (s.feedState f) }) fun _ => rfl
    exact KeepsSlots.booked (keepsSlots_updFeed f s fun _ => rfl) hc.state h

theorem booked_reqClearFault (fr : Frame) {s : State} (h : Booked s) : Booked (reqClearFault fr s).1 := by
  unfold reqClearFault
  split
  · split
    · exact h
    · next hf => exact booked_clearFeed (feedTarget_isFeed hf) h
  · exact h

end Sys2Proof.Machine
end


/-! # Slots, pending operations and notices under profile writes, supplies, policy and lines (O59) -/

section
namespace Sys2Proof.Machine

open Sys2Proof.Safety

/-! ## Changes that keep slots and the states of the feeds -/

/-- A change of no slot, no pending operation, no feed's state and no notice. -/
theorem booked_of_eq {s t : State} (h : Booked s) (ho : t.outlets = s.outlets) (hg : t.gangs = s.gangs)
    (ha : t.activeMap = s.activeMap) (hs : t.slots = s.slots) (hn : t.notices = s.notices) : Booked t :=
  (keepsSlots_of_eq ho hg ha hs hn).booked (sameStates_of_eq ho hg ha).state h

theorem supply_ne_slot (k : SupplyId) (n : SlotId) : Subject.supply k ≠ .slot n := nofun

theorem outlet_ne_slot (p : OutletId) (n : SlotId) : Subject.outlet p ≠ .slot n := nofun

theorem gang_ne_slot (g : GangId) (n : SlotId) : Subject.gang g ≠ .slot n := nofun

/-! ## Profile writes (R155 to R157) -/

theorem keepsSlots_priorityWritten (f : Feed) (v : Nat) (s : State) : KeepsSlots s (priorityWritten f v s).1 := by
  unfold priorityWritten
  split
  · exact keepsSlots_updEntry f _ s
  · exact KeepsSlots.refl s

theorem keepsSlots_amountWritten (f : Feed) (s : State) : KeepsSlots s (amountWritten f s).1 := by
  have he : KeepsSlots s (updEntry f (fun e =>
      { e with amount := s.requestAmount f, unfit := decide (s.budget < s.requestAmount f) }) s) :=
    keepsSlots_updEntry f _ s
  unfold amountWritten
  dsimp only
  split
  · split
    · exact he.trans (keepsSlots_of_eq rfl rfl rfl rfl rfl)
    · exact he.trans (keepsSlots_of_eq rfl rfl rfl rfl rfl)
  · exact he

theorem keepsSlots_writePair (p : OutletId) (f : ProfileField) (v : Nat) (s : State) :
    KeepsSlots s (writePair p f v s).1 := by
  have hw : KeepsSlots s (updOutlet p (fun o => { o with profile := writeField f v o.profile }) s) :=
    keepsSlots_updOutlet s rfl
  have hoff : ∀ g : OutletRec → OutletRec, (∀ o, (g o).own = o.own) → ∀ t, KeepsSlots t (updOutlet p g t) :=
    fun g hg t => keepsSlots_updOutlet t (by rw [hg])
  unfold writePair
  dsimp only
  split
  · split
    · split
      · exact hw.trans (keepsSlots_amountWritten _ _)
      · exact hw
    · exact hw
  · split
    · exact hw.trans (keepsSlots_priorityWritten _ _ _)
    · exact hw
  · exact hw.trans (hoff (fun o => { o with pairWindow := none }) (fun _ => rfl) _)
  · split
    · exact hw
    · exact hw.trans (hoff (fun o => { o with overdrawWindow := none }) (fun _ => rfl) _)
  · exact hw.trans (hoff (fun o => { o with overdrawWindow := o.overdrawWindow.map fun _ => v }) (fun _ => rfl) _)
  · exact hw

theorem booked_writePairs (p : OutletId) (l : List (ProfileField × Nat)) {t : State × Bool} (h : Booked t.1) :
    Booked (l.foldl (fun t x => ((writePair p x.1 x.2 t.1).1, t.2 || (writePair p x.1 x.2 t.1).2)) t).1 :=
  l.foldlRecOn (motive := fun u : State × Bool => Booked u.1) _ h fun u hu x _ =>
    (keepsSlots_writePair p x.1 x.2 u.1).booked (sameStates_writePair p x.1 x.2 u.1).state hu

theorem booked_setProfileOf (p : OutletId) (l : List (Byte × Nat)) {s : State} (hp : powerOk s) (h : Booked s) :
    Booked (setProfileOf p l s).1 := by
  unfold setProfileOf
  split
  · exact h
  · next ws _ =>
    split
    · exact h
    · next hno =>
      refine booked_passIf _ ((lowers_writePairs p _ (s, false) fun x hx hr => ?_).powerOk hp)
        (booked_writePairs p _ (t := (s, false)) h)
      obtain ⟨y, hy, rfl⟩ := List.mem_map.1 hx
      have hall := List.find?_eq_none.1 hno y hy
      refine not_holding_of_allowed ?_
      have hr' : y.2.1 = .request := hr
      rw [← hr']
      simpa using hall

theorem booked_reqSetProfile (fr : Frame) {s : State} (hp : powerOk s) (h : Booked s) :
    Booked (reqSetProfile fr s).1 := by
  unfold reqSetProfile
  split
  · exact h
  · split
    · exact h
    · split
      · split
        · exact h
        · exact booked_setProfileOf _ _ hp h
      · exact h

theorem keepsSlots_writeGangPair (g : GangId) (f : GangField) (v : Nat) (s : State) :
    KeepsSlots s (writeGangPair g f v s).1 := by
  have hw : KeepsSlots s (updGang g (fun r => { r with profile := writeGangField f v r.profile }) s) :=
    keepsSlots_updGang s rfl
  unfold writeGangPair
  dsimp only
  split
  · split
    · exact hw.trans (keepsSlots_priorityWritten _ _ _)
    · exact hw
  · exact hw

theorem booked_writeGangPairs (g : GangId) (l : List (GangField × Nat)) {t : State × Bool} (h : Booked t.1) :
    Booked (l.foldl (fun t x => ((writeGangPair g x.1 x.2 t.1).1, t.2 || (writeGangPair g x.1 x.2 t.1).2)) t).1 :=
  l.foldlRecOn (motive := fun u : State × Bool => Booked u.1) _ h fun u hu x _ =>
    (keepsSlots_writeGangPair g x.1 x.2 u.1).booked (sameStates_writeGangPair g x.1 x.2 u.1).state hu

theorem booked_setGangProfileOf (g : GangId) (l : List (Byte × Nat)) {s : State} (hp : powerOk s) (h : Booked s) :
    Booked (setGangProfileOf g l s).1 := by
  unfold setGangProfileOf
  split
  · exact h
  · split
    · exact h
    · exact booked_passIf _ ((lowers_writeGangPairs g _ (s, false)).powerOk hp)
        (booked_writeGangPairs g _ (t := (s, false)) h)

theorem booked_reqSetGangProfile (fr : Frame) {s : State} (hp : powerOk s) (h : Booked s) :
    Booked (reqSetGangProfile fr s).1 := by
  unfold reqSetGangProfile
  split
  · exact h
  · split
    · exact h
    · split
      · split
        · exact h
        · exact booked_setGangProfileOf _ _ hp h
      · exact h

/-! ## Supplies, policy and aging -/

theorem booked_writeCapacity (k : SupplyId) (v : Option Nat) {s : State} (h : Booked s) :
    Booked (writeCapacity k v s) := by
  unfold writeCapacity
  split
  · exact h
  · split
    · exact h
    · exact booked_raise (supply_ne_slot k) _ (booked_of_eq h rfl rfl rfl rfl rfl)

theorem booked_writeReserve (v : Option Nat) {s : State} (h : Booked s) : Booked (writeReserve v s) := by
  cases v <;> exact booked_of_eq h rfl rfl rfl rfl rfl

theorem booked_setSupplyTo (c1 c2 r : Option Nat) {s : State} (hp : powerOk s) (h : Booked s) :
    Booked (setSupplyTo c1 c2 r s).1 :=
  booked_recompute ((((calm_writeCapacity 0 c1 s).trans (calm_writeCapacity 1 c2 _)).trans
    (calm_writeReserve r _)).powerOk hp)
    (booked_writeReserve r (booked_writeCapacity 1 c2 (booked_writeCapacity 0 c1 h)))

theorem booked_reqSetSupply (fr : Frame) {s : State} (hp : powerOk s) (h : Booked s) :
    Booked (reqSetSupply fr s).1 := by
  unfold reqSetSupply
  split
  · exact h
  · split
    · dsimp only
      split
      · exact booked_setSupplyTo _ _ _ hp h
      · exact h
    · exact h

theorem booked_writePolicy (n : Policy) {s : State} (hp : powerOk s) (h : Booked s) : Booked (writePolicy n s) := by
  refine booked_passIf _ (Calm.powerOk (calm_of_eq (s := s) rfl rfl rfl rfl rfl rfl rfl ?_ fun c hc => ?_) hp)
    (booked_of_eq h rfl rfl rfl rfl rfl)
  · dsimp only
    split
    · rfl
    · rw [List.map_map]
      exact List.map_congr_left fun e _ => retime_core _ e
  · dsimp only at hc
    split at hc
    · cases hc
    · exact hc

theorem booked_reqSetPolicy (fr : Frame) {s : State} (hp : powerOk s) (h : Booked s) :
    Booked (reqSetPolicy fr s).1 := by
  unfold reqSetPolicy
  split
  · exact h
  · split
    · dsimp only
      split
      · exact booked_writePolicy _ hp h
      · exact h
    · exact h

theorem booked_updSupply (k : SupplyId) (g : SupplyRec → SupplyRec) {s : State} (h : Booked s) :
    Booked (updSupply k g s) := booked_of_eq h rfl rfl rfl rfl rfl

theorem booked_supgoodLost (k : SupplyId) {s : State} (hp : powerOk s) (h : Booked s) : Booked (supgoodLost k s) := by
  unfold supgoodLost
  split
  · exact booked_recompute (((calm_updSupply k _ s).trans (calm_raise _ _ _)).powerOk hp)
      (booked_raise (supply_ne_slot k) _ (booked_updSupply k _ h))
  · exact booked_updSupply k _ h

theorem booked_supplyRestored (k : SupplyId) {s : State} (hp : powerOk s) (h : Booked s) :
    Booked (supplyRestored k s) := by
  unfold supplyRestored
  split
  · exact booked_recompute (((calm_updSupply k _ s).trans (calm_raise _ _ _)).powerOk hp)
      (booked_raise (supply_ne_slot k) _ (booked_updSupply k _ h))
  · exact h

theorem booked_ageEntry (f : Feed) {s : State} (hp : powerOk s) (h : Booked s) : Booked (ageEntry f s) := by
  unfold ageEntry
  split
  · exact h
  · split
    · exact booked_passIf _ ((lowers_updEntry f (g := fun x =>
        { x with eff := x.eff + 1, aging := s.agingFor (x.eff + 1) }) (fun _ => rfl) s).powerOk hp)
        ((keepsSlots_updEntry f _ s).booked (sameRetry_updEntry f _ s).state h)
    · exact h

/-! ## Lines and EOFF (R193, R195, R196) -/

theorem booked_emergencyFeed {s : State} {f : Feed} (hf : isFeed s f) (hm : mapsOk s) (h : Booked s) :
    Booked (emergencyFeed s f) := by
  unfold emergencyFeed
  split
  · next hst => exact booked_stopTold hf h hm (by rw [hst]; rfl) .emergency .emergency
  · next hst => exact booked_stopTold hf h hm (by rw [hst]; rfl) .emergency .emergency
  · next hst => exact booked_redirectTold hf h hst rfl _ _ .emergency
  · next hst => exact booked_redirectTold hf h hst rfl _ _ .emergency
  · exact h
  · exact h
  · next hst => exact booked_withdrawTold hf h hst .emergency
  · next hst => exact booked_leaveTold hf h hst .emergency
  · exact h
  · exact h

theorem booked_emergencyFeeds (l : List Feed) {s : State} (hl : ∀ f ∈ l, isFeed s f) (hm : mapsOk s) (h : Booked s) :
    Booked (l.foldl emergencyFeed s) := by
  induction l generalizing s with
  | nil => exact h
  | cons f l ih =>
    have hfix := fixed_emergencyFeed s f
    exact ih (fun x hx => (isFeed_congr hfix.activeMap x).2 (hl x (by simp [hx]))) (mapsOk_fixed hfix hm)
      (booked_emergencyFeed (hl f (by simp)) hm h)

theorem booked_assertEoff {s : State} (hp : powerOk s) (h : Booked s) : Booked (assertEoff s) := by
  have hfeeds : ∀ f ∈ s.feeds, isFeed s f := fun _ hf => (mem_feeds hp.1).1 hf
  refine booked_pass ?_ (booked_of_eq (booked_emergencyFeeds (s := raise .part .emergency s) s.feeds hfeeds
    (mapsOk_fixed (fixed_raise .part .emergency s) hp.1) (booked_raise part_ne_slot .emergency h)) rfl rfl rfl rfl rfl)
  exact (((calm_raise .part .emergency s).lowers.trans
    (lowers_foldFeeds lowers_emergencyFeed (fun s f => (fixed_emergencyFeed s f).activeMap) s.feeds hfeeds)).trans
      (calm_dropClaim _).lowers).powerOk hp

theorem booked_releaseOutlet (p : OutletId) {s : State} (h : Booked s) : Booked (releaseOutlet s p) := by
  unfold releaseOutlet
  split
  · next hc =>
    obtain ⟨hf, -, hst, -⟩ := hc
    have hst' : s.feedState (.solo p) = .off := hst
    exact booked_entered (f := .solo p) hf h (by rw [hst']; rfl) .presence
  · exact h

theorem booked_releaseEoff {s : State} (h : Booked s) : Booked (releaseEoff s) :=
  allOutlets.foldlRecOn (motive := Booked) releaseOutlet (booked_raise part_ne_slot .emergency h)
    fun _ ht p _ => booked_releaseOutlet p ht

theorem booked_sourcesChanged (s : State) {t : State} (hp : powerOk t) (h : Booked t) :
    Booked (sourcesChanged s t) := by
  unfold sourcesChanged
  split
  · exact booked_assertEoff hp h
  · split
    · exact booked_pass ((lowers_releaseEoff t).powerOk hp) (booked_releaseEoff h)
    · exact ite_keeps (fun _ => booked_pass hp h) h

theorem booked_setInput (l : LineId) (i : InputLine) {s : State} (h : Booked s) : Booked (setInput l i s) := by
  cases l <;> exact booked_of_eq h rfl rfl rfl rfl rfl

theorem booked_lineQualified (l : LineId) {s : State} (hp : powerOk s) (h : Booked s) :
    Booked (lineQualified l s) := by
  unfold lineQualified
  dsimp only
  split
  · exact booked_sourcesChanged s ((calm_setInput l _ s).powerOk hp) (booked_setInput l _ h)
  · exact h

theorem booked_changeLine (k : AuxId) (fn : LineFn) {s : State} (hp : powerOk s) (h : Booked s) :
    Booked (changeLine k fn s) := by
  unfold changeLine
  split
  · exact h
  · exact booked_sourcesChanged s
      ((calm_of_eq rfl rfl rfl rfl rfl rfl rfl rfl (fun _ h => h) : Calm s (s.setAux k _)).powerOk hp)
      (booked_of_eq h rfl rfl rfl rfl rfl)

theorem booked_reqSetLine (fr : Frame) {s : State} (hp : powerOk s) (h : Booked s) : Booked (reqSetLine fr s).1 := by
  unfold reqSetLine
  split
  · split
    · exact booked_changeLine _ _ hp h
    · exact h
  · exact h

end Sys2Proof.Machine
end


/-! # Slots, pending operations and notices under maps and fetches (O59) -/

section
namespace Sys2Proof.Machine

open Sys2Proof.Safety

/-! ## A part on which nothing is pending -/

/-- No slot PENDING and no feed with a pending operation. -/
theorem booked_of_idle {s : State} (hs : ∀ n op f, s.slot n ≠ .pending op f)
    (ho : ∀ f, isFeed s f → (s.feedRec f).op = none) (hn : noticesOk s) : Booked s := by
  refine booked_iff.2 ⟨⟨fun n op f h => absurd h (hs n op f), fun f n hf h => ?_, hn⟩, fun f hf => ?_⟩
  · rw [ho f hf] at h
    cases h
  · rw [Fits, pendingKind_none (ho f hf)]
    trivial

/-! ## Applying the staged map (R138 to R142) -/

theorem keepsSlots_reqStageMap (fr : Frame) (s : State) : KeepsSlots s (reqStageMap fr s).1 := by
  unfold reqStageMap
  repeat' split
  all_goals exact keepsSlots_of_eq rfl rfl rfl rfl rfl

theorem keepsSlots_reqStageGang (fr : Frame) (s : State) : KeepsSlots s (reqStageGang fr s).1 := by
  unfold reqStageGang
  repeat' split
  all_goals exact keepsSlots_of_eq rfl rfl rfl rfl rfl

theorem keepsSlots_reqDiscardMap (fr : Frame) (s : State) : KeepsSlots s (reqDiscardMap fr s).1 := by
  unfold reqDiscardMap
  split <;> exact keepsSlots_of_eq rfl rfl rfl rfl rfl

section
variable {s : State} (hp : powerOk s) (hq : s.quiescent = true) (h : Booked s)
include hp hq h

/-- Before an apply nothing is pending (R138, R148). -/
theorem quiet_op {f : Feed} (hf : isFeed s f) : (s.feedRec f).op = none := by
  have hb := quiet_feed hp hq hf
  refine (booked_iff.1 h).1.op_none hf (fitsOp_idle (h.fits hf) ?_ ?_)
  · cases hst : s.feedState f with
    | off => rfl
    | latched => rfl
    | _ => rw [hst] at hb; cases hb
  · cases hst : s.feedState f with
    | stopping c d => rw [hst] at hb; cases hb
    | _ => rfl

theorem quiet_slot (n : SlotId) (op : SlotOp) (f : Feed) : s.slot n ≠ .pending op f := fun hs => by
  obtain ⟨hf, hop⟩ := (booked_iff.1 h).1.pending n op f hs
  rw [quiet_op hp hq h hf] at hop
  cases hop

/-- The feed part an outlet or a gang has after an apply is its own or a new one: nothing is pending on it. -/
theorem applyStaged_op {f : Feed} (hf : isFeed (applyStaged s) f) : ((applyStaged s).feedRec f).op = none := by
  cases f with
  | solo p =>
    have hst : s.stagedMap.feedOf p = some (.solo p) := hf
    simp only [State.feedRec, applyStaged_outlet]
    cases ha : s.activeMap.feedOf p with
    | none => rw [outletAfter_own_new ha hst]; rfl
    | some k =>
      cases k with
      | solo q =>
        obtain rfl := feedOf_solo (s := s) ha
        rw [outletAfter_solo ha hst]
        exact quiet_op hp hq h (f := .solo q) ha
      | gang g => rw [outletAfter_own_left ha hst]; rfl
  | gang g =>
    simp only [State.feedRec, applyStaged_gang]
    cases hc : s.membershipChanges g with
    | false =>
      have hsame : tget s.stagedMap.gangs g = tget s.activeMap.gangs g := by
        simpa [State.membershipChanges] using hc
      rw [gangAfter_same hc]
      refine quiet_op hp hq h (f := .gang g) ?_
      show (tget s.activeMap.gangs g).isSome = true
      rw [← hsame]
      exact hf
    | true =>
      cases hb : s.bringsLatch g with
      | false => rw [gangAfter_rest hc hb]; rfl
      | true => rw [gangAfter_latched hc hb]; rfl

theorem booked_applyStaged : Booked (applyStaged s) :=
  booked_of_idle (s := applyStaged s) (quiet_slot (s := s) hp hq h) (fun _ hf => applyStaged_op hp hq h hf)
    (noticesOk_congr (s := s) rfl rfl h.2)

end

theorem keepsSlots_applyNotices (s t : State) : KeepsSlots t (applyNotices s t) :=
  ((keepsSlots_raise part_ne_slot _ t).trans
    (KeepsSlots.foldl (fun u p => keepsSlots_raise (outlet_ne_slot p) .state u) _ _)).trans
    (KeepsSlots.foldl (fun u g => keepsSlots_raise (gang_ne_slot g) .state u) _ _)

theorem booked_reqApplyMap (fr : Frame) {s : State} (hp : powerOk s) (h : Booked s) :
    Booked (reqApplyMap fr s).1 := by
  unfold reqApplyMap
  split
  · split
    · next hq =>
      split
      · exact h
      · exact (keepsSlots_applyNotices s _).booked (sameRetry_applyNotices s _).state (booked_applyStaged hp hq h)
    · exact h
  · exact h

/-! ## Fetching notices (R172, R173) -/

/-- Acknowledged notices free the slots they were on, and no other slot (R172). -/
theorem freed_slot (l : List Notice) (s : State) (n : SlotId) :
    (l.foldl freeSlotOf s).slot n = if (.slot n) ∈ l.map Notice.subject then .free else s.slot n := by
  induction l generalizing s with
  | nil => rfl
  | cons m l ih =>
    rw [List.foldl_cons, ih]
    by_cases hl : (Subject.slot n) ∈ l.map Notice.subject
    · simp [hl]
    · rw [if_neg hl]
      unfold freeSlotOf
      cases hm : m.subject with
      | slot k =>
        show tget (tset s.slots k .free) n = _
        rw [tget_tset]
        by_cases e : n = k <;> simp [hm, hl, e, State.slot]
      | _ => simp [hm, hl]

theorem freed_notices (l : List Notice) (s : State) : (l.foldl freeSlotOf s).notices = s.notices :=
  l.foldlRecOn (motive := fun t : State => t.notices = s.notices) freeSlotOf rfl fun t ht m _ => by
    unfold freeSlotOf
    split <;> exact ht

theorem freed_feedRec (l : List Notice) (s : State) (f : Feed) : (l.foldl freeSlotOf s).feedRec f = s.feedRec f :=
  l.foldlRecOn (motive := fun t : State => t.feedRec f = s.feedRec f) freeSlotOf rfl fun t ht m _ => by
    unfold freeSlotOf
    split
    · exact (setSlot_feedRec _ _ _ _).trans ht
    · exact ht

/-- The OPEN and DELIVERED notices on a subject that stay and that go. -/
theorem count_filter_add (q : Notice → Bool) (x : Subject) (ns : List Notice) :
    ((ns.filter q).map Notice.subject).count x + ((ns.filter fun m => !q m).map Notice.subject).count x =
      (ns.map Notice.subject).count x := by
  induction ns with
  | nil => rfl
  | cons m ns ih =>
    cases hq : q m <;> simp [hq, List.count_cons] <;> omega

theorem openOn_filter_le (q : Notice → Bool) (x : Subject) (ns : List Notice) :
    openOn x (ns.filter q) ≤ openOn x ns := List.filter_sublist.countP_le

theorem deliveredOn_filter_le (q : Notice → Bool) (x : Subject) (ns : List Notice) :
    deliveredOn x (ns.filter q) ≤ deliveredOn x ns := List.filter_sublist.countP_le

/-- A slot with a notice is COMPLETE (R149). -/
theorem isComplete_of_notice {s : State} (h : noticesOk s) {n : SlotId}
    (hm : (Subject.slot n) ∈ s.notices.map Notice.subject) : (s.slot n).isComplete = true := by
  have hpos := List.count_pos_iff.2 hm
  rw [count_subject, ((noticesOk_iff s).1 h).2 n] at hpos
  by_contra hc
  simp [hc] at hpos

/-- `s` after the removal of the notices outside `q` and the freeing of their slots (R172). -/
def cleared (q : Notice → Bool) (s : State) : State :=
  (s.notices.filter fun m => !q m).foldl freeSlotOf { s with notices := s.notices.filter q }

theorem acknowledge_eq (a : Nat) (s : State) :
    acknowledge a s = if s.ackTaken a then cleared (fun m => !ackedBy s.nextNumber a m) s else s := by
  unfold acknowledge cleared
  split
  · next h => simp [State.acked, h]
  · rfl

section
variable (q : Notice → Bool) {s : State}

theorem cleared_notices : (cleared q s).notices = s.notices.filter q := freed_notices _ _

theorem cleared_slot (n : SlotId) : (cleared q s).slot n =
    if (.slot n) ∈ (s.notices.filter fun m => !q m).map Notice.subject then .free else s.slot n := freed_slot _ _ n

theorem noticesOk_cleared (h : noticesOk s) : noticesOk (cleared q s) := by
  obtain ⟨hone, hslot⟩ := (noticesOk_iff s).1 h
  rw [noticesOk_iff, cleared_notices]
  refine ⟨fun x => ⟨(openOn_filter_le q x _).trans (hone x).1, (deliveredOn_filter_le q x _).trans (hone x).2⟩,
    fun n => ?_⟩
  have hadd := count_filter_add q (.slot n) s.notices
  rw [cleared_slot]
  rw [count_subject, count_subject (.slot n) s.notices, hslot n] at hadd
  split
  · next hgone =>
    have hpos := List.count_pos_iff.2 hgone
    simp only [Slot.isComplete, Bool.false_eq_true, if_false]
    split at hadd <;> omega
  · next hstays =>
    rw [List.count_eq_zero.2 hstays] at hadd
    exact hadd

/-- PENDING slots have no notice, so they are not freed. -/
theorem cleared_pending (h : noticesOk s) (n : SlotId) (op : SlotOp) (f : Feed) :
    (cleared q s).slot n = .pending op f ↔ s.slot n = .pending op f := by
  rw [cleared_slot]
  split
  · next hgone =>
    have hsub : (Subject.slot n) ∈ s.notices.map Notice.subject :=
      (List.filter_sublist.map Notice.subject).subset hgone
    refine ⟨nofun, fun hs => ?_⟩
    have := isComplete_of_notice h hsub
    rw [hs] at this
    cases this
  · exact Iff.rfl

theorem booked_cleared (h : Booked s) : Booked (cleared q s) := by
  obtain ⟨⟨hpend, hbound⟩, hn⟩ := h
  have ha : (cleared q s).activeMap = s.activeMap :=
    (s.notices.filter fun m => !q m).foldlRecOn (motive := fun t : State => t.activeMap = s.activeMap) freeSlotOf rfl
      fun t ht m _ => by
        unfold freeSlotOf
        split <;> exact ht
  have hr : ∀ f, (cleared q s).feedRec f = s.feedRec f := fun f => freed_feedRec _ _ f
  refine ⟨⟨fun n op f hs => ?_, fun f n hf hop => ?_⟩, noticesOk_cleared q hn⟩
  · simp only [isFeed_congr ha, State.feedState, hr]
    exact hpend n op f ((cleared_pending q hn n op f).1 hs)
  · obtain ⟨op, hs⟩ := hbound f n ((isFeed_congr ha f).1 hf) (hr f ▸ hop)
    exact ⟨op, (cleared_pending q hn n op f).2 hs⟩

end

/-- The walk changes no notice's subject (R173). -/
theorem deliver_subjects (s : State) (held : Subject → Bool) (limit next : Nat) (ns : List Notice) :
    (deliver s held limit next ns).1.map Notice.subject = ns.map Notice.subject := by
  induction ns generalizing limit next with
  | nil => cases limit <;> rfl
  | cons n ns ih =>
    cases limit with
    | zero => rfl
    | succ limit =>
      unfold deliver
      split <;> simp [ih]

theorem openOn_deliver_le (s : State) (held : Subject → Bool) (x : Subject) (limit next : Nat) (ns : List Notice) :
    openOn x (deliver s held limit next ns).1 ≤ openOn x ns := by
  unfold openOn
  induction ns generalizing limit next with
  | nil => cases limit <;> exact le_rfl
  | cons n ns ih =>
    cases limit with
    | zero => exact le_rfl
    | succ limit =>
      unfold deliver
      split
      · rw [List.countP_cons_of_neg (by simp [Notice.isOpen])]
        exact (ih limit _).trans (List.sublist_cons_self n ns).countP_le
      · simp only [List.countP_cons]
        exact Nat.add_le_add_right (ih (limit + 1) _) _

/-- A subject that holds a DELIVERED notice gets no second one (R173). -/
theorem deliveredOn_deliver_held (s : State) {held : Subject → Bool} {x : Subject} (hx : held x = true)
    (limit next : Nat) (ns : List Notice) :
    deliveredOn x (deliver s held limit next ns).1 = deliveredOn x ns := by
  unfold deliveredOn
  induction ns generalizing limit next with
  | nil => cases limit <;> rfl
  | cons n ns ih =>
    cases limit with
    | zero => rfl
    | succ limit =>
      unfold deliver
      split
      · next hc =>
        have hne : n.subject ≠ x := fun e => by simp [e, hx] at hc
        simp [hne, ih]
      · simp only [List.countP_cons, ih]

theorem deliveredOn_of_not_held {ns : List Notice} {x : Subject} (h : heldBack ns x = false) :
    deliveredOn x ns = 0 := List.countP_eq_zero.2 fun n hn => by
  have := List.any_eq_false.1 h n hn
  simpa using this

/-- The delivery walk keeps the notices sound. -/
theorem noticesOk_delivered {s t : State} (h : noticesOk s) (hs : t.slots = s.slots) (u : State) (limit next : Nat)
    (hn : t.notices = (deliver u (heldBack s.notices) limit next s.notices).1) : noticesOk t := by
  obtain ⟨hone, hslot⟩ := (noticesOk_iff s).1 h
  have htotal : ∀ x, openOn x t.notices + deliveredOn x t.notices = openOn x s.notices + deliveredOn x s.notices :=
    fun x => by rw [← count_subject, ← count_subject, hn, deliver_subjects]
  refine (noticesOk_iff t).2 ⟨fun x => ?_, fun n => ?_⟩
  · have hle : openOn x t.notices ≤ openOn x s.notices := hn ▸ openOn_deliver_le u _ x limit next s.notices
    obtain ⟨hopen, hdel⟩ := hone x
    have htot := htotal x
    refine ⟨hle.trans hopen, ?_⟩
    cases hx : heldBack s.notices x with
    | true =>
      rw [hn, deliveredOn_deliver_held u hx]
      exact hdel
    | false =>
      have := deliveredOn_of_not_held hx
      omega
  · have hslots : t.slot n = s.slot n := by simp only [State.slot, hs]
    rw [htotal, hslot, hslots]

theorem booked_fetch (a limit : Nat) {s : State} (h : Booked s) : Booked (fetch a limit s).1 := by
  have hack : Booked (acknowledge a s) := by
    rw [acknowledge_eq]
    exact ite_keeps (fun _ => booked_cleared _ h) h
  exact KeepsSlots.booked (s := acknowledge a s)
    ⟨rfl, fun f => rfl, rfl, fun hn => noticesOk_delivered hn rfl _ _ _ rfl⟩ (fun _ => rfl) hack

theorem booked_reqFetchNotices (fr : Frame) {s : State} (h : Booked s) : Booked (reqFetchNotices fr s).1 := by
  unfold reqFetchNotices
  split
  · split
    · exact booked_fetch _ _ h
    · exact h
  · exact h

theorem booked_reqReadMeter (fr : Frame) {s : State} (h : Booked s) : Booked (reqReadMeter fr s).1 := by
  unfold reqReadMeter
  split
  · split
    · exact booked_updOutlet (g := fun o => { o with peak := peakAfterRead o }) h rfl
    · exact h
  · exact h

end Sys2Proof.Machine
end


/-! # Slots, pending operations and notices under events and resets, and at every step (O59) -/

section
namespace Sys2Proof.Machine

open Sys2Proof.Safety

/-! ## Discharge ends and discharge timeouts (R16, R17, R125) -/

/-- A POWER_OFF and a POWER_ON completed: nothing is left. -/
theorem afterCompletion_both (x : Option PowerKind) : afterCompletion .powerOn (afterCompletion .powerOff x) = none := by
  rcases x with _ | _ | _ <;> rfl

/-- With the POWER_ON completed, what is left fits a stop for LATCHED. -/
theorem fitsOp_toLatched (x : Option PowerKind) (c : StopCause) :
    fitsOp (afterCompletion .powerOn x) (.stopping c .latched) := by
  rcases x with _ | _ | _ <;> trivial

theorem booked_soloDischarged {p : OutletId} {s : State} (hf : s.feedOf p = some (.solo p)) {c : StopCause} {d : Dest}
    (hst : s.feedState (.solo p) = .stopping c d) (hp : powerOk s) (h : Booked s) : Booked (soloDischarged p d s) := by
  obtain ⟨hb, hle⟩ := (powerOk_iff s).1 hp
  have hd := (hb.vacant_returned hf hst).enterDest d
  have hfit := h.fits (f := .solo p) hf
  have m := ((moves_enterDest (.solo p) d (returnAlloc p s)).after (keepsSlots_returnAlloc p s)
    (sameRetry_returnAlloc p s).state).tell (.solo p) .state
  rw [hst] at hfit
  refine booked_pass (((calm_raise _ _ _).trans (calm_completeOp _ _ _ _)).powerOk ((powerOk_iff _).2 ⟨hd, ?_⟩))
    (m.booked_completeOp (h.beside hf) .powerOff .stopped (fitsOp_entered hfit))
  rw [enterDest_active, (fixed_enterDest _ _ _).budget]
  exact hle

theorem keepsSlots_recordTimeout (p : OutletId) (s : State) :
    KeepsSlots s (updOutlet p (fun o => { o with lastCause := some .dischargeTimeout }) (returnAlloc p s)) :=
  (keepsSlots_returnAlloc p s).trans (keepsSlots_updOutlet _ rfl)

/-- A solo feed's discharge timeout completes whatever is pending on it (R17). -/
theorem booked_soloTimeout {p : OutletId} {s : State} (hf : s.feedOf p = some (.solo p)) {c : StopCause} {d : Dest}
    (hst : s.feedState (.solo p) = .stopping c d) (hp : powerOk s) (h : Booked s) : Booked (soloTimeout p s) := by
  obtain ⟨hb, hle⟩ := (powerOk_iff s).1 hp
  have v := (hb.vacant_returned hf hst).updOutlet (h := fun o => { o with lastCause := some .dischargeTimeout }) hf rfl
    fun h => h
  have hl : Balanced (setState (.solo p) .latched _) := v.settle (h := fun r => { r with state := .latched }) rfl
    (by simp)
  have m := ((moves_setState (.solo p) .latched _).after (keepsSlots_recordTimeout p s)
    (sameRetry_recordTimeout p s).state).tell (.solo p) .state
  obtain ⟨hb1, hk1⟩ := (m.beside (h.beside hf)).completeOp .powerOff .dischargeFault
  obtain ⟨hb2, hk2⟩ := hb1.completeOp .powerOn .faulted
  refine booked_pass (((((calm_raise _ _ _).trans (calm_completeOp _ _ _ _)).trans (calm_completeOp _ _ _ _)).trans
    (calm_raise _ _ _)).powerOk ((powerOk_iff _).2 ⟨hl, hle⟩)) (booked_raise (outlet_ne_slot p) .fault (hb2.booked ?_))
  rw [Fits, hk2, hk1, afterCompletion_both]
  trivial

theorem booked_gangLeaves {g : GangId} {s : State} (hf : isFeed s (.gang g)) (h : Booked s) :
    Booked (gangLeaves g s) := by
  unfold gangLeaves
  split
  · next c d hst =>
    have hfit := h.fits hf
    rw [show s.feedState (.gang g) = .stopping c d from hst] at hfit
    exact booked_raise (gang_ne_slot g) .state
      ((moves_enterDest (.gang g) d s).booked_completeOp (h.beside hf) .powerOff _ (fitsOp_entered hfit))
  · exact h

theorem booked_memberReturned {g : GangId} {s : State} (hf : isFeed s (.gang g)) (hp : powerOk s) (h : Booked s) :
    Booked (memberReturned g s) := by
  unfold memberReturned
  split
  · next hz => exact booked_pass ((lowers_gangLeaves hf hz).powerOk hp) (booked_gangLeaves hf h)
  · exact booked_pass hp h

/-- A member's discharge timeout turns its gang's stop to LATCHED (R125). -/
theorem booked_memberTimeout {p : OutletId} {g : GangId} {s : State} (hf : s.feedOf p = some (.gang g))
    {c : StopCause} {d : Dest} (hst : s.feedState (.gang g) = .stopping c d) (hp : powerOk s) (h : Booked s) :
    Booked (memberTimeout g c p s) := by
  have hg : isFeed s (.gang g) := isFeed_of_feedOf hf
  have hret : Calm (returnAlloc p s)
      (updOutlet p (fun o => { o with lastCause := some .dischargeTimeout }) (returnAlloc p s)) :=
    calm_updOutlet _ rfl ⟨rfl, rfl, rfl, fun _ h => h⟩
  have hst' := (hret.state (.gang g)).trans ((feedState_returnAlloc p s _).trans hst)
  have hl := ((lowers_returnAlloc hf hst).trans hret.lowers).trans
    (lowers_redirect ((hret.isFeed _).2 ((isFeed_congr (s := s) rfl _).2 hg)) hst' c .latched)
  have hc := ((((calm_updGang (g := g) (h := fun r => { r with lastMember := some p, timedOut := true })
    (redirect (.gang g) c .latched (updOutlet p (fun o => { o with lastCause := some .dischargeTimeout })
      (returnAlloc p s))) rfl).trans (calm_completeOp .powerOn .faulted (.gang g) _)).trans
    (calm_raise (.gang g) .fault _)).trans (calm_raise (.outlet p) .fault _))
  have m : Moves (.gang g) (.stopping c .latched) s _ := ((moves_setState (.gang g) (.stopping c .latched) _).after
    (keepsSlots_recordTimeout p s) (sameRetry_recordTimeout p s).state).then
      (keepsSlots_updGang (g := g) (h := fun r => { r with lastMember := some p, timedOut := true }) _ rfl)
      (sameRetry_updGang _ rfl rfl).state
  refine booked_memberReturned ?_ ((hl.trans hc.lowers).powerOk hp) (booked_raise (outlet_ne_slot p) .fault
    (booked_raise (gang_ne_slot g) .fault (m.booked_completeOp (h.beside hg) .powerOn .faulted ?_)))
  · rw [hc.isFeed, isFeed_congr (fixed_redirect (.gang g) c .latched _).activeMap, hret.isFeed]
    exact hg
  · exact fitsOp_toLatched _ c

theorem booked_reportDown (p : OutletId) {s : State} (hp : powerOk s) (h : Booked s) : Booked (reportDown p s) := by
  unfold reportDown
  split
  · exact h
  · next q hf =>
    cases feedOf_solo hf
    split
    · next hst => exact booked_soloDischarged hf hst hp h
    · exact h
  · next g hf =>
    split
    · next hst =>
      split
      · exact h
      · exact booked_memberReturned (isFeed_of_feedOf (s := s) hf) ((lowers_returnAlloc hf hst).powerOk hp)
          ((keepsSlots_returnAlloc p s).booked (sameRetry_returnAlloc p s).state h)
    · exact h

theorem booked_scan (p : OutletId) (v i : Nat) {s : State} (hp : powerOk s) (h : Booked s) : Booked (scan p v i s) := by
  have hp' := (calm_measured p v i s).powerOk hp
  have h' : Booked (updOutlet p (measured v i) s) := booked_updOutlet h rfl
  unfold scan
  dsimp only
  split
  · exact booked_updOutlet h' (by rw [compareDraw_meter])
  · exact ite_keeps (fun _ => booked_reportDown p hp' h') h'

theorem booked_dischargeExpired (p : OutletId) {s : State} (hp : powerOk s) (h : Booked s) :
    Booked (dischargeExpired p s) := by
  unfold dischargeExpired
  split
  · next hc =>
    split
    · next hst => exact booked_soloTimeout hc.1 hst hp h
    · exact h
  · exact h

theorem booked_memberDischargeExpired (p : OutletId) {s : State} (hp : powerOk s) (h : Booked s) :
    Booked (memberDischargeExpired p s) := by
  unfold memberDischargeExpired
  split
  · split
    · next hf =>
      split
      · next hst => exact booked_memberTimeout hf hst hp h
      · exact h
    · exact h
  · exact h

/-! ## Ramps, timers, presence and fault inputs -/

/-- A feed in STARTING enters ON with its notice and its POWER_ON powered, in either order (R12, R123). -/
theorem booked_rampIn {f : Feed} {s : State} (hf : isFeed s f) (hst : s.feedState f = .starting) (h : Booked s) :
    Booked (completeOp .powerOn .powered f (raise (subjectOf f) .state (enterOn f s))) ∧
      Booked (raise (subjectOf f) .state (completeOp .powerOn .powered f (enterOn f s))) := by
  have m : Moves f .on s (enterOn f s) :=
    moves_updFeed f (h := fun r => { r with state := .on, stability := some (s.stabilityOf f) }) s fun _ => rfl
  have hoff : offStopping (s.feedState f) = false := by rw [hst]; rfl
  exact ⟨(m.tell f .state).booked_ended h hf hoff .powered,
    booked_raise (subjectOf_ne_slot f) .state (m.booked_ended h hf hoff .powered)⟩

theorem booked_rampExpired (p : OutletId) {s : State} (hm : mapsOk s) (h : Booked s) : Booked (rampExpired p s) := by
  have h' : Booked (updOutlet p (fun o => { o with ramp := none }) s) := booked_updOutlet h rfl
  unfold rampExpired
  split
  · next hc =>
    obtain ⟨hf, -, hst⟩ := hc
    dsimp only
    split
    · refine (booked_rampIn (f := .solo p) (s := updOutlet p (fun o => { o with ramp := none }) s) hf ?_ h').1
      exact ((calm_rampOff p s).state (.solo p)).trans hst
    · exact booked_takeFault (s := updOutlet p (fun o => { o with ramp := none }) s) hm h' p _
  · exact h

theorem booked_memberRampExpired (p : OutletId) {s : State} (hm : mapsOk s) (h : Booked s) :
    Booked (memberRampExpired p s) := by
  have h' : Booked (updOutlet p (fun o => { o with ramp := none }) s) := booked_updOutlet h rfl
  unfold memberRampExpired
  split
  · next g hf =>
    split
    · next hc =>
      unfold memberRampIn
      dsimp only
      split
      · split
        · refine (booked_rampIn (f := .gang g) (s := updOutlet p (fun o => { o with ramp := none }) s)
            (isFeed_of_feedOf (s := s) hf) ?_ h').2
          exact ((calm_rampOff p s).state (.gang g)).trans hc.2
        · exact h'
      · exact booked_takeFault (s := updOutlet p (fun o => { o with ramp := none }) s) hm h' p _
    · exact h
  · exact h

theorem booked_blankingExpired (p : OutletId) {s : State} (hm : mapsOk s) (h : Booked s) :
    Booked (blankingExpired p s) := by
  have h' : Booked (updOutlet p (fun o => { o with blanking := none }) s) := booked_updOutlet h rfl
  unfold blankingExpired
  split
  · exact ite_keeps (fun _ => booked_examine (s := updOutlet p (fun o => { o with blanking := none }) s) hm h' p) h'
  · exact h

theorem booked_stabilityExpired (f : Feed) {s : State} (h : Booked s) : Booked (stabilityExpired f s) :=
  ite_keeps (fun _ => KeepsSlots.booked (keepsSlots_updFeed f s fun _ => rfl)
    (calm_updFeed f s (h := fun r => { r with count := 0, stability := none }) fun _ => rfl).state h) h

theorem booked_backoffExpired {f : Feed} {s : State} (hf : isFeed s f) (hp : powerOk s) (h : Booked s) :
    Booked (backoffExpired f s) :=
  ite_keeps (fun hc => booked_enterTold hf h hp (by rw [hc.2]; rfl) (by simp [hc.2]) .retry) h

theorem booked_arrived {f : Feed} {s : State} (hf : isFeed s f) (hp : powerOk s) (h : Booked s) :
    Booked (arrived f s) :=
  ite_keeps (fun ha => booked_enterTold hf h hp (by rw [ha.1]; rfl) (by simp [ha.1]) .presence) h

theorem booked_departed {f : Feed} {s : State} (hf : isFeed s f) (hp : powerOk s) (h : Booked s) :
    Booked (departed f s) := by
  unfold departed
  split
  · exact h
  · exact h
  · next hst =>
    exact booked_pass ((lowers_withdrawTold hf hst .removed).powerOk hp) (booked_withdrawTold hf h hst .removed)
  · next hst => exact booked_stopTold hf h hp.1 (by rw [hst]; rfl) .removal .removed
  · next hst => exact booked_stopTold hf h hp.1 (by rw [hst]; rfl) .removal .removed
  · next hst => exact booked_redirectTold hf h hst rfl _ _ .removed
  · next hst => exact booked_redirectTold hf h hst rfl _ _ .removed
  · exact h
  · exact h
  · next hst => exact booked_leaveTold hf h hst .removed

theorem booked_presenceActs (p : OutletId) (a : Bool) {s : State} (hp : powerOk s) (h : Booked s) :
    Booked (presenceActs p a s) := by
  unfold presenceActs
  split
  · next hc =>
    split
    · exact booked_arrived (f := .solo p) hc.1 hp h
    · exact booked_departed (f := .solo p) hc.1 hp h
  · exact h

theorem booked_debounced (p : OutletId) {s : State} (hp : powerOk s) (h : Booked s) : Booked (debounced p s) := by
  have hd : Calm s (updOutlet p (fun o => { o with debounce := none }) s) := calm_pins s rfl
  have h' : Booked (updOutlet p (fun o => { o with debounce := none }) s) := booked_updOutlet h rfl
  unfold debounced
  split
  · dsimp only
    split
    · exact h'
    · exact booked_presenceActs p _
        (((hd.trans (calm_pins (h := fun o => { o with presence := o.pres }) _ rfl)).trans (calm_raise _ _ _)).powerOk
          hp)
        (booked_raise (outlet_ne_slot p) .presence (booked_updOutlet h' rfl))
  · exact h

theorem booked_overcurrentBegins (p : OutletId) {s : State} (hm : mapsOk s) (h : Booked s) :
    Booked (overcurrentBegins p s) := by
  have h' : Booked (updOutlet p (fun o => { o with overcurrent := true }) s) := booked_updOutlet h rfl
  unfold overcurrentBegins
  split
  · exact h
  · exact ite_keeps (fun _ => booked_examine (s := updOutlet p (fun o => { o with overcurrent := true }) s) hm h' p) h'

theorem booked_shortChanged (p : OutletId) (a : Bool) {s : State} (hm : mapsOk s) (h : Booked s) :
    Booked (shortChanged p a s) := by
  have h' : Booked (updOutlet p (fun o => { o with shortN := a }) s) := booked_updOutlet h rfl
  unfold shortChanged
  split
  · exact h
  · exact ite_keeps (fun _ => booked_takeFault (s := updOutlet p (fun o => { o with shortN := a }) s) hm h' p _) h'

theorem booked_overdrawExpired (p : OutletId) {s : State} (hm : mapsOk s) (h : Booked s) :
    Booked (overdrawExpired p s) :=
  ite_keeps (fun _ => booked_takeFault (s := updOutlet p (fun o => { o with overdrawWindow := none }) s) hm
    (booked_updOutlet h rfl) p _) h

/-! ## Hard reset (R199) -/

theorem booked_blocksReset (s : State) : Booked (blocksReset s) := by
  refine booked_of_idle (fun n op f hs => ?_) (fun f _ => ?_)
    (noticesOk_congr (s := State.reset) rfl rfl noticesOk_reset)
  · have hfree : (blocksReset s).slot n = .free := reset_slot n
    rw [hs] at hfree
    cases hfree
  · cases f with
    | solo p =>
      simp only [State.feedRec, blocksReset_outlet]
      rfl
    | gang g =>
      simp only [State.feedRec, blocksReset_gang]
      rfl

theorem keepsSlots_wakeOutlet (s : State) (p : OutletId) : KeepsSlots s (wakeOutlet s p) := by
  unfold wakeOutlet
  split
  · exact keepsSlots_updOutlet (h := fun o => { o with debounce := some o.profile.debounce }) s rfl
  · exact KeepsSlots.refl s

theorem keepsSlots_wakeSupply (s : State) (k : SupplyId) : KeepsSlots s (wakeSupply s k) := by
  unfold wakeSupply
  split <;> exact keepsSlots_of_eq rfl rfl rfl rfl rfl

theorem keepsSlots_wakeEoff (s : State) : KeepsSlots s (wakeEoff s) := by
  unfold wakeEoff
  split <;> exact keepsSlots_of_eq rfl rfl rfl rfl rfl

theorem keepsSlots_wake (s : State) :
    KeepsSlots s (wakeEoff (wakeSupply (wakeSupply (allOutlets.foldl wakeOutlet s) 0) 1)) :=
  (((KeepsSlots.foldl keepsSlots_wakeOutlet allOutlets s).trans (keepsSlots_wakeSupply _ 0)).trans
    (keepsSlots_wakeSupply _ 1)).trans (keepsSlots_wakeEoff _)

theorem booked_finishReset (v : Level) (s : State) : Booked (finishReset v s) := by
  unfold finishReset
  refine (keepsSlots_wake _).booked (sameRetry_wake _).state ?_
  exact booked_of_eq (booked_blocksReset s) rfl rfl rfl rfl rfl

/-! ## Every step -/

/-- Every effect of the part keeps slots, pending operations and notices together. -/
theorem effectsKeep_booked : EffectsKeep fun s => powerOk s ∧ Booked s where
  pending _ _ h := ⟨effectsKeep_powerOk.pending _ _ h.1, booked_of_eq h.2 rfl rfl rfl rfl rfl⟩
  link _ _ h := ⟨effectsKeep_powerOk.link _ _ h.1, booked_of_eq h.2 rfl rfl rfl rfl rfl⟩
  aux _ h := ⟨effectsKeep_powerOk.aux _ h.1, booked_of_eq h.2 rfl rfl rfl rfl rfl⟩
  readMeter f _ h := ⟨effectsKeep_powerOk.readMeter _ _ h.1, booked_reqReadMeter f h.2⟩
  powerOn f _ h := ⟨effectsKeep_powerOk.powerOn _ _ h.1, booked_reqPowerOn f h.1 h.2⟩
  powerOff f _ h := ⟨effectsKeep_powerOk.powerOff _ _ h.1, booked_reqPowerOff f h.1 h.2⟩
  clearFault f _ h := ⟨effectsKeep_powerOk.clearFault _ _ h.1, booked_reqClearFault f h.2⟩
  setProfile f _ h := ⟨effectsKeep_powerOk.setProfile _ _ h.1, booked_reqSetProfile f h.1 h.2⟩
  setGangProfile f _ h := ⟨effectsKeep_powerOk.setGangProfile _ _ h.1, booked_reqSetGangProfile f h.1 h.2⟩
  setSupply f _ h := ⟨effectsKeep_powerOk.setSupply _ _ h.1, booked_reqSetSupply f h.1 h.2⟩
  setPolicy f _ h := ⟨effectsKeep_powerOk.setPolicy _ _ h.1, booked_reqSetPolicy f h.1 h.2⟩
  setLine f _ h := ⟨effectsKeep_powerOk.setLine _ _ h.1, booked_reqSetLine f h.1 h.2⟩
  stageMap f s h := ⟨effectsKeep_powerOk.stageMap _ _ h.1,
    (keepsSlots_reqStageMap f s).booked (sameRetry_reqStageMap f s).state h.2⟩
  stageGang f s h := ⟨effectsKeep_powerOk.stageGang _ _ h.1,
    (keepsSlots_reqStageGang f s).booked (sameRetry_reqStageGang f s).state h.2⟩
  applyMap f _ h := ⟨effectsKeep_powerOk.applyMap _ _ h.1, booked_reqApplyMap f h.1 h.2⟩
  discardMap f s h := ⟨effectsKeep_powerOk.discardMap _ _ h.1,
    (keepsSlots_reqDiscardMap f s).booked (sameRetry_reqDiscardMap f s).state h.2⟩
  fetchNotices f _ h := ⟨effectsKeep_powerOk.fetchNotices _ _ h.1, booked_reqFetchNotices f h.2⟩
  resetBy _ _ h := ⟨effectsKeep_powerOk.resetBy _ _ h.1, booked_of_eq h.2 rfl rfl rfl rfl rfl⟩
  enterReset s h := ⟨effectsKeep_powerOk.enterReset _ h.1, booked_of_eq (booked_blocksReset s) rfl rfl rfl rfl rfl⟩
  finishReset v s h := ⟨effectsKeep_powerOk.finishReset _ _ h.1, booked_finishReset v s⟩
  outletPins p a b c s h := ⟨effectsKeep_powerOk.outletPins p a b c s h.1, booked_updOutlet h.2 rfl⟩
  supgoodInReset k _ _ h := ⟨effectsKeep_powerOk.supgoodInReset _ _ _ h.1, booked_updSupply k _ h.2⟩
  lineInput l i _ h := ⟨effectsKeep_powerOk.lineInput _ _ _ h.1, booked_setInput l i h.2⟩
  supgoodLost k _ h := ⟨effectsKeep_powerOk.supgoodLost _ _ h.1, booked_supgoodLost k h.1 h.2⟩
  supgoodFound k _ h := ⟨effectsKeep_powerOk.supgoodFound _ _ h.1,
    ite_keeps (fun _ => h.2) (booked_updSupply k _ h.2)⟩
  supplyRestored k _ h := ⟨effectsKeep_powerOk.supplyRestored _ _ h.1, booked_supplyRestored k h.1 h.2⟩
  ageEntry f _ h := ⟨effectsKeep_powerOk.ageEntry _ _ h.1, booked_ageEntry f h.1 h.2⟩
  scan p v i _ h := ⟨effectsKeep_powerOk.scan _ _ _ _ h.1, booked_scan p v i h.1 h.2⟩
  dischargeExpired p _ h := ⟨effectsKeep_powerOk.dischargeExpired _ _ h.1, booked_dischargeExpired p h.1 h.2⟩
  memberDischargeExpired p _ h :=
    ⟨effectsKeep_powerOk.memberDischargeExpired _ _ h.1, booked_memberDischargeExpired p h.1 h.2⟩
  rampExpired p _ h := ⟨effectsKeep_powerOk.rampExpired _ _ h.1, booked_rampExpired p h.1.1 h.2⟩
  memberRampExpired p _ h := ⟨effectsKeep_powerOk.memberRampExpired _ _ h.1, booked_memberRampExpired p h.1.1 h.2⟩
  blankingExpired p _ h := ⟨effectsKeep_powerOk.blankingExpired _ _ h.1, booked_blankingExpired p h.1.1 h.2⟩
  stabilityExpired f _ h := ⟨effectsKeep_powerOk.stabilityExpired _ _ h.1, booked_stabilityExpired f h.2⟩
  backoffExpired _ _ hf h := ⟨effectsKeep_powerOk.backoffExpired _ _ hf h.1, booked_backoffExpired hf h.1 h.2⟩
  presChanged p a _ h := ⟨effectsKeep_powerOk.presChanged p a _ h.1,
    ite_keeps (fun _ => h.2) (booked_updOutlet h.2 rfl)⟩
  debounced p _ h := ⟨effectsKeep_powerOk.debounced _ _ h.1, booked_debounced p h.1 h.2⟩
  overcurrentBegins p _ h := ⟨effectsKeep_powerOk.overcurrentBegins _ _ h.1, booked_overcurrentBegins p h.1.1 h.2⟩
  overcurrentEnds _ _ h := ⟨effectsKeep_powerOk.overcurrentEnds _ _ h.1, booked_updOutlet h.2 rfl⟩
  widthReached p _ h := ⟨effectsKeep_powerOk.widthReached _ _ h.1,
    ite_keeps (fun _ => booked_qualify h.1.1 h.2 p) h.2⟩
  pairWindowExpired _ _ h := ⟨effectsKeep_powerOk.pairWindowExpired _ _ h.1, booked_updOutlet h.2 rfl⟩
  shortChanged p a _ h := ⟨effectsKeep_powerOk.shortChanged _ _ _ h.1, booked_shortChanged p a h.1.1 h.2⟩
  overdrawExpired p _ h := ⟨effectsKeep_powerOk.overdrawExpired _ _ h.1, booked_overdrawExpired p h.1.1 h.2⟩
  lineQualified l _ h := ⟨effectsKeep_powerOk.lineQualified _ _ h.1, booked_lineQualified l h.1 h.2⟩

/-- Settles O59: every effect keeps the budget law with slots and notices, and so does every step; the bound counts the
subjects of R166. -/
theorem stepsKeepSlotsAndNotices : Obligations.StepsKeepSlotsAndNotices :=
  ⟨fun s t hp hs hn hstep => (effectsKeep_booked.step s t ⟨hp, hs, hn⟩ hstep).2, fun _ => notices_length_le⟩

end Sys2Proof.Machine
end


/-! # Completions (O9) -/

section
namespace Sys2Proof.Machine

/-! ## What a completion writes (R149) -/

theorem completed_feedRec (n : SlotId) (op : SlotOp) (o : Completion) (f : Feed) (s : State) :
    (completed n op o f s).feedRec f = { s.feedRec f with op := none } := by
  rw [completed, raise_feedRec, updFeed_feedRec_same, setSlot_feedRec]

theorem completed_feedRec_other (n : SlotId) (op : SlotOp) (o : Completion) {f g : Feed} (s : State) (h : g ≠ f) :
    (completed n op o f s).feedRec g = s.feedRec g := by
  rw [completed, raise_feedRec, updFeed_feedRec_other _ _ _ _ h, setSlot_feedRec]

/-- A completion writes the outlets, the gangs, the slots, the notices and ALERT_N at most. -/
theorem completed_frame (n : SlotId) (op : SlotOp) (o : Completion) (f : Feed) (s : State) :
    completed n op o f s =
      { s with
        outlets := (completed n op o f s).outlets, gangs := (completed n op o f s).gangs
        slots := (completed n op o f s).slots, notices := raiseIn (.slot n) .completion s.notices, alertN := .low } := by
  cases f <;> rfl

/-- Settles O9: a pending operation of the kind makes the completion `completed`; otherwise it is the identity. -/
theorem completionFillsItsSlot : Obligations.CompletionFillsItsSlot := by
  refine ⟨fun k o f s n op g hop hs hk => ?_, fun k o f s hop => completeOp_idle k o hop,
    fun k o f s n op g hop hs hk => completeOp_otherKind o hop hs hk⟩
  rw [show completeOp k o f s = completed n op o f s from completeOp_done o hop hs hk]
  exact ⟨by rw [completed_slot, if_pos rfl], fun m hm => by rw [completed_slot, if_neg hm], completed_feedRec n op o f s,
    fun h hh => completed_feedRec_other n op o s hh, completed_frame n op o f s⟩

end Sys2Proof.Machine
end


/-! # The request catalogue: lengths, refusals and replies (O5, O7) -/

section
namespace Sys2Proof.Machine

open Sys2Proof.Safety

/-! ## What a request can be answered with (R144, R145, R202) -/

/-- The outcomes of a request: BAD_LENGTH for a payload length the kind does not accept, and for an accepted one a
refusal with another reason, which changes nothing, or a reply DONE or ACCEPTED. -/
inductive Served (s : State) : Bool → State × List Byte → Prop
  | badLength : Served s false (refuse s .badLength)
  | refused {q : Reason} (d : List Byte) (hq : q ≠ .unknownKind ∧ q ≠ .badLength) :
    Served s true (s, refusedWith q d)
  | done (t : State) (c : List Byte) : Served s true (t, Machine.done c)
  | accepted (t : State) (c : List Byte) : Served s true (t, Machine.accepted c)

section
variable {s : State} {b : Bool} {r : State × List Byte}

/-- Payload lengths that the kind accepts, and others. -/
theorem Served.fits {p : Prop} [Decidable p] (hp : p) (h : Served s true r) : Served s (decide p) r := by
  rwa [decide_eq_true hp]

theorem Served.unfit {p : Prop} [Decidable p] (hp : ¬ p) : Served s (decide p) (refuse s .badLength) := by
  rw [decide_eq_false hp]
  exact .badLength

/-- A refused request leaves the state as it was (R144). -/
theorem Served.state_of_refused (h : Served s b r) (hr : r.2.head? = some 0x02#8) : r.1 = s := by
  cases h with
  | badLength => rfl
  | refused d hq => rfl
  | done t c => simp [Machine.done] at hr
  | accepted t c => simp [Machine.accepted] at hr

theorem Served.badLength_of_unfit (h : Served s false r) : r = (s, [0x02#8, 0x02#8]) := by
  cases h
  rfl

theorem codeReason_ne {q : Reason} (h : q ≠ .unknownKind ∧ q ≠ .badLength) :
    codeReason q ≠ 0x01#8 ∧ codeReason q ≠ 0x02#8 := by
  obtain ⟨hk, hl⟩ := h
  cases q with
  | unknownKind => exact absurd rfl hk
  | badLength => exact absurd rfl hl
  | _ => decide

/-- A request of an accepted length is refused neither for its kind nor for its length. -/
theorem Served.not_checked (h : Served s true r) : r.2 ≠ [0x02#8, 0x01#8] ∧ r.2 ≠ [0x02#8, 0x02#8] := by
  cases h with
  | refused d hq =>
    obtain ⟨hk, hl⟩ := codeReason_ne hq
    simp [refusedWith, hk, hl]
  | done t c => simp [Machine.done]
  | accepted t c => simp [Machine.accepted]

end

/-! ## Requests without a payload and requests with one byte -/

section
variable (f : Frame) (s : State)

theorem served_reqIdent : Served s (decide (f.payload.length = 0)) (reqIdent f s) := by
  unfold reqIdent
  split
  · next h => exact .fits (by simp [h]) (.done _ _)
  · next h => exact .unfit (by simpa [List.length_eq_zero_iff] using h)

theorem served_reqStatus : Served s (decide (f.payload.length = 0)) (reqStatus f s) := by
  unfold reqStatus
  split
  · next h => exact .fits (by simp [h]) (.done _ _)
  · next h => exact .unfit (by simpa [List.length_eq_zero_iff] using h)

theorem served_reqApplyMap : Served s (decide (f.payload.length = 0)) (reqApplyMap f s) := by
  unfold reqApplyMap
  split
  · next h =>
    refine .fits (by simp [h]) ?_
    split
    · split
      · exact .refused _ (by decide)
      · exact .done _ _
    · exact .refused _ (by decide)
  · next h => exact .unfit (by simpa [List.length_eq_zero_iff] using h)

theorem served_reqDiscardMap : Served s (decide (f.payload.length = 0)) (reqDiscardMap f s) := by
  unfold reqDiscardMap
  split
  · next h => exact .fits (by simp [h]) (.done _ _)
  · next h => exact .unfit (by simpa [List.length_eq_zero_iff] using h)

theorem served_reqRestart : Served s (decide (f.payload.length = 0)) (reqRestart f s) := by
  unfold reqRestart
  split
  · next h => exact .fits (by simp [h]) (.done _ _)
  · next h => exact .unfit (by simpa [List.length_eq_zero_iff] using h)

theorem served_reqReadOutlet : Served s (decide (f.payload.length = 1)) (reqReadOutlet f s) := by
  unfold reqReadOutlet
  split
  · next h =>
    refine .fits (by simp [h]) ?_
    split
    · exact .done _ _
    · exact .refused _ (by decide)
  · next h => exact .unfit (by simpa [List.length_eq_one_iff] using h)

theorem served_reqReadGang : Served s (decide (f.payload.length = 1)) (reqReadGang f s) := by
  unfold reqReadGang
  split
  · next h =>
    refine .fits (by simp [h]) ?_
    split
    · exact .done _ _
    · exact .refused _ (by decide)
  · next h => exact .unfit (by simpa [List.length_eq_one_iff] using h)

theorem served_reqReadMeter : Served s (decide (f.payload.length = 1)) (reqReadMeter f s) := by
  unfold reqReadMeter
  split
  · next h =>
    refine .fits (by simp [h]) ?_
    split
    · exact .done _ _
    · exact .refused _ (by decide)
  · next h => exact .unfit (by simpa [List.length_eq_one_iff] using h)

theorem served_reqReadQueue : Served s (decide (f.payload.length = 1)) (reqReadQueue f s) := by
  unfold reqReadQueue
  split
  · next h =>
    refine .fits (by simp [h]) ?_
    split
    · exact .done _ _
    · exact .refused _ (by decide)
  · next h => exact .unfit (by simpa [List.length_eq_one_iff] using h)

theorem served_reqReadMap : Served s (decide (f.payload.length = 1)) (reqReadMap f s) := by
  unfold reqReadMap
  split
  · next h =>
    refine .fits (by simp [h]) ?_
    dsimp only
    split
    · exact .done _ _
    · split
      · exact .done _ _
      · exact .refused _ (by decide)
  · next h => exact .unfit (by simpa [List.length_eq_one_iff] using h)

/-! ## Power requests -/

theorem feedTarget_error {b : Byte} {q : Reason} (h : s.feedTarget b = .error q) : q = .badTarget ∨ q = .inGang := by
  unfold State.feedTarget at h
  split at h
  · split at h
    · cases h; exact .inl rfl
    · split at h
      · cases h; exact .inr rfl
      · cases h
  · split at h
    · cases h
    · cases h; exact .inl rfl
  · cases h; exact .inl rfl
  · cases h; exact .inl rfl
  · cases h; exact .inl rfl

theorem served_badTarget {b : Byte} {q : Reason} (h : s.feedTarget b = .error q) : Served s true (refuse s q) := by
  rcases feedTarget_error s h with rfl | rfl
  · exact .refused _ (by decide)
  · exact .refused _ (by decide)

theorem served_powerOnFeed (b : Byte) (k : Feed) : Served s true (powerOnFeed f b k s) := by
  unfold powerOnFeed
  split
  · exact .refused _ (by decide)
  · split
    · exact .refused _ (by decide)
    · split
      · exact .refused _ (by decide)
      · split
        · exact .refused _ (by decide)
        · split
          · exact .refused _ (by decide)
          · split
            · exact .done _ _
            · split
              · exact .refused _ (by decide)
              · exact .accepted _ _

theorem served_powerOffFeed (b : Byte) (k : Feed) : Served s true (powerOffFeed f b k s) := by
  unfold powerOffFeed
  dsimp only
  split
  · exact .done _ _
  · exact .done _ _
  · exact .done _ _
  · exact .done _ _
  · split
    · exact .refused _ (by decide)
    · exact .accepted _ _
  · split
    · exact .refused _ (by decide)
    · exact .accepted _ _
  · split
    · exact .refused _ (by decide)
    · split
      · exact .refused _ (by decide)
      · exact .accepted _ _

theorem served_reqPowerOn : Served s (decide (f.payload.length = 1)) (reqPowerOn f s) := by
  unfold reqPowerOn
  split
  · next h =>
    refine .fits (by simp [h]) ?_
    split
    · next hq => exact served_badTarget s hq
    · exact served_powerOnFeed f s _ _
  · next h => exact .unfit (by simpa [List.length_eq_one_iff] using h)

theorem served_reqPowerOff : Served s (decide (f.payload.length = 1)) (reqPowerOff f s) := by
  unfold reqPowerOff
  split
  · next h =>
    refine .fits (by simp [h]) ?_
    split
    · exact .done _ _
    · split
      · next hq => exact served_badTarget s hq
      · exact served_powerOffFeed f s _ _
  · next h => exact .unfit (by simpa [List.length_eq_one_iff] using h)

theorem served_reqClearFault : Served s (decide (f.payload.length = 1)) (reqClearFault f s) := by
  unfold reqClearFault
  split
  · next h =>
    refine .fits (by simp [h]) ?_
    split
    · next hq => exact served_badTarget s hq
    · exact .done _ _
  · next h => exact .unfit (by simpa [List.length_eq_one_iff] using h)

/-! ## Requests with three bytes -/

theorem served_reqSetLine : Served s (decide (f.payload.length = 3)) (reqSetLine f s) := by
  unfold reqSetLine
  split
  · next h =>
    refine .fits (by simp [h]) ?_
    split
    · exact .done _ _
    · exact .refused _ (by decide)
  · next h => exact .unfit (by simpa [List.length_eq_three] using h)

theorem served_reqFetchNotices : Served s (decide (f.payload.length = 3)) (reqFetchNotices f s) := by
  unfold reqFetchNotices
  split
  · next h =>
    refine .fits (by simp [h]) ?_
    split
    · exact .done _ _
    · exact .refused _ (by decide)
  · next h => exact .unfit (by simpa [List.length_eq_three] using h)

/-! ## Requests with lists -/

theorem readPairs_length (l : List Byte) :
    match readPairs l with
    | some ps => l.length = 3 * ps.length
    | none => l.length % 3 ≠ 0 := by
  induction l using readPairs.induct with
  | case1 => rfl
  | case2 a hi lo rest ps hps ih =>
    rw [hps] at ih
    simp only [readPairs, hps, List.length_cons] at ih ⊢
    omega
  | case3 a hi lo rest hnone ih =>
    rw [hnone] at ih
    simp only [readPairs, hnone, List.length_cons] at ih ⊢
    omega
  | case4 l hnil hcons =>
    match l with
    | [] => exact absurd rfl hnil
    | [_] => exact (by decide : 1 % 3 ≠ 0)
    | [_, _] => exact (by decide : 2 % 3 ≠ 0)
    | _ :: _ :: _ :: _ => exact absurd rfl (hcons _ _ _ _)

theorem readTwos_length (l : List Byte) :
    match readTwos l with
    | some ps => l.length = 2 * ps.length
    | none => l.length % 2 ≠ 0 := by
  induction l using readTwos.induct with
  | case1 => rfl
  | case2 a b rest ps hps ih =>
    rw [hps] at ih
    simp only [readTwos, hps, List.length_cons] at ih ⊢
    omega
  | case3 a b rest hnone ih =>
    rw [hnone] at ih
    simp only [readTwos, hnone, List.length_cons] at ih ⊢
    omega
  | case4 l hnil hcons =>
    match l with
    | [] => exact absurd rfl hnil
    | [_] => exact (by decide : 1 % 2 ≠ 0)
    | _ :: _ :: _ => exact absurd rfl (hcons _ _ _)

theorem served_setProfileOf (p : OutletId) (l : List (Byte × Nat)) : Served s true (setProfileOf p l s) := by
  unfold setProfileOf
  split
  · exact .refused _ (by decide)
  · split
    · exact .refused _ (by decide)
    · exact .done _ _

theorem served_setGangProfileOf (g : GangId) (l : List (Byte × Nat)) : Served s true (setGangProfileOf g l s) := by
  unfold setGangProfileOf
  split
  · exact .refused _ (by decide)
  · split
    · exact .refused _ (by decide)
    · exact .done _ _

/-- A target and 1 to `n` pairs. -/
theorem pairCount_iff {l : List Byte} {ps : List (Byte × Nat)} (h : readPairs l = some ps) (n : Nat) :
    pairCount n ps = true ↔ 4 ≤ l.length + 1 ∧ l.length + 1 ≤ 3 * n + 1 ∧ (l.length + 1) % 3 = 1 := by
  have hlen := readPairs_length l
  rw [h] at hlen
  simp only [pairCount, Bool.and_eq_true, decide_eq_true_eq]
  omega

theorem served_reqSetProfile :
    Served s (decide (4 ≤ f.payload.length ∧ f.payload.length ≤ 25 ∧ f.payload.length % 3 = 1)) (reqSetProfile f s) := by
  unfold reqSetProfile
  split
  · next h => exact .unfit (by simp [h])
  · next t rest h =>
    rw [h, List.length_cons]
    have hlen := readPairs_length rest
    split
    · next hps =>
      rw [hps] at hlen
      exact .unfit (by omega)
    · next ps hps =>
      split
      · next hc =>
        refine .fits ((pairCount_iff hps 8).1 hc) ?_
        split
        · exact .refused _ (by decide)
        · exact served_setProfileOf s _ _
      · next hc => exact .unfit fun hl => hc ((pairCount_iff hps 8).2 hl)

theorem served_reqSetGangProfile :
    Served s (decide (4 ≤ f.payload.length ∧ f.payload.length ≤ 13 ∧ f.payload.length % 3 = 1))
      (reqSetGangProfile f s) := by
  unfold reqSetGangProfile
  split
  · next h => exact .unfit (by simp [h])
  · next t rest h =>
    rw [h, List.length_cons]
    have hlen := readPairs_length rest
    split
    · next hps =>
      rw [hps] at hlen
      exact .unfit (by omega)
    · next ps hps =>
      split
      · next hc =>
        refine .fits ((pairCount_iff hps 4).1 hc) ?_
        split
        · exact .refused _ (by decide)
        · exact served_setGangProfileOf s _ _
      · next hc => exact .unfit fun hl => hc ((pairCount_iff hps 4).2 hl)

theorem served_reqSetSupply :
    Served s (decide (1 ≤ f.payload.length ∧ f.payload.length = 1 + 2 * bitsSet (f.payload.headD 0#8)))
      (reqSetSupply f s) := by
  unfold reqSetSupply
  split
  · next h => exact .unfit (by simp [h])
  · next m rest h =>
    rw [h, List.length_cons, List.headD_cons, ← maskCount_eq_bitsSet]
    split
    · next hc =>
      refine .fits (by omega) ?_
      dsimp only
      split
      · exact .done _ _
      · exact .refused _ (by decide)
    · next hc => exact .unfit (by omega)

theorem served_reqSetPolicy :
    Served s (decide (1 ≤ f.payload.length ∧ f.payload.length = 1 + bitsSet (f.payload.headD 0#8)))
      (reqSetPolicy f s) := by
  unfold reqSetPolicy
  split
  · next h => exact .unfit (by simp [h])
  · next m rest h =>
    rw [h, List.length_cons, List.headD_cons, ← maskCount_eq_bitsSet]
    split
    · next hc =>
      refine .fits (by omega) ?_
      dsimp only
      split
      · exact .done _ _
      · exact .refused _ (by decide)
    · next hc => exact .unfit (by omega)

theorem served_reqStageMap :
    Served s (decide (2 ≤ f.payload.length ∧ f.payload.length ≤ 24 ∧ f.payload.length % 2 = 0)) (reqStageMap f s) := by
  have hlen := readTwos_length f.payload
  unfold reqStageMap
  split
  · next h =>
    rw [h] at hlen
    exact .unfit (by omega)
  · next l h =>
    rw [h] at hlen
    split
    · next hc =>
      refine .fits (by omega) ?_
      split
      · exact .refused _ (by decide)
      · exact .done _ _
    · next hc => exact .unfit (by omega)

theorem served_reqStageGang :
    Served s (decide (1 ≤ f.payload.length ∧ f.payload.length ≤ 5)) (reqStageGang f s) := by
  unfold reqStageGang
  split
  · next h => exact .unfit (by simp [h])
  · next b rest h =>
    rw [h, List.length_cons]
    split
    · refine .fits (by omega) ?_
      split
      · split
        · exact .refused _ (by decide)
        · exact .done _ _
      · exact .refused _ (by decide)
    · exact .unfit (by omega)

/-! ## The catalogue (R145, R202) -/

/-- What the Request Handler answers, by what R202 says of the kind and the length. -/
def Handled (s : State) (fits : Option Bool) (r : State × List Byte) : Prop :=
  match fits with
  | none => r = refuse s .unknownKind
  | some b => Served s b r

/-- R202 lists no other kinds. -/
theorem lengthFits_unknown {k : Byte} (h : k ∉ Config.catalogue) (d : List Byte) : lengthFits k d = none := by
  have hn : k.toNat ∉ Config.catalogue.map BitVec.toNat := fun hm => by
    obtain ⟨c, hc, e⟩ := List.mem_map.1 hm
    exact h (BitVec.eq_of_toNat_eq e ▸ hc)
  have hlist : Config.catalogue.map BitVec.toNat = [0x01, 0x02, 0x03, 0x04, 0x05, 0x06, 0x10, 0x11, 0x12, 0x20, 0x21,
    0x22, 0x23, 0x24, 0x30, 0x31, 0x32, 0x33, 0x34, 0x40, 0x50] := rfl
  simp only [hlist, List.mem_cons, List.not_mem_nil, or_false, not_or] at hn
  simp [lengthFits, hn]

/-- One kind of the catalogue. -/
theorem handled_withKind {k : Byte} {eff rest : Frame → State → State × List Byte} {b : Bool}
    (hk : lengthFits k f.payload = some b) (he : Served s b (eff f s))
    (hr : f.kind ≠ k → Handled s (lengthFits f.kind f.payload) (rest f s)) :
    Handled s (lengthFits f.kind f.payload) (withKind k eff rest f s) := by
  unfold withKind
  split
  · next h =>
    rw [h, hk]
    exact he
  · next h => exact hr h

theorem handled_handle : Handled s (lengthFits f.kind f.payload) (handle f s) := by
  unfold handle
  refine handled_withKind f s rfl (served_reqIdent f s) fun h01 => ?_
  refine handled_withKind f s rfl (served_reqStatus f s) fun h02 => ?_
  refine handled_withKind f s rfl (served_reqReadOutlet f s) fun h03 => ?_
  refine handled_withKind f s rfl (served_reqReadGang f s) fun h04 => ?_
  refine handled_withKind f s rfl (served_reqReadMeter f s) fun h05 => ?_
  refine handled_withKind f s rfl (served_reqReadQueue f s) fun h06 => ?_
  refine handled_withKind f s rfl (served_reqPowerOn f s) fun h10 => ?_
  refine handled_withKind f s rfl (served_reqPowerOff f s) fun h11 => ?_
  refine handled_withKind f s rfl (served_reqClearFault f s) fun h12 => ?_
  refine handled_withKind f s rfl (served_reqSetProfile f s) fun h20 => ?_
  refine handled_withKind f s rfl (served_reqSetGangProfile f s) fun h21 => ?_
  refine handled_withKind f s rfl (served_reqSetSupply f s) fun h22 => ?_
  refine handled_withKind f s rfl (served_reqSetPolicy f s) fun h23 => ?_
  refine handled_withKind f s rfl (served_reqSetLine f s) fun h24 => ?_
  refine handled_withKind f s rfl (served_reqStageMap f s) fun h30 => ?_
  refine handled_withKind f s rfl (served_reqStageGang f s) fun h31 => ?_
  refine handled_withKind f s rfl (served_reqApplyMap f s) fun h32 => ?_
  refine handled_withKind f s rfl (served_reqDiscardMap f s) fun h33 => ?_
  refine handled_withKind f s rfl (served_reqReadMap f s) fun h34 => ?_
  refine handled_withKind f s rfl (served_reqFetchNotices f s) fun h40 => ?_
  refine handled_withKind f s rfl (served_reqRestart f s) fun h50 => ?_
  have hk : f.kind ∉ Config.catalogue := by
    simp [Config.catalogue, h01, h02, h03, h04, h05, h06, h10, h11, h12, h20, h21, h22, h23, h24, h30, h31, h32, h33, h34,
      h40, h50]
  rw [lengthFits_unknown hk]
  rfl

end

/-- Settles O7: an unknown kind is no RESTART, so the command is taken by the catalogue. -/
theorem kindAndLengthChecks : Obligations.KindAndLengthChecks := by
  have hnone : ∀ (f : Frame) (s : State), lengthFits f.kind f.payload = none →
      handle f s = (s, [0x02#8, 0x01#8]) := fun f s h => by
    have hh := handled_handle f s
    rw [h] at hh
    exact hh
  refine ⟨fun seq kind payload s hlive hfit => ?_, hnone, fun f s h => ?_, fun f s h => ?_⟩
  · have hk : kind ≠ Config.kindRestart := fun e => by rw [e] at hfit; cases hfit
    have hexec : exec (.unknownKind seq kind payload) s = .next (asRequest kind handle seq payload s) :=
      congrArg Host.Outcome.next (if_neg hk)
    rw [hexec, asRequest_live kind handle seq payload hlive, hnone (mkFrame seq kind payload) s hfit]
  · have hh := handled_handle f s
    rw [h] at hh
    exact hh.badLength_of_unfit
  · have hh := handled_handle f s
    rw [h] at hh
    exact hh.not_checked

/-! ## Request commands (R144, R186, R187) -/

/-- A refused request leaves the state of every block as it was (R144). -/
theorem handle_refused {f : Frame} {s : State} (h : (handle f s).2.head? = some 0x02#8) : (handle f s).1 = s := by
  have hh := handled_handle f s
  cases hfit : lengthFits f.kind f.payload with
  | none =>
    rw [hfit] at hh
    rw [show handle f s = refuse s .unknownKind from hh]
    rfl
  | some b =>
    rw [hfit] at hh
    exact hh.state_of_refused h

/-- A request command but RESTART is the request event of its frame. -/
theorem exec_request {c : Instr} {s : State} {seq kind : Byte} {payload : List Byte}
    (hc : requestOf c = some (seq, kind, payload)) (hk : kind ≠ 0x50#8) (hlive : s.takesRequests = true) :
    exec c s =
      .next (answered seq kind payload (handle (mkFrame seq kind payload) s).2
        (handle (mkFrame seq kind payload) s).1) := by
  have hreq : ∀ {k : Byte} {eff : Frame → State → State × List Byte} {d : List Byte},
      eff (mkFrame seq k d) s = handle (mkFrame seq k d) s →
      asRequest k eff seq d s =
        answered seq k d (handle (mkFrame seq k d) s).2 (handle (mkFrame seq k d) s).1 := fun {k eff d} he => by
    rw [asRequest_live k eff seq d hlive, he]
  cases c with
  | restart q d =>
    cases hc
    exact absurd rfl hk
  | unknownKind q k d =>
    cases hc
    exact congrArg Host.Outcome.next ((if_neg hk).trans (hreq rfl))
  | ident | status | readOutlet | readGang | readMeter | readQueue | powerOn | powerOff | powerOffAll | clearFault
  | setProfile | setGangProfile | setSupply | setPolicy | setLine | stageMap | stageGang | applyMap | discardMap
  | readMap | fetchNotices =>
    cases hc
    exact congrArg Host.Outcome.next (hreq rfl)
  | _ => cases hc

/-- A well-formed command with RESTART's kind is RESTART. -/
theorem requestOf_restart {c : Instr} {seq : Byte} {payload : List Byte}
    (hc : requestOf c = some (seq, 0x50#8, payload)) (hw : c.wellFormed = true) : c = .restart seq payload := by
  cases c with
  | restart q d =>
    cases hc
    rfl
  | unknownKind q k d =>
    cases hc
    have hcat := (Bool.and_eq_true_iff.1 hw).2
    exact absurd hcat (by decide)
  | _ => cases hc

/-- A RESTART of an unaccepted length is refused as any other request is. -/
theorem exec_restart_refused {seq : Byte} {payload : List Byte} {s : State} (hlive : s.takesRequests = true)
    (hr : (handle (mkFrame seq 0x50#8 payload) s).2.head? = some 0x02#8) :
    exec (.restart seq payload) s =
      .next (answered seq 0x50#8 payload (handle (mkFrame seq 0x50#8 payload) s).2 s) := by
  have hh : handle (mkFrame seq 0x50#8 payload) s = reqRestart (mkFrame seq 0x50#8 payload) s := rfl
  have hrun : s.link.restarting = false := by
    rw [State.takesRequests, Bool.and_eq_true_iff] at hlive
    simpa using hlive.2
  cases payload with
  | nil => cases hr
  | cons b l =>
    rw [hh]
    refine congrArg Host.Outcome.next ?_
    simp [restartRequest, hlive, takeRequest, reqRestart, mkFrame, refuse, hrun, answered, Config.kindRestart]

/-- Settles O5: each command's effect is the one the catalogue has for its kind; what is refused changes nothing. -/
theorem requestCommandsAreRequestEvents : Obligations.RequestCommandsAreRequestEvents := by
  refine ⟨fun c s seq kind payload hc _ hk hlive => exec_request hc hk hlive,
    fun c s seq kind payload hc hw hlive hr => ?_⟩
  by_cases hk : kind = 0x50#8
  · subst hk
    rw [requestOf_restart hc hw]
    exact exec_restart_refused hlive hr
  · rw [exec_request hc hk hlive, handle_refused hr]

end Sys2Proof.Machine
end


/-! # Requests that report, and target checks (O19, O20, O22) -/

section
namespace Sys2Proof.Machine

open Sys2Proof.Safety

/-- A request command answers what the catalogue gives for its frame. -/
theorem exec_answered {c : Instr} {s t : State} {seq kind : Byte} {payload reply : List Byte}
    (hc : requestOf c = some (seq, kind, payload)) (hk : kind ≠ 0x50#8) (hlive : s.takesRequests = true)
    (h : handle (mkFrame seq kind payload) s = (t, reply)) :
    exec c s = .next (answered seq kind payload reply t) := by
  rw [exec_request hc hk hlive, h]

/-! ## IDENT and STATUS (R160, R161) -/

theorem lineStates_eq (s : State) :
    s.lineStates = if s.eoff = true then (if s.hold = true then 0x03#8 else 0x01#8)
      else (if s.hold = true then 0x02#8 else 0x00#8) := by
  unfold State.lineStates
  cases s.eoff <;> cases s.hold <;> rfl

theorem average_eq (o : OutletRec) : o.average = if o.ring.length = 8 then some (o.ring.sum / 8) else none := by
  by_cases h : o.ring.length = 8 <;> simp [OutletRec.average, OutletRec.ready, Config.ringSize, h]

/-- An average that is absent counts as 0 in the metered total (R88, R91). -/
theorem meteredTotal_eq (s : State) :
    s.meteredTotal = ((allOutlets.filter fun p => decide ((s.outlet p).ring.length = 8)).map
      fun p => (s.outlet p).ring.sum / 8).sum := by
  unfold State.meteredTotal
  generalize allOutlets = l
  induction l with
  | nil => rfl
  | cons p l ih =>
    rw [List.map_cons, List.sum_cons, ih, average_eq]
    by_cases h : (s.outlet p).ring.length = 8 <;> simp [h]

theorem openCount_eq (ns : List Notice) : openCount ns = (ns.filter fun n => decide (n.status = .opened)).length := rfl

/-- The status record in the words of appendix A.6. -/
theorem statusRecord_eq (s : State) :
    s.statusRecord =
      be16 s.budget ++ be16 s.held ++ be16 s.active ++ be16 s.reserve ++
        [flagByte (s.supply 0).good] ++ be16 (s.supply 0).capacity ++
        [flagByte (s.supply 1).good] ++ be16 (s.supply 1).capacity ++
        [s.lineStates, byte s.queue.length] ++ s.claimBytes ++
        [byte (openCount s.notices), byte s.slotsPending, byte s.slotsComplete] ++
        be16 s.meteredTotal ++ [byte s.meteredCount] := by
  simp [State.statusRecord]

/-- Settles O19. -/
theorem identAndStatusReport : Obligations.IdentAndStatusReport := by
  refine ⟨fun seq s hlive => exec_answered rfl (by decide) hlive rfl, fun seq s hlive => ?_⟩
  refine exec_answered rfl (by decide) hlive ?_
  show (s, done s.statusRecord) = _
  rw [statusRecord_eq, lineStates_eq, claimBytes_eq, meteredTotal_eq]
  refine congrArg (Prod.mk s) ?_
  cases hc : s.claim with
  | none => rfl
  | some c =>
    obtain ⟨f, a⟩ := c
    cases f <;> rfl

/-! ## Records (R24, R162, R163) -/

/-- The bytes of a profile, field by field (appendix A.6). -/
theorem profile_bytes_eq (r : Profile) :
    r.bytes =
      be16 (profileValue 1 r) ++ [byte (profileValue 2 r), byte (profileValue 3 r)] ++ be16 (profileValue 4 r) ++
        ([5, 6, 7, 8, 9, 10, 11, 12, 13, 14].map fun id => byte (profileValue id r)) ++
        be16 (profileValue 15 r) ++ be16 (profileValue 16 r) := by
  have hstart : codeStartMode r.startMode = byte (profileValue 3 r) := by
    unfold profileValue
    cases r.startMode <;> rfl
  have htrip : codeTripMode r.tripMode = byte (profileValue 7 r) := by
    unfold profileValue
    cases r.tripMode <;> rfl
  have hshed : codeShedPolicy r.shedPolicy = byte (profileValue 12 r) := by
    unfold profileValue
    cases r.shedPolicy <;> rfl
  have hcheck : flagByte r.overdrawCheck = byte (profileValue 13 r) := by
    unfold profileValue
    cases r.overdrawCheck <;> rfl
  unfold Profile.bytes
  rw [hstart, htrip, hshed, hcheck]
  rfl

/-- A member's record shows a count of 0 and no pending operation (R24). -/
theorem countOf_eq (s : State) (p : OutletId) :
    byte (s.countOf p) = if s.feedOf p = some (.solo p) then byte (s.outlet p).own.count else 0x00#8 := by
  unfold State.countOf
  split
  · next q h =>
    obtain rfl := feedOf_solo h
    rw [if_pos h]
  · next h => rw [if_neg (h p)]; rfl

theorem opOf_eq (s : State) (p : OutletId) :
    codeSlot (s.opOf p) = if s.feedOf p = some (.solo p) then codeSlot (s.outlet p).own.op else 0x00#8 := by
  unfold State.opOf
  split
  · next q h =>
    obtain rfl := feedOf_solo h
    rw [if_pos h]
  · next h => rw [if_neg (h p)]; rfl

theorem outletRecord_eq (s : State) (p : OutletId) :
    s.outletRecord p =
      [flagByte (s.outlet p).grantStamp.isSome, byte (p.val + 1), byte ((s.logicalOf p).getD 0),
          codeGang (s.gangOf p)] ++
        [codeOutletState (s.outletState p), (s.outletState p).causeByte, (s.outletState p).destByte] ++
        be16 (s.outlet p).alloc ++ [flagByte (s.outlet p).presence] ++ be16 ((s.outlet p).grantStamp.getD 0) ++
        [byte (s.countOf p), codeFaultCause (s.outlet p).lastCause, codeSlot (s.opOf p)] ++
        (s.outlet p).profile.bytes := rfl

theorem gangRecord_eq (s : State) (g : GangId) :
    s.gangRecord g =
      [byte (g.val + 1), byte ((s.membersOf g).getD []).length] ++
        ((s.membersOf g).getD []).map (fun p => byte (p.val + 1)) ++
        List.replicate (4 - ((s.membersOf g).getD []).length) 0x00#8 ++
        (if (s.membersOf g).isSome = true then
          [codeFeedState (s.gang g).own.state, codeCauseOf (s.gang g).own.state, codeDestOf (s.gang g).own.state]
        else [0x00#8, 0x00#8, 0x00#8]) ++
        [byte (s.gang g).own.count, codePhysical (s.gang g).lastMember, codeSlot (s.gang g).own.op] ++
        be16 (((s.membersOf g).getD []).map fun p => (s.outlet p).profile.request).sum ++
        ([1, 2, 3, 4].map fun id => byte (gangValue id (s.gang g).profile)) := by
  have hshed : codeShedPolicy (s.gang g).profile.shedPolicy = byte (gangValue 4 (s.gang g).profile) := by
    unfold gangValue
    cases (s.gang g).profile.shedPolicy <;> rfl
  unfold State.gangRecord memberBytes
  dsimp only
  rw [hshed]
  cases hd : (s.membersOf g).isSome <;> simp [State.requestAmount, State.outletsOf, gangValue]

/-! ## READ_METER (R88 to R90) -/

theorem meterRecord_eq (p : OutletId) (o : OutletRec) :
    meterRecord p o =
      [byte (p.val + 1), byte o.ring.length,
          if o.ring.length = 8 then (if o.latest.isSome = true then 0x03#8 else 0x01#8)
          else (if o.latest.isSome = true then 0x02#8 else 0x00#8)] ++
        be16 (if o.ring.length = 8 then o.ring.sum / 8 else 0) ++
        (match o.latest with
          | some (x, .up) => be16 x ++ [0x01#8]
          | some (x, .mid) => be16 x ++ [0x02#8]
          | some (x, .down) => be16 x ++ [0x03#8]
          | none => [0x00#8, 0x00#8, 0x00#8]) ++ be16 o.peak := by
  have hflags : flagByte o.ready ||| (flagByte o.latest.isSome <<< 1) =
      if o.ring.length = 8 then (if o.latest.isSome = true then 0x03#8 else 0x01#8)
      else (if o.latest.isSome = true then 0x02#8 else 0x00#8) := by
    by_cases h : o.ring.length = 8 <;> cases o.latest.isSome <;>
      simp [OutletRec.ready, Config.ringSize, h, flagByte]
  have havg : o.average.getD 0 = if o.ring.length = 8 then o.ring.sum / 8 else 0 := by
    rw [average_eq]
    split <;> rfl
  unfold meterRecord
  rw [hflags, havg]
  rcases o.latest with _ | ⟨x, _ | _ | _⟩ <;> rfl

theorem peakAfterRead_eq (o : OutletRec) : peakAfterRead o = (o.latest.map Prod.fst).getD 0 := by
  unfold peakAfterRead
  cases o.latest <;> rfl

/-- Settles O20: each target names its outlet or gang, and the reply is the record. -/
theorem recordsAndMetersAreRead : Obligations.RecordsAndMetersAreRead := by
  refine ⟨⟨fun seq b p s hlive hb => ?_, fun seq g s hlive => ?_⟩, fun seq b p s hlive hb => ?_⟩
  · refine exec_answered rfl (by decide) hlive ?_
    have hreq : reqReadOutlet (mkFrame seq 0x03#8 [b]) s = (s, done (s.outletRecord p)) := by
      simp [reqReadOutlet, mkFrame, outletTarget_of_names hb]
    show reqReadOutlet (mkFrame seq 0x03#8 [b]) s = _
    rw [hreq, outletRecord_eq, countOf_eq, opOf_eq, profile_bytes_eq]
    by_cases hsolo : s.feedOf p = some (.solo p) <;> cases s.outletState p <;>
      simp [done, hsolo, codeOutletState, OutletState.causeByte, OutletState.destByte]
  · refine exec_answered rfl (by decide) hlive ?_
    have hreq : reqReadGang (mkFrame seq 0x04#8 [byte (0x81 + g.val)]) s = (s, done (s.gangRecord g)) := by
      simp [reqReadGang, mkFrame, gangTarget_byte]
    show reqReadGang (mkFrame seq 0x04#8 [byte (0x81 + g.val)]) s = _
    rw [hreq, gangRecord_eq]
    rfl
  · refine exec_answered rfl (by decide) hlive ?_
    have hreq : reqReadMeter (mkFrame seq 0x05#8 [b]) s =
        (updOutlet p (fun o => { o with peak := peakAfterRead o }) s, done (meterRecord p (s.outlet p))) := by
      simp [reqReadMeter, mkFrame, outletTarget_of_names hb]
    show reqReadMeter (mkFrame seq 0x05#8 [b]) s = _
    rw [hreq, meterRecord_eq]
    simp only [updOutlet, peakAfterRead_eq, decide_eq_true_eq]
    rfl

/-! ## Target checks (R146) -/

theorem readTarget_logical {b : Byte} (h : 1 ≤ b.toNat ∧ b.toNat ≤ 12) : readTarget b = .logical b.toNat := if_pos h

theorem readTarget_gang {b : Byte} {g : GangId} (h : b.toNat = 0x81 + g.val) : readTarget b = .gang g := by
  have hg : Fin.ofNat 4 (b.toNat - 0x81) = g := Fin.ext (by simp [h])
  rw [readTarget, if_neg (by omega), if_neg (by omega), if_pos (by omega), hg]

/-- A byte outside the logical numbers and the gang numbers. -/
theorem readTarget_elsewhere {b : Byte}
    (h : ¬ ((1 ≤ b.toNat ∧ b.toNat ≤ 12) ∨ (0x81 ≤ b.toNat ∧ b.toNat ≤ 0x84))) :
    readTarget b =
      if 0x41 ≤ b.toNat ∧ b.toNat ≤ 0x4C then .physical (Fin.ofNat 12 (b.toNat - 0x41))
      else if b.toNat = 0xFF then .all else .bad := by
  rw [readTarget, if_neg (by omega), if_neg (c := 0x81 ≤ b.toNat ∧ b.toNat ≤ 0x84) (by omega)]

theorem readTarget_ne_all {b : Byte} (h : b.toNat ≠ 0xFF) : readTarget b ≠ .all := by
  unfold readTarget
  dsimp only
  split_ifs <;> nofun

theorem outletOfLogical_none {s : State} {n : Nat} (h : ∀ q, s.logicalOf q ≠ some n) : s.outletOfLogical n = none :=
  List.find?_eq_none.2 fun q _ => by simpa using h q

/-- A byte that names no outlet is no target of an outlet request. -/
theorem outletTarget_none {s : State} {b : Byte} (h : namesNoOutlet s b) : s.outletTarget b = none := by
  obtain ⟨hphys, hlog⟩ := h
  by_cases h12 : 1 ≤ b.toNat ∧ b.toNat ≤ 12
  · rw [State.outletTarget, readTarget_logical h12]
    exact outletOfLogical_none (hlog h12)
  · unfold State.outletTarget readTarget
    rw [if_neg h12, if_neg hphys]
    split_ifs <;> rfl

theorem gangTarget_none {b : Byte} (h : ¬ (0x81 ≤ b.toNat ∧ b.toNat ≤ 0x84)) : gangTarget b = none := by
  unfold gangTarget readTarget
  dsimp only
  rw [if_neg (c := 0x81 ≤ b.toNat ∧ b.toNat ≤ 0x84) h]
  split_ifs <;> rfl

/-- The logical number of a gang's member is no target of a power request. -/
theorem feedTarget_inGang {s : State} {b : Byte} {p : OutletId} (h12 : 1 ≤ b.toNat ∧ b.toNat ≤ 12)
    (hlog : s.logicalOf p = some b.toNat) (hone : ∀ q, s.logicalOf q = some b.toNat → q = p)
    (hg : (s.gangOf p).isSome = true) : s.feedTarget b = .error .inGang := by
  obtain ⟨g, hg⟩ := Option.isSome_iff_exists.1 hg
  simp [State.feedTarget, readTarget_logical h12, outletOfLogical_eq hlog hone, hg]

/-- What else is no target of a power request. -/
theorem feedTarget_bad {s : State} {b : Byte}
    (h : (1 ≤ b.toNat ∧ b.toNat ≤ 12 ∧ ∀ q, s.logicalOf q ≠ some b.toNat) ∨
      (∃ g : GangId, b.toNat = 0x81 + g.val ∧ s.membersOf g = none) ∨
      ¬ ((1 ≤ b.toNat ∧ b.toNat ≤ 12) ∨ (0x81 ≤ b.toNat ∧ b.toNat ≤ 0x84))) :
    s.feedTarget b = .error .badTarget := by
  rcases h with ⟨h1, h12, hlog⟩ | ⟨g, hb, hg⟩ | h
  · simp [State.feedTarget, readTarget_logical ⟨h1, h12⟩, outletOfLogical_none hlog]
  · simp [State.feedTarget, readTarget_gang hb, hg]
  · rw [State.feedTarget, readTarget_elsewhere h]
    split_ifs <;> rfl

section
variable {s : State} {b : Byte} {q : Reason} (seq : Byte) (hlive : s.takesRequests = true)
include hlive

/-- What the target check refuses of the power requests. -/
theorem exec_powerRequests_refused (h : s.feedTarget b = .error q) :
    exec (.powerOn seq [b]) s = .next (answered seq 0x10#8 [b] (refusedWith q []) s) ∧
      (b.toNat ≠ 0xFF → exec (.powerOff seq [b]) s = .next (answered seq 0x11#8 [b] (refusedWith q []) s)) ∧
      exec (.clearFault seq [b]) s = .next (answered seq 0x12#8 [b] (refusedWith q []) s) := by
  refine ⟨exec_answered rfl (by decide) hlive ?_, fun hall => exec_answered rfl (by decide) hlive ?_,
    exec_answered rfl (by decide) hlive ?_⟩
  · show reqPowerOn (mkFrame seq 0x10#8 [b]) s = _
    simp [reqPowerOn, mkFrame, h, refuse]
  · show reqPowerOff (mkFrame seq 0x11#8 [b]) s = _
    simp [reqPowerOff, mkFrame, h, refuse, readTarget_ne_all hall]
  · show reqClearFault (mkFrame seq 0x12#8 [b]) s = _
    simp [reqClearFault, mkFrame, h, refuse]

/-- What the target check refuses of the outlet requests. -/
theorem exec_outletRequests_refused (h : s.outletTarget b = none) :
    exec (.readOutlet seq [b]) s = .next (answered seq 0x03#8 [b] (refusedWith .badTarget []) s) ∧
      exec (.readMeter seq [b]) s = .next (answered seq 0x05#8 [b] (refusedWith .badTarget []) s) ∧
      ∀ id hi lo, exec (.setProfile seq [b, id, hi, lo]) s =
        .next (answered seq 0x20#8 [b, id, hi, lo] (refusedWith .badTarget []) s) := by
  refine ⟨exec_answered rfl (by decide) hlive ?_, exec_answered rfl (by decide) hlive ?_,
    fun id hi lo => exec_answered rfl (by decide) hlive ?_⟩
  · show reqReadOutlet (mkFrame seq 0x03#8 [b]) s = _
    simp [reqReadOutlet, mkFrame, h, refuse]
  · show reqReadMeter (mkFrame seq 0x05#8 [b]) s = _
    simp [reqReadMeter, mkFrame, h, refuse]
  · show reqSetProfile (mkFrame seq 0x20#8 [b, id, hi, lo]) s = _
    simp [reqSetProfile, mkFrame, readPairs, pairCount, h, refuse]

/-- What the target check refuses of the gang requests. -/
theorem exec_gangRequests_refused (h : gangTarget b = none) :
    exec (.readGang seq [b]) s = .next (answered seq 0x04#8 [b] (refusedWith .badTarget []) s) ∧
      ∀ id hi lo, exec (.setGangProfile seq [b, id, hi, lo]) s =
        .next (answered seq 0x21#8 [b, id, hi, lo] (refusedWith .badTarget []) s) := by
  refine ⟨exec_answered rfl (by decide) hlive ?_, fun id hi lo => exec_answered rfl (by decide) hlive ?_⟩
  · show reqReadGang (mkFrame seq 0x04#8 [b]) s = _
    simp [reqReadGang, mkFrame, h, refuse]
  · show reqSetGangProfile (mkFrame seq 0x21#8 [b, id, hi, lo]) s = _
    simp [reqSetGangProfile, mkFrame, readPairs, pairCount, h, refuse]

end

/-- Settles O22: each byte's reading as a target decides. -/
theorem targetsAreChecked : Obligations.TargetsAreChecked := by
  refine ⟨fun seq b s hlive hb => exec_outletRequests_refused seq hlive (outletTarget_none hb),
    fun seq b s hlive hb => exec_gangRequests_refused seq hlive (gangTarget_none hb),
    fun seq b s p hlive h1 h12 hlog hone hg => ?_,
    fun seq b s hlive hb => exec_powerRequests_refused seq hlive (feedTarget_bad hb)⟩
  obtain ⟨hon, hoff, hclear⟩ := exec_powerRequests_refused seq hlive (feedTarget_inGang ⟨h1, h12⟩ hlog hone hg)
  exact ⟨hon, hoff (by omega), hclear⟩

end Sys2Proof.Machine
end


/-! # Lists of profile pairs: checked in two rounds, written in order (O23, O24) -/

section
namespace Sys2Proof.Machine

open Sys2Proof.Safety

/-! ## The bytes of pairs (R155, R202) -/

/-- The payload bytes of pairs. -/
def profilePairBytes (l : List (Byte × Nat)) : List Byte := l.flatMap fun x => x.1 :: be16 x.2

theorem readPairs_profilePairBytes {l : List (Byte × Nat)} (h : ∀ x ∈ l, x.2 < 65536) :
    readPairs (profilePairBytes l) = some l := by
  induction l with
  | nil => rfl
  | cons x l ih =>
    have hl := ih fun y hy => h y (by simp [hy])
    have hx := num16_be16 (h x (by simp))
    have hbytes : profilePairBytes (x :: l) = x.1 :: byte (x.2 / 256) :: byte x.2 :: profilePairBytes l := rfl
    rw [hbytes, readPairs, hl, hx]

/-! ## The first round (R155, R157), for outlets and gangs alike -/

section
variable {α : Type} (field : Byte → Option α) (ok : α → Nat → Bool)

/-- A pair names a field and its value is in the field's range. -/
def PairOk (x : Byte × Nat) : Prop := ∃ f, field x.1 = some f ∧ ok f x.2 = true

/-- The first round: the pairs with their fields, or the identifier of the first pair that is not in order. -/
def checkRound : List (Byte × Nat) → Except Byte (List (Byte × α × Nat))
  | [] => .ok []
  | (id, v) :: rest =>
    match field id with
    | none => .error id
    | some f =>
      if ok f v then
        match checkRound rest with
        | .ok l => .ok ((id, f, v) :: l)
        | .error e => .error e
      else .error id

theorem checkRound_error {front : List (Byte × Nat)} (back : List (Byte × Nat)) {x : Byte × Nat}
    (hf : ∀ y ∈ front, PairOk field ok y) (hx : ¬ PairOk field ok x) :
    checkRound field ok (front ++ x :: back) = .error x.1 := by
  induction front with
  | nil =>
    rw [List.nil_append, checkRound]
    cases hid : field x.1 with
    | none => rfl
    | some f =>
      have hno : ok f x.2 = false := Bool.eq_false_iff.2 fun h => hx ⟨f, hid, h⟩
      simp [hno]
  | cons y front ih =>
    obtain ⟨f, hid, hok⟩ := hf y (by simp)
    rw [List.cons_append, checkRound, hid]
    simp [hok, ih fun z hz => hf z (by simp [hz])]

/-- Pairs in order come out of the round with their fields. -/
theorem checkRound_ok {l : List (Byte × Nat)} (hl : ∀ y ∈ l, PairOk field ok y) :
    ∃ ws, checkRound field ok l = .ok ws ∧ l = ws.map (fun w => (w.1, w.2.2)) ∧
      ∀ w ∈ ws, field w.1 = some w.2.1 ∧ ok w.2.1 w.2.2 = true := by
  induction l with
  | nil => exact ⟨[], rfl, rfl, by simp⟩
  | cons y l ih =>
    obtain ⟨f, hid, hok⟩ := hl y (by simp)
    obtain ⟨ws, hws, hmap, hfields⟩ := ih fun z hz => hl z (by simp [hz])
    refine ⟨(y.1, f, y.2) :: ws, ?_, by rw [List.map_cons, ← hmap], ?_⟩
    · rw [checkRound, hid]
      simp [hok, hws]
    · rintro w (_ | ⟨_, hw⟩)
      · exact ⟨hid, hok⟩
      · exact hfields w hw

/-- The second round finds the first pair that may not change now. -/
theorem find_notAllowed {allowed : α → Bool} {ws : List (Byte × α × Nat)} {front back : List (Byte × Nat)}
    {x : Byte × Nat} (hmap : front ++ x :: back = ws.map (fun w => (w.1, w.2.2)))
    (hfields : ∀ w ∈ ws, field w.1 = some w.2.1 ∧ ok w.2.1 w.2.2 = true)
    (hf : ∀ y ∈ front, ∀ f, field y.1 = some f → allowed f = true)
    (hx : ∀ f, field x.1 = some f → allowed f = false) :
    (ws.find? fun w => !allowed w.2.1).map Prod.fst = some x.1 := by
  obtain ⟨wf, wr, rfl, hwf, hwr⟩ := List.map_eq_append_iff.1 hmap.symm
  obtain ⟨w, wb, rfl, hw, -⟩ := List.map_eq_cons_iff.1 hwr
  have hnone : wf.find? (fun w => !allowed w.2.1) = none := List.find?_eq_none.2 fun z hz => by
    have hzf : (z.1, z.2.2) ∈ front := hwf ▸ List.mem_map_of_mem hz
    simp [hf _ hzf z.2.1 (hfields z (by simp [hz])).1]
  have hid : w.1 = x.1 := congrArg Prod.fst hw
  have hbad := hx w.2.1 (hid ▸ (hfields w (by simp)).1)
  simp [List.find?_append, hnone, hbad, hid]

end

theorem checkPairs_eq (l : List (Byte × Nat)) : checkPairs l = checkRound profileField fieldInRange l := by
  induction l with
  | nil => rfl
  | cons x l ih =>
    rw [checkPairs, checkRound, ih]
    cases profileField x.1 with
    | none => rfl
    | some f => cases checkRound profileField fieldInRange l <;> rfl

theorem checkGangPairs_eq (l : List (Byte × Nat)) : checkGangPairs l = checkRound gangField gangFieldInRange l := by
  induction l with
  | nil => rfl
  | cons x l ih =>
    rw [checkGangPairs, checkRound, ih]
    cases gangField x.1 with
    | none => rfl
    | some f => cases checkRound gangField gangFieldInRange l <;> rfl

/-! ## Fields and their identifiers (appendix A.3) -/

/-- The identifier of an outlet profile field. -/
def ProfileField.id : ProfileField → Nat
  | .request => 1
  | .priority => 2
  | .startMode => 3
  | .debounce => 4
  | .ramp => 5
  | .blanking => 6
  | .tripMode => 7
  | .width => 8
  | .pairWindow => 9
  | .threshold => 10
  | .stability => 11
  | .shedPolicy => 12
  | .overdrawCheck => 13
  | .overdrawMargin => 14
  | .overdrawWindow => 15
  | .discharge => 16

/-- The identifier of a gang profile field. -/
def GangField.id : GangField → Nat
  | .priority => 1
  | .threshold => 2
  | .stability => 3
  | .shedPolicy => 4

theorem profileField_iff (b : Byte) (f : ProfileField) : profileField b = some f ↔ b.toNat = f.id := by
  unfold profileField
  constructor
  · intro h
    split at h <;> cases h <;> assumption
  · intro h
    rw [h]
    cases f <;> rfl

theorem gangField_iff (b : Byte) (f : GangField) : gangField b = some f ↔ b.toNat = f.id := by
  unfold gangField
  constructor
  · intro h
    split at h <;> cases h <;> assumption
  · intro h
    rw [h]
    cases f <;> rfl

theorem fieldInRange_iff (f : ProfileField) (v : Nat) : fieldInRange f v = true ↔ valueInRange f.id v := by
  cases f <;> simp [fieldInRange, inRange, valueInRange, ProfileField.id]

theorem gangFieldInRange_iff (f : GangField) (v : Nat) : gangFieldInRange f v = true ↔ gangValueInRange f.id v := by
  cases f <;> simp [gangFieldInRange, inRange, gangValueInRange, GangField.id]

theorem profileField_none {b : Byte} (h : profileField b = none) : ¬ (1 ≤ b.toNat ∧ b.toNat ≤ 16) := by
  rintro ⟨h1, h16⟩
  unfold profileField at h
  generalize b.toNat = n at h h1 h16
  interval_cases n <;> cases h

theorem gangField_none {b : Byte} (h : gangField b = none) : ¬ (1 ≤ b.toNat ∧ b.toNat ≤ 4) := by
  rintro ⟨h1, h4⟩
  unfold gangField at h
  generalize b.toNat = n at h h1 h4
  interval_cases n <;> cases h

theorem pairOk_iff (x : Byte × Nat) : PairOk profileField fieldInRange x ↔ valueInRange x.1.toNat x.2 := by
  constructor
  · rintro ⟨f, hf, hv⟩
    rw [(profileField_iff _ f).1 hf]
    exact (fieldInRange_iff f _).1 hv
  · intro h
    cases hf : profileField x.1 with
    | none => exact absurd (by unfold valueInRange at h; omega) (profileField_none hf)
    | some f => exact ⟨f, hf, (fieldInRange_iff f _).2 ((profileField_iff _ f).1 hf ▸ h)⟩

theorem gangPairOk_iff (x : Byte × Nat) : PairOk gangField gangFieldInRange x ↔ gangValueInRange x.1.toNat x.2 := by
  constructor
  · rintro ⟨f, hf, hv⟩
    rw [(gangField_iff _ f).1 hf]
    exact (gangFieldInRange_iff f _).1 hv
  · intro h
    cases hf : gangField x.1 with
    | none => exact absurd (by unfold gangValueInRange at h; omega) (gangField_none hf)
    | some f => exact ⟨f, hf, (gangFieldInRange_iff f _).2 ((gangField_iff _ f).1 hf ▸ h)⟩

/-! ## Fields that may change now (R3, R120) -/

theorem fixesThreshold_iff (st : FeedState) :
    st.fixesThreshold = true ↔ st = .retryWait ∨ ∃ c d, st = .stopping c d := by
  cases st <;> simp [FeedState.fixesThreshold]

theorem fieldAllowed_iff (s : State) (p : OutletId) (f : ProfileField) :
    fieldAllowed f (s.outletState p) = true ↔ valueAllowed s p f.id := by
  unfold fieldAllowed valueAllowed outletHolding
  cases hst : s.outletState p with
  | unmapped => simp
  | mapped st =>
    have hfix : (!st.fixesThreshold) = true ↔
        OutletState.mapped st ≠ .mapped .retryWait ∧ ∀ c d, OutletState.mapped st ≠ .mapped (.stopping c d) := by
      rw [Bool.not_eq_true', Bool.eq_false_iff, ne_eq, fixesThreshold_iff]
      simp
    cases f with
    | threshold => simpa [ProfileField.id] using hfix
    | _ => simp [ProfileField.id]

theorem gangFieldAllowed_iff (s : State) (g : GangId) (f : GangField) :
    s.gangFieldAllowed g f = true ↔ (f.id = 2 → ¬ ((s.membersOf g).isSome = true ∧
      ((s.gang g).own.state = .retryWait ∨ ∃ c d, (s.gang g).own.state = .stopping c d))) := by
  rw [← fixesThreshold_iff]
  cases f with
  | threshold =>
    simp only [State.gangFieldAllowed, GangField.id]
    cases (s.membersOf g).isSome <;> cases (s.gang g).own.state.fixesThreshold <;> simp
  | _ => simp [State.gangFieldAllowed, GangField.id]

/-! ## The requests (R155, R157) -/

theorem reqSetProfile_pairs {fr : Frame} {s : State} {b : Byte} {p : OutletId} {l : List (Byte × Nat)}
    (hpay : fr.payload = b :: profilePairBytes l) (hb : s.outletTarget b = some p) (hv : ∀ x ∈ l, x.2 < 65536)
    (h1 : 1 ≤ l.length) (h8 : l.length ≤ 8) : reqSetProfile fr s = setProfileOf p l s := by
  simp [reqSetProfile, hpay, readPairs_profilePairBytes hv, pairCount, hb, h1, h8]

theorem reqSetGangProfile_pairs {fr : Frame} {s : State} {b : Byte} {g : GangId} {l : List (Byte × Nat)}
    (hpay : fr.payload = b :: profilePairBytes l) (hb : gangTarget b = some g) (hv : ∀ x ∈ l, x.2 < 65536)
    (h1 : 1 ≤ l.length) (h4 : l.length ≤ 4) : reqSetGangProfile fr s = setGangProfileOf g l s := by
  simp [reqSetGangProfile, hpay, readPairs_profilePairBytes hv, pairCount, hb, h1, h4]

section
variable {s : State} {front back : List (Byte × Nat)} {x : Byte × Nat}

theorem setProfileOf_badValue (p : OutletId) (hf : ∀ y ∈ front, valueInRange y.1.toNat y.2)
    (hx : ¬ valueInRange x.1.toNat x.2) :
    setProfileOf p (front ++ x :: back) s = (s, refusedWith .badValue [x.1]) := by
  rw [setProfileOf, checkPairs_eq, checkRound_error profileField fieldInRange back
    (fun y hy => (pairOk_iff y).2 (hf y hy)) (mt (pairOk_iff x).1 hx)]

theorem setProfileOf_state (p : OutletId) (hl : ∀ y ∈ front ++ x :: back, valueInRange y.1.toNat y.2)
    (hf : ∀ y ∈ front, valueAllowed s p y.1.toNat) (hx : ¬ valueAllowed s p x.1.toNat) :
    setProfileOf p (front ++ x :: back) s = (s, refusedWith .state [x.1]) := by
  obtain ⟨ws, hws, hmap, hfields⟩ := checkRound_ok profileField fieldInRange fun y hy => (pairOk_iff y).2 (hl y hy)
  have hfind := find_notAllowed profileField fieldInRange (allowed := fun f => fieldAllowed f (s.outletState p)) hmap
    hfields (fun y hy f hid => (fieldAllowed_iff s p f).2 ((profileField_iff _ f).1 hid ▸ hf y hy))
    fun f hid => Bool.eq_false_iff.2 fun h => hx ((profileField_iff _ f).1 hid ▸ (fieldAllowed_iff s p f).1 h)
  obtain ⟨w, hw, hid⟩ := Option.map_eq_some_iff.1 hfind
  rw [setProfileOf, checkPairs_eq, hws]
  simp only [hw, hid]

theorem setGangProfileOf_badValue (g : GangId) (hf : ∀ y ∈ front, gangValueInRange y.1.toNat y.2)
    (hx : ¬ gangValueInRange x.1.toNat x.2) :
    setGangProfileOf g (front ++ x :: back) s = (s, refusedWith .badValue [x.1]) := by
  rw [setGangProfileOf, checkGangPairs_eq, checkRound_error gangField gangFieldInRange back
    (fun y hy => (gangPairOk_iff y).2 (hf y hy)) (mt (gangPairOk_iff x).1 hx)]

theorem setGangProfileOf_state (g : GangId) (hl : ∀ y ∈ front ++ x :: back, gangValueInRange y.1.toNat y.2)
    (hf : ∀ y ∈ front, y.1.toNat ≠ 2) (hx : x.1.toNat = 2)
    (hfix : (s.membersOf g).isSome = true ∧
      ((s.gang g).own.state = .retryWait ∨ ∃ c d, (s.gang g).own.state = .stopping c d)) :
    setGangProfileOf g (front ++ x :: back) s = (s, refusedWith .state [x.1]) := by
  obtain ⟨ws, hws, hmap, hfields⟩ :=
    checkRound_ok gangField gangFieldInRange fun y hy => (gangPairOk_iff y).2 (hl y hy)
  have hfind := find_notAllowed gangField gangFieldInRange (allowed := s.gangFieldAllowed g) hmap hfields
    (fun y hy f hid => (gangFieldAllowed_iff s g f).2 fun h2 => absurd (((gangField_iff _ f).1 hid).trans h2) (hf y hy))
    fun f hid => Bool.eq_false_iff.2 fun h =>
      (gangFieldAllowed_iff s g f).1 h (((gangField_iff _ f).1 hid).symm.trans hx) hfix
  obtain ⟨w, hw, hid⟩ := Option.map_eq_some_iff.1 hfind
  rw [setGangProfileOf, checkGangPairs_eq, hws]
  simp only [hw, hid]

end

/-- Settles O23: the rounds stop at the pair, and the state is the one before. -/
theorem pairsAreCheckedInRounds : Obligations.PairsAreCheckedInRounds := by
  refine ⟨fun seq b p s front back id v => ?_, fun seq g s front back id v => ?_⟩
  · intro l payload hlive hb hlen hv
    have hreq : reqSetProfile (mkFrame seq 0x20#8 payload) s = setProfileOf p l s :=
      reqSetProfile_pairs rfl (outletTarget_of_names hb) hv (by rw [List.length_append, List.length_cons]; omega) hlen
    refine ⟨fun hf hx => exec_answered rfl (by decide) hlive ?_,
      fun hl hf hx => exec_answered rfl (by decide) hlive ?_⟩
    · exact hreq.trans (setProfileOf_badValue p hf hx)
    · exact hreq.trans (setProfileOf_state p hl hf hx)
  · intro l payload fixed hlive hlen hv
    have hreq : reqSetGangProfile (mkFrame seq 0x21#8 payload) s = setGangProfileOf g l s :=
      reqSetGangProfile_pairs rfl (gangTarget_byte g) hv (by rw [List.length_append, List.length_cons]; omega) hlen
    refine ⟨fun hf hx => exec_answered rfl (by decide) hlive ?_,
      fun hl hf hx hfix => exec_answered rfl (by decide) hlive ?_⟩
    · exact hreq.trans (setGangProfileOf_badValue g hf hx)
    · exact hreq.trans (setGangProfileOf_state g hl hf hx hfix)

end Sys2Proof.Machine
end


/-! # One field written and the record read back (O24) -/

section
namespace Sys2Proof.Machine

open Sys2Proof.Safety

/-! ## One field written (R3, R120) -/

theorem profileValue_writeField {f : ProfileField} {v : Nat} (hv : fieldInRange f v = true) (r : Profile) {n : Nat}
    (hn : 1 ≤ n ∧ n ≤ 16) :
    profileValue n (writeField f v r) = if f.id = n then v else profileValue n r := by
  obtain ⟨h1, h16⟩ := hn
  have hcode : f.id ∈ [3, 7, 12, 13] → v = 0 ∨ v = 1 := fun h => by
    rw [fieldInRange_iff] at hv
    cases f <;> simp [ProfileField.id, valueInRange] at h hv <;> omega
  cases f with
  | startMode => rcases hcode (by decide) with rfl | rfl <;> interval_cases n <;> rfl
  | tripMode => rcases hcode (by decide) with rfl | rfl <;> interval_cases n <;> rfl
  | shedPolicy => rcases hcode (by decide) with rfl | rfl <;> interval_cases n <;> rfl
  | overdrawCheck => rcases hcode (by decide) with rfl | rfl <;> interval_cases n <;> rfl
  | _ => interval_cases n <;> rfl

theorem gangValue_writeGangField {f : GangField} {v : Nat} (hv : gangFieldInRange f v = true) (r : GangProfile) {n : Nat}
    (hn : 1 ≤ n ∧ n ≤ 4) :
    gangValue n (writeGangField f v r) = if f.id = n then v else gangValue n r := by
  obtain ⟨h1, h4⟩ := hn
  cases f with
  | shedPolicy =>
    have hcode : v = 0 ∨ v = 1 := by
      simp [gangFieldInRange, inRange] at hv
      omega
    rcases hcode with rfl | rfl <;> interval_cases n <;> rfl
  | _ => interval_cases n <;> rfl

/-! ## The value a list of pairs leaves (R156) -/

/-- The value of the last pair with an identifier. -/
def lastValue (l : List (Byte × Nat)) (n : Nat) : Option Nat :=
  (l.reverse.find? fun x => decide (x.1.toNat = n)).map Prod.snd

theorem lastValue_append (l : List (Byte × Nat)) (x : Byte × Nat) (n : Nat) :
    lastValue (l ++ [x]) n = if x.1.toNat = n then some x.2 else lastValue l n := by
  unfold lastValue
  rw [List.reverse_append, List.reverse_singleton, List.singleton_append, List.find?_cons]
  by_cases h : x.1.toNat = n <;> simp [h]

/-! ## One pair on an outlet's record (R4) -/

/-- The record after one pair. -/
def pairWritten (f : ProfileField) (v : Nat) (o : OutletRec) : OutletRec :=
  { o with
    profile := writeField f v o.profile
    pairWindow := if f = .tripMode then none else o.pairWindow
    overdrawWindow :=
      if f = .overdrawCheck ∧ v ≠ 1 then none
      else if f = .overdrawWindow then o.overdrawWindow.map fun _ => v else o.overdrawWindow }

theorem priorityWritten_elsewhere {f : Feed} {v : Nat} {s : State} (h : s.feedState f ≠ .queued) :
    priorityWritten f v s = (s, false) := by
  unfold priorityWritten
  split
  · next hst => exact absurd hst h
  · rfl

/-- A pair that touches no queue entry writes the outlet's record and triggers no pass. -/
theorem writePair_record {s : State} {p : OutletId} {o : OutletRec} (ho : o.own = (s.outlet p).own) {f : ProfileField}
    (hq : s.outletState p = .mapped .queued → f ≠ .request ∧ (s.feedOf p = some (.solo p) → f ≠ .priority)) (v : Nat) :
    writePair p f v (s.setOutlet p o) = (s.setOutlet p (pairWritten f v o), false) := by
  have hstate : ∀ k, (s.setOutlet p o).feedState k = s.feedState k := fun k =>
    congrArg FeedRec.state (feedRec_setOutlet ho k)
  have hw : ∀ g : OutletRec → OutletRec, updOutlet p g (s.setOutlet p o) = s.setOutlet p (g o) := fun g =>
    updOutlet_setOutlet p g s o
  cases f with
  | request =>
    unfold writePair
    dsimp only
    split
    · next k hk =>
      have hne : s.feedState k ≠ .queued := fun h =>
        (hq (by rw [outletState_of_feed (s := s) hk, h])).1 rfl
      rw [hstate, if_neg hne, hw]
      rfl
    · rw [hw]
      rfl
  | priority =>
    have hprio : s.feedOf p = some (.solo p) → s.feedState (.solo p) ≠ .queued := fun hk h =>
      (hq (by rw [outletState_of_feed hk, h])).2 hk rfl
    unfold writePair
    dsimp only
    rw [hw]
    split
    · next k hk =>
      obtain rfl := feedOf_solo hk
      rw [priorityWritten_elsewhere]
      · rfl
      · have hrec := feedRec_setOutlet (o := { o with profile := writeField .priority v o.profile }) ho (.solo k)
        exact fun h => hprio hk ((congrArg FeedRec.state hrec).symm.trans h)
    · rfl
  | overdrawCheck =>
    unfold writePair
    dsimp only
    rw [hw]
    split
    · next h => rw [pairWritten, if_neg (by simp), if_neg (fun x => x.2 h), if_neg (by simp)]
    · next h => rw [updOutlet_setOutlet, pairWritten, if_neg (by simp), if_pos ⟨rfl, h⟩]
  | tripMode =>
    unfold writePair
    dsimp only
    rw [hw, updOutlet_setOutlet]
    rfl
  | overdrawWindow =>
    unfold writePair
    dsimp only
    rw [hw, updOutlet_setOutlet]
    rfl
  | _ =>
    unfold writePair
    dsimp only
    rw [hw]
    rfl

/-! ## All pairs of a request (R156, log entry 29) -/

/-- The record after the pairs, one after the other. -/
def pairsWritten (ws : List (Byte × ProfileField × Nat)) (o : OutletRec) : OutletRec :=
  ws.foldl (fun o w => pairWritten w.2.1 w.2.2 o) o

theorem pairsWritten_append (ws : List (Byte × ProfileField × Nat)) (w : Byte × ProfileField × Nat) (o : OutletRec) :
    pairsWritten (ws ++ [w]) o = pairWritten w.2.1 w.2.2 (pairsWritten ws o) := by
  simp [pairsWritten]

theorem setOutlet_self (p : OutletId) (s : State) : s.setOutlet p (s.outlet p) = s := by
  simp [State.setOutlet, State.outlet]

/-- Pairs that touch no queue entry write the outlet's record and trigger no pass. -/
theorem writePairs_record {s : State} {p : OutletId} {ws : List (Byte × ProfileField × Nat)}
    (hq : s.outletState p = .mapped .queued →
      ∀ w ∈ ws, w.2.1 ≠ .request ∧ (s.feedOf p = some (.solo p) → w.2.1 ≠ .priority)) :
    writePairs p (ws.map fun w => (w.2.1, w.2.2)) s = (s.setOutlet p (pairsWritten ws (s.outlet p)), false) := by
  have hfold : ∀ o : OutletRec, o.own = (s.outlet p).own →
      writePairs p (ws.map fun w => (w.2.1, w.2.2)) (s.setOutlet p o) = (s.setOutlet p (pairsWritten ws o), false) := by
    unfold writePairs
    induction ws with
    | nil => exact fun _ _ => rfl
    | cons w ws ih =>
      intro o ho
      rw [List.map_cons, List.foldl_cons]
      dsimp only
      rw [writePair_record ho fun h => hq h w (by simp)]
      exact ih (fun h x hx => hq h x (by simp [hx])) (pairWritten w.2.1 w.2.2 o) ho
  have h := hfold (s.outlet p) rfl
  rwa [setOutlet_self] at h

section
variable {ws : List (Byte × ProfileField × Nat)} (o : OutletRec)
  (hws : ∀ w ∈ ws, profileField w.1 = some w.2.1 ∧ fieldInRange w.2.1 w.2.2 = true)
include hws

/-- The identifiers of the pairs that have been read as fields. -/
theorem id_of_read {w : Byte × ProfileField × Nat} (hw : w ∈ ws) : w.1.toNat = w.2.1.id :=
  (profileField_iff _ _).1 (hws w hw).1

theorem pairsWritten_value {n : Nat} (hn : 1 ≤ n ∧ n ≤ 16) :
    profileValue n (pairsWritten ws o).profile =
      (lastValue (ws.map fun w => (w.1, w.2.2)) n).getD (profileValue n o.profile) := by
  induction ws using List.reverseRecOn with
  | nil => rfl
  | append_singleton ws w ih =>
    have hw := hws w (by simp)
    rw [pairsWritten_append, List.map_append, List.map_singleton, lastValue_append, id_of_read hws (by simp)]
    show profileValue n (writeField w.2.1 w.2.2 (pairsWritten ws o).profile) = _
    rw [profileValue_writeField hw.2 _ hn, ih fun x hx => hws x (by simp [hx])]
    split <;> rfl

theorem pairsWritten_pairWindow :
    (pairsWritten ws o).pairWindow =
      if (lastValue (ws.map fun w => (w.1, w.2.2)) 7).isSome = true then none else o.pairWindow := by
  induction ws using List.reverseRecOn with
  | nil => rfl
  | append_singleton ws w ih =>
    rw [pairsWritten_append, List.map_append, List.map_singleton, lastValue_append, id_of_read hws (by simp)]
    show (if w.2.1 = .tripMode then none else (pairsWritten ws o).pairWindow) = _
    rw [ih fun x hx => hws x (by simp [hx])]
    cases w.2.1 <;> rfl

theorem pairsWritten_overdrawWindow :
    (pairsWritten ws o).overdrawWindow =
      if ∃ x ∈ ws.map fun w => (w.1, w.2.2), x.1.toNat = 13 ∧ x.2 = 0 then none
      else o.overdrawWindow.map fun t => (lastValue (ws.map fun w => (w.1, w.2.2)) 15).getD t := by
  induction ws using List.reverseRecOn with
  | nil => simp [pairsWritten, lastValue]
  | append_singleton ws w ih =>
    obtain ⟨hfield, hrange⟩ := hws w (by simp)
    have hid := (profileField_iff _ _).1 hfield
    rw [pairsWritten_append, List.map_append, List.map_singleton]
    simp only [lastValue_append, List.mem_append, List.mem_singleton, or_and_right, exists_or, exists_eq_left, hid]
    show (if w.2.1 = .overdrawCheck ∧ w.2.2 ≠ 1 then none
      else if w.2.1 = .overdrawWindow then (pairsWritten ws o).overdrawWindow.map fun _ => w.2.2
        else (pairsWritten ws o).overdrawWindow) = _
    rw [ih fun x hx => hws x (by simp [hx])]
    by_cases hoff : ∃ x ∈ ws.map fun w => (w.1, w.2.2), x.1.toNat = 13 ∧ x.2 = 0
    · simp only [hoff, true_or, if_true]
      split_ifs <;> rfl
    · rw [if_neg hoff]
      simp only [hoff, false_or]
      cases hf : w.2.1 with
      | overdrawCheck =>
        rw [hf] at hrange
        have hv : w.2.2 = 0 ∨ w.2.2 = 1 := by
          simp [fieldInRange, inRange] at hrange
          omega
        rcases hv with h | h <;> simp [ProfileField.id, h]
      | overdrawWindow => simp [ProfileField.id, Function.comp_def]
      | _ => simp [ProfileField.id]

end

/-- The pairs write the profile and what R4 lets follow. -/
theorem pairsWritten_frame (ws : List (Byte × ProfileField × Nat)) (o : OutletRec) :
    pairsWritten ws o =
      { o with
        profile := (pairsWritten ws o).profile, pairWindow := (pairsWritten ws o).pairWindow
        overdrawWindow := (pairsWritten ws o).overdrawWindow } := by
  induction ws using List.reverseRecOn with
  | nil => rfl
  | append_singleton ws w ih =>
    rw [pairsWritten_append, pairWritten]
    conv_lhs => rw [ih]

/-! ## All pairs of a gang's request (R157) -/

/-- The gang profile after the pairs, one after the other. -/
def gangPairsWritten (ws : List (Byte × GangField × Nat)) (r : GangProfile) : GangProfile :=
  ws.foldl (fun r w => writeGangField w.2.1 w.2.2 r) r

theorem gangPairsWritten_value {ws : List (Byte × GangField × Nat)}
    (hws : ∀ w ∈ ws, gangField w.1 = some w.2.1 ∧ gangFieldInRange w.2.1 w.2.2 = true) (r : GangProfile) {n : Nat}
    (hn : 1 ≤ n ∧ n ≤ 4) :
    gangValue n (gangPairsWritten ws r) =
      (lastValue (ws.map fun w => (w.1, w.2.2)) n).getD (gangValue n r) := by
  induction ws using List.reverseRecOn with
  | nil => rfl
  | append_singleton ws w ih =>
    obtain ⟨hfield, hrange⟩ := hws w (by simp)
    have happ : gangPairsWritten (ws ++ [w]) r = writeGangField w.2.1 w.2.2 (gangPairsWritten ws r) := by
      simp [gangPairsWritten]
    rw [happ, List.map_append, List.map_singleton, lastValue_append, (gangField_iff _ _).1 hfield,
      gangValue_writeGangField hrange _ hn, ih fun x hx => hws x (by simp [hx])]
    split <;> rfl

theorem setGang_self (g : GangId) (s : State) : s.setGang g (s.gang g) = s := by
  simp [State.setGang, State.gang]

theorem updGang_setGang (g : GangId) (h : GangRec → GangRec) (s : State) (r : GangRec) :
    updGang g h (s.setGang g r) = s.setGang g (h r) := by
  rw [updGang, setGang_gang_same]
  simp [State.setGang]

/-- A pair that touches no queue entry writes the gang's profile and triggers no pass. -/
theorem writeGangPair_record {s : State} {g : GangId} {r : GangRec} (hr : r.own = (s.gang g).own) {f : GangField}
    (hq : (s.membersOf g).isSome = true → f = .priority → (s.gang g).own.state ≠ .queued) (v : Nat) :
    writeGangPair g f v (s.setGang g r) =
      (s.setGang g { r with profile := writeGangField f v r.profile }, false) := by
  unfold writeGangPair
  dsimp only
  rw [updGang_setGang]
  cases f with
  | priority =>
    dsimp only
    split
    · next hdef =>
      have hrec := feedRec_setGang (r := { r with profile := writeGangField .priority v r.profile }) hr (.gang g)
      exact priorityWritten_elsewhere fun h => hq hdef rfl ((congrArg FeedRec.state hrec).symm.trans h)
    · rfl
  | _ => rfl

theorem writeGangPairs_record {s : State} {g : GangId} {ws : List (Byte × GangField × Nat)}
    (hq : (s.membersOf g).isSome = true → ∀ w ∈ ws, w.2.1 = .priority → (s.gang g).own.state ≠ .queued) :
    writeGangPairs g (ws.map fun w => (w.2.1, w.2.2)) s =
      (s.setGang g { s.gang g with profile := gangPairsWritten ws (s.gang g).profile }, false) := by
  have hfold : ∀ r : GangRec, r.own = (s.gang g).own →
      writeGangPairs g (ws.map fun w => (w.2.1, w.2.2)) (s.setGang g r) =
        (s.setGang g { r with profile := gangPairsWritten ws r.profile }, false) := by
    unfold writeGangPairs
    induction ws with
    | nil => exact fun _ _ => rfl
    | cons w ws ih =>
      intro r hr
      rw [List.map_cons, List.foldl_cons]
      dsimp only
      rw [writeGangPair_record hr fun h => hq h w (by simp)]
      exact ih (fun h x hx => hq h x (by simp [hx])) { r with profile := writeGangField w.2.1 w.2.2 r.profile } hr
  have h := hfold (s.gang g) rfl
  rwa [setGang_self] at h

/-! ## The obligation -/

theorem valueInRange_lt {n v : Nat} (h : valueInRange n v) : v < 65536 := by
  unfold valueInRange at h
  omega

theorem gangValueInRange_lt {n v : Nat} (h : gangValueInRange n v) : v < 65536 := by
  unfold gangValueInRange at h
  omega

/-- An accepted list of pairs that touches no queue entry is written to the outlet's record. -/
theorem setProfileOf_record {s : State} {p : OutletId} {l : List (Byte × Nat)}
    (hl : ∀ x ∈ l, valueInRange x.1.toNat x.2 ∧ valueAllowed s p x.1.toNat)
    (hq : s.outletState p = .mapped .queued →
      ∀ x ∈ l, x.1.toNat ≠ 1 ∧ (s.feedOf p = some (.solo p) → x.1.toNat ≠ 2)) :
    ∃ ws, l = ws.map (fun w => (w.1, w.2.2)) ∧
      (∀ w ∈ ws, profileField w.1 = some w.2.1 ∧ fieldInRange w.2.1 w.2.2 = true) ∧
      setProfileOf p l s =
        (s.setOutlet p (pairsWritten ws (s.outlet p)), done [byte (p.val + 1), byte l.length]) := by
  obtain ⟨ws, hws, hmap, hfields⟩ :=
    checkRound_ok profileField fieldInRange fun y hy => (pairOk_iff y).2 (hl y hy).1
  have hmem : ∀ w ∈ ws, (w.1, w.2.2) ∈ l := fun w hw => hmap ▸ List.mem_map_of_mem hw
  have hnone : ws.find? (fun x => !fieldAllowed x.2.1 (s.outletState p)) = none := List.find?_eq_none.2 fun w hw => by
    have h := (hl _ (hmem w hw)).2
    rw [show w.1.toNat = w.2.1.id from id_of_read hfields hw] at h
    simp [(fieldAllowed_iff s p w.2.1).2 h]
  have hqueue : s.outletState p = .mapped .queued →
      ∀ w ∈ ws, w.2.1 ≠ .request ∧ (s.feedOf p = some (.solo p) → w.2.1 ≠ .priority) := fun h w hw => by
    obtain ⟨h1, h2⟩ := hq h _ (hmem w hw)
    rw [show w.1.toNat = w.2.1.id from id_of_read hfields hw] at h1 h2
    exact ⟨fun e => h1 (by rw [e]; rfl), fun hs e => h2 hs (by rw [e]; rfl)⟩
  refine ⟨ws, hmap, hfields, ?_⟩
  rw [setProfileOf, checkPairs_eq, hws]
  simp only [hnone, writePairs_record hqueue, passIf, Bool.false_eq_true, if_false]

/-- The same of a gang's pairs. -/
theorem setGangProfileOf_record {s : State} {g : GangId} {l : List (Byte × Nat)}
    (hl : ∀ x ∈ l, gangValueInRange x.1.toNat x.2)
    (hq : (s.membersOf g).isSome = true → ∀ x ∈ l,
      (x.1.toNat = 2 → (s.gang g).own.state ≠ .retryWait ∧ ∀ c d, (s.gang g).own.state ≠ .stopping c d) ∧
      (x.1.toNat = 1 → (s.gang g).own.state ≠ .queued)) :
    ∃ ws, l = ws.map (fun w => (w.1, w.2.2)) ∧
      (∀ w ∈ ws, gangField w.1 = some w.2.1 ∧ gangFieldInRange w.2.1 w.2.2 = true) ∧
      setGangProfileOf g l s =
        (s.setGang g { s.gang g with profile := gangPairsWritten ws (s.gang g).profile },
          done [byte (g.val + 1), byte l.length]) := by
  obtain ⟨ws, hws, hmap, hfields⟩ := checkRound_ok gangField gangFieldInRange fun y hy => (gangPairOk_iff y).2 (hl y hy)
  have hmem : ∀ w ∈ ws, (w.1, w.2.2) ∈ l := fun w hw => hmap ▸ List.mem_map_of_mem hw
  have hid : ∀ w ∈ ws, w.1.toNat = w.2.1.id := fun w hw => (gangField_iff _ _).1 (hfields w hw).1
  have hnone : ws.find? (fun x => !s.gangFieldAllowed g x.2.1) = none := List.find?_eq_none.2 fun w hw => by
    have h : s.gangFieldAllowed g w.2.1 = true := (gangFieldAllowed_iff s g _).2 fun h2 => by
      rintro ⟨hdef, hfix⟩
      obtain ⟨hretry, hstop⟩ := (hq hdef _ (hmem w hw)).1 ((hid w hw).trans h2)
      rcases hfix with h | ⟨c, d, h⟩
      · exact hretry h
      · exact hstop c d h
    simp [h]
  have hqueue : (s.membersOf g).isSome = true → ∀ w ∈ ws, w.2.1 = .priority → (s.gang g).own.state ≠ .queued :=
    fun hdef w hw e => (hq hdef _ (hmem w hw)).2 ((hid w hw).trans (by rw [e]; rfl))
  refine ⟨ws, hmap, hfields, ?_⟩
  rw [setGangProfileOf, checkGangPairs_eq, hws]
  simp only [hnone, writeGangPairs_record hqueue, passIf, Bool.false_eq_true, if_false]

/-- Settles O24: the record after all pairs, read field by field. -/
theorem profilePairsAreWritten : Obligations.ProfilePairsAreWritten := by
  refine ⟨fun seq b p s l => ?_, fun seq g s l => ?_⟩
  · intro payload last hlive hb h1 h8 hl hq
    obtain ⟨ws, hmap, hfields, hset⟩ := setProfileOf_record hl hq
    refine ⟨(pairsWritten ws (s.outlet p)).profile, fun n hn1 hn16 => ?_, exec_answered rfl (by decide) hlive ?_⟩
    · rw [pairsWritten_value _ hfields ⟨hn1, hn16⟩, ← hmap]
      rfl
    · have hreq : reqSetProfile (mkFrame seq 0x20#8 payload) s = setProfileOf p l s :=
        reqSetProfile_pairs rfl (outletTarget_of_names hb) (fun x hx => valueInRange_lt (hl x hx).1) h1 h8
      refine hreq.trans (hset.trans ?_)
      rw [pairsWritten_frame, pairsWritten_pairWindow _ hfields, pairsWritten_overdrawWindow _ hfields, ← hmap]
      rfl
  · intro payload last hlive h1 h4 hl hq
    obtain ⟨ws, hmap, hfields, hset⟩ := setGangProfileOf_record hl hq
    refine ⟨gangPairsWritten ws (s.gang g).profile, fun n hn1 hn4 => ?_, exec_answered rfl (by decide) hlive ?_⟩
    · rw [gangPairsWritten_value hfields _ ⟨hn1, hn4⟩, ← hmap]
      rfl
    · have hreq : reqSetGangProfile (mkFrame seq 0x21#8 payload) s = setGangProfileOf g l s :=
        reqSetGangProfile_pairs rfl (gangTarget_byte g) (fun x hx => gangValueInRange_lt (hl x hx)) h1 h4
      exact hreq.trans hset

end Sys2Proof.Machine
end


/-! # Power requests, row by row and state by state (O26, O27) -/

section
namespace Sys2Proof.Machine

open Sys2Proof.Safety

/-! ## The rows of R150 -/

theorem endsOff_eq (st : FeedState) : st.endsOff = offStopping st := by
  cases st with
  | stopping c d => cases d <;> rfl
  | _ => rfl

/-- An ON_PRESENCE feed none of whose outlets has a load: gangs are never that (R150). -/
theorem noLoad_iff (s : State) (f : Feed) :
    s.noLoad f = true ↔ s.startModeOf f = .onPresence ∧ ∀ p ∈ s.outletsOf f, (s.outlet p).presence = false := by
  cases f with
  | solo p => simp [State.noLoad, State.startModeOf, State.outletsOf]
  | gang g => simp [State.noLoad, State.startModeOf]

theorem powerOnEffect_eq (f : Feed) (s : State) :
    powerOnEffect f s =
      if s.feedState f = .off then pass (raise (subjectOf f) .state (enterQueued f .host s)) else s := by
  unfold powerOnEffect
  split
  · next h => rw [if_pos h]
  · next h => rw [if_neg h]

/-- A request to a target that names the feed is the feed's. -/
theorem reqPowerOn_of_names {s : State} {b : Byte} {f : Feed} (hb : namesFeed s b f) (seq : Byte) :
    reqPowerOn (mkFrame seq 0x10#8 [b]) s = powerOnFeed (mkFrame seq 0x10#8 [b]) b f s := by
  simp [reqPowerOn, mkFrame, feedTarget_of_names hb]

/-- Settles O26: the rows of the model are those of R150, in the same order. -/
theorem powerOnAnswersByRow : Obligations.PowerOnAnswersByRow := by
  intro seq b f s hlive hb st refusedBy
  have hreq := reqPowerOn_of_names hb seq
  have hrefused : ∀ q, powerOnFeed (mkFrame seq 0x10#8 [b]) b f s = refuse s q → refusedBy (codeReason q) := fun q h =>
    exec_answered rfl (by decide) hlive (hreq.trans h)
  unfold powerOnFeed at hreq hrefused
  simp only [endsOff_eq, noLoad_iff, Option.isSome_iff_ne_none] at hreq hrefused
  split
  · next heoff => exact hrefused .emergency (if_pos heoff)
  next heoff =>
  rw [if_neg heoff] at hreq hrefused
  split
  · next hlat => exact hrefused .latched (if_pos hlat)
  next hlat =>
  rw [if_neg hlat] at hreq hrefused
  split
  · next hends => exact hrefused .busy (if_pos hends)
  next hends =>
  rw [if_neg hends] at hreq hrefused
  split
  · next hop => exact hrefused .busy (if_pos hop)
  next hop =>
  rw [if_neg hop] at hreq hrefused
  split
  · next hload => exact hrefused .noLoad (if_pos hload)
  next hload =>
  rw [if_neg hload] at hreq hrefused
  split
  · next hon =>
    rw [if_pos hon] at hreq
    refine exec_answered rfl (by decide) hlive (hreq.trans ?_)
    have hcode : codeFeedState (s.feedState f) = 0x05#8 := by rw [show s.feedState f = .on from hon]; rfl
    rw [powerReply, hcode]
    rfl
  next hon =>
  rw [if_neg hon] at hreq hrefused
  split
  · next hfull =>
    refine hrefused .noSlot ?_
    rw [freeSlot_none.2 hfull]
  next hfree =>
  cases hn : s.freeSlot with
  | none => exact absurd (freeSlot_none.1 hn) hfree
  | some n =>
    refine ⟨n, freeSlot_some.1 hn, exec_answered rfl (by decide) hlive (hreq.trans ?_)⟩
    have hstate : (bindSlot n { seq := seq, kind := .powerOn, target := b } f s).feedState f = st :=
      (sameRetry_bindSlot n _ f s).state f
    rw [hn]
    dsimp only [mkFrame]
    rw [powerOnEffect_eq, hstate]
    rfl

/-! ## POWER_OFF, state by state (R152) -/

theorem destAfterOff_eq (d : Dest) : destAfterOff d = destOffBound d := by cases d <;> rfl

/-- A request to a target that names the feed is the feed's; no such byte is ALL. -/
theorem reqPowerOff_of_names {s : State} {b : Byte} {f : Feed} (hb : namesFeed s b f) (seq : Byte) :
    reqPowerOff (mkFrame seq 0x11#8 [b]) s = powerOffFeed (mkFrame seq 0x11#8 [b]) b f s := by
  have hall : readTarget b ≠ .all := readTarget_ne_all (by
    cases f with
    | solo p =>
      obtain ⟨-, h12, -⟩ := hb
      omega
    | gang g =>
      obtain ⟨hg, -⟩ := hb
      omega)
  simp [reqPowerOff, mkFrame, hall, feedTarget_of_names hb]

section
variable {s : State} {f : Feed} (fr : Frame) (b : Byte)

theorem powerOffFeed_queued (h : s.feedState f = .queued) :
    powerOffFeed fr b f s =
      (pass (completeOp .powerOn .cancelled f (raise (subjectOf f) .state (withdrawn f s))),
        done (powerReply none 0x00#8 f
          (pass (completeOp .powerOn .cancelled f (raise (subjectOf f) .state (withdrawn f s)))))) := by
  unfold powerOffFeed
  rw [h, ← withdraw_eq]

theorem powerOffFeed_retryWait (h : s.feedState f = .retryWait) :
    powerOffFeed fr b f s =
      (completeOp .powerOn .cancelled f (raise (subjectOf f) .state (leaveRetry f s)),
        done [0x00#8, 0x00#8, 0x02#8]) := by
  have hst : (completeOp .powerOn .cancelled f (raise (subjectOf f) .state (leaveRetry f s))).feedState f = .off := by
    rw [(sameRetry_completeOp .powerOn .cancelled f _).state, (sameRetry_raise (subjectOf f) .state _).state]
    exact feedState_updFeed_same f _ s
  unfold powerOffFeed
  rw [h]
  dsimp only
  rw [powerReply, hst]
  rfl

/-- A stop needs a FREE slot before anything else happens. -/
theorem powerOffFeed_running (hp : (s.feedState f).powered = true) :
    powerOffFeed fr b f s =
      match s.freeSlot with
      | none => refuse s .noSlot
      | some n =>
        let t := bindSlot n { seq := fr.seq, kind := .powerOff, target := b } f (raise (subjectOf f) .state
          (stopFeed f .host .off (completeOp .powerOn .cancelled f s)))
        (t, accepted (powerReply (some n) 0x00#8 f t)) := by
  unfold powerOffFeed
  cases hst : s.feedState f with
  | starting => rfl
  | on => rfl
  | _ => rw [hst] at hp; cases hp

theorem powerOffFeed_stopping {c : StopCause} {d : Dest} (h : s.feedState f = .stopping c d)
    (hk : s.pendingKind f ≠ some .powerOff) :
    powerOffFeed fr b f s =
      match s.freeSlot with
      | none => refuse s .noSlot
      | some n =>
        let t := bindSlot n { seq := fr.seq, kind := .powerOff, target := b } f
          (completeOp .powerOn .cancelled f (redirect f c (destOffBound d) s))
        (t, accepted (powerReply (some n) 0x00#8 f t)) := by
  unfold powerOffFeed
  rw [h]
  dsimp only
  rw [if_neg hk, destAfterOff_eq] <;> rfl

/-- The reply of a stop that binds a slot carries STOPPING. -/
theorem powerReply_stopping {n : SlotId} {op : SlotOp} {t : State} {c : StopCause} {d : Dest}
    (h : t.feedState f = .stopping c d) :
    accepted (powerReply (some n) 0x00#8 f (bindSlot n op f t)) = [0x01#8, byte (n.val + 1), 0x00#8, 0x06#8] := by
  rw [powerReply, (sameRetry_bindSlot n op f t).state, h]
  rfl

end

section
variable {s : State} {f : Feed} {seq b : Byte} (hlive : s.takesRequests = true) (hb : namesFeed s b f)
include hlive hb

/-- A POWER_OFF command on a feed answers what the feed's request gives. -/
theorem exec_powerOff {t : State} {reply : List Byte}
    (h : powerOffFeed (mkFrame seq 0x11#8 [b]) b f s = (t, reply)) :
    exec (.powerOff seq [b]) s = .next (answered seq 0x11#8 [b] reply t) :=
  exec_answered rfl (by decide) hlive ((reqPowerOff_of_names hb seq).trans h)

/-- POWER_OFF on a running feed. -/
theorem exec_powerOff_running (hm : mapsOk s) (hp : (s.feedState f).powered = true) :
    if ∀ n, s.slot n ≠ .free then
      exec (.powerOff seq [b]) s = .next (answered seq 0x11#8 [b] [0x02#8, 0x08#8] s)
    else ∃ n t, lowestFree s n ∧ afterStop f .host .off (completeOp .powerOn .cancelled f s) t ∧
      exec (.powerOff seq [b]) s =
        .next (answered seq 0x11#8 [b] [0x01#8, byte (n.val + 1), 0x00#8, 0x06#8]
          (bound f n { seq := seq, kind := .powerOff, target := b } (raise (subjectOf f) .state t))) := by
  have hreq := powerOffFeed_running (mkFrame seq 0x11#8 [b]) b hp
  cases hn : s.freeSlot with
  | none =>
    rw [if_pos (freeSlot_none.1 hn)]
    rw [hn] at hreq
    exact exec_powerOff hlive hb hreq
  | some n =>
    have hfree : ¬ ∀ n, s.slot n ≠ .free := fun h => by
      rw [freeSlot_none.2 h] at hn
      cases hn
    rw [if_neg hfree]
    rw [hn] at hreq
    have hstop := stopFeed_spec f .host .off (completeOp .powerOn .cancelled f s)
      (outletsOf_nodup (mapsOk_fixed (fixed_completeOp .powerOn .cancelled f s) hm) f)
    refine ⟨n, _, freeSlot_some.1 hn, hstop, exec_powerOff hlive hb (hreq.trans (congrArg (Prod.mk _) ?_))⟩
    refine powerReply_stopping (c := .host) (d := .off) ?_
    rw [(sameRetry_raise (subjectOf f) .state _).state]
    exact (afterStop_feedState hstop).1

/-- POWER_OFF on a stopping feed without a POWER_OFF of its own. -/
theorem exec_powerOff_stopping {c : StopCause} {d : Dest} (hst : s.feedState f = .stopping c d)
    (hk : s.pendingKind f ≠ some .powerOff) :
    if ∀ n, s.slot n ≠ .free then
      exec (.powerOff seq [b]) s = .next (answered seq 0x11#8 [b] [0x02#8, 0x08#8] s)
    else ∃ n, lowestFree s n ∧
      exec (.powerOff seq [b]) s =
        .next (answered seq 0x11#8 [b] [0x01#8, byte (n.val + 1), 0x00#8, 0x06#8]
          (bound f n { seq := seq, kind := .powerOff, target := b }
            (completeOp .powerOn .cancelled f
              (updFeed f (fun r => { r with state := .stopping c (destOffBound d) }) s)))) := by
  have hreq := powerOffFeed_stopping (mkFrame seq 0x11#8 [b]) b hst hk
  cases hn : s.freeSlot with
  | none =>
    rw [if_pos (freeSlot_none.1 hn)]
    rw [hn] at hreq
    exact exec_powerOff hlive hb hreq
  | some n =>
    have hfree : ¬ ∀ n, s.slot n ≠ .free := fun h => by
      rw [freeSlot_none.2 h] at hn
      cases hn
    rw [if_neg hfree]
    rw [hn] at hreq
    refine ⟨n, freeSlot_some.1 hn, exec_powerOff hlive hb (hreq.trans (congrArg (Prod.mk _) ?_))⟩
    refine powerReply_stopping (c := c) (d := destOffBound d) ?_
    rw [(sameRetry_completeOp .powerOn .cancelled f _).state]
    exact feedState_updFeed_same f _ s

end

/-- Settles O27: the feed's state picks the case. -/
theorem powerOffActsByState : Obligations.PowerOffActsByState := by
  intro seq b f s hlive hm hb answer op
  cases hst : s.feedState f with
  | off =>
    refine exec_powerOff hlive hb ?_
    simp [powerOffFeed, hst, powerReply, done, codeSlot, codeFeedState]
  | latched =>
    refine exec_powerOff hlive hb ?_
    simp [powerOffFeed, hst, powerReply, done, codeSlot, codeFeedState]
  | queued => exact exec_powerOff hlive hb (powerOffFeed_queued _ b hst)
  | retryWait => exact exec_powerOff hlive hb (powerOffFeed_retryWait _ b hst)
  | starting => exact exec_powerOff_running hlive hb hm (by rw [hst]; rfl)
  | on => exact exec_powerOff_running hlive hb hm (by rw [hst]; rfl)
  | stopping c d =>
    by_cases hk : s.pendingKind f = some .powerOff
    · simp only [hk, if_true]
      refine exec_powerOff hlive hb ?_
      simp [powerOffFeed, hst, hk, refuse, refusedWith, codeReason]
    · simp only [hk, if_false]
      exact exec_powerOff_stopping hlive hb hst hk

end Sys2Proof.Machine
end


/-! # RESTART and the hard reset it ends in (O30) -/

section
namespace Sys2Proof.Machine

open Sys2Proof.Safety

/-! ## What the pins start at the end of a reset (R25, R42, R200) -/

/-- An outlet whose PRES is active starts its debounce timer. -/
def wokenOutlet (o : OutletRec) : OutletRec := if o.pres then { o with debounce := some o.profile.debounce } else o

/-- A supply whose line is active starts its restoration timer. -/
def wokenSupply (r : SupplyRec) : SupplyRec := if r.line then { r with restoration := some 100 } else r

theorem wakeOutlet_outlet (s : State) (p q : OutletId) :
    (wakeOutlet s p).outlet q = if q = p then wokenOutlet (s.outlet q) else s.outlet q := by
  unfold wakeOutlet wokenOutlet
  by_cases e : q = p
  · subst e
    rw [if_pos rfl]
    split
    · rw [updOutlet_outlet, if_pos rfl]
    · rfl
  · rw [if_neg e]
    split
    · rw [updOutlet_outlet, if_neg e]
    · rfl

theorem wokenOutlet_twice (o : OutletRec) : wokenOutlet (wokenOutlet o) = wokenOutlet o := by
  unfold wokenOutlet
  cases h : o.pres <;> simp [h]

theorem wakeOutlets_outlet (l : List OutletId) (s : State) (q : OutletId) :
    (l.foldl wakeOutlet s).outlet q = if q ∈ l then wokenOutlet (s.outlet q) else s.outlet q := by
  induction l generalizing s with
  | nil => rfl
  | cons p l ih =>
    rw [List.foldl_cons, ih, wakeOutlet_outlet]
    by_cases e : q = p <;> by_cases hl : q ∈ l <;> simp [e, hl, wokenOutlet_twice]

theorem wakeSupply_supply (s : State) (j k : SupplyId) :
    (wakeSupply s j).supply k = if k = j then wokenSupply (s.supply k) else s.supply k := by
  unfold wakeSupply wokenSupply
  by_cases e : k = j
  · subst e
    rw [if_pos rfl]
    split
    · rw [setSupply_supply, if_pos rfl]
      rfl
    · rfl
  · rw [if_neg e]
    split
    · rw [setSupply_supply, if_neg e]
    · rfl

/-- `t` is `s` but for outlets, supplies and EOFF_N. -/
def PinsOnly (s t : State) : Prop := t = { s with outlets := t.outlets, supplies := t.supplies, eoffN := t.eoffN }

theorem PinsOnly.trans {s t u : State} (a : PinsOnly s t) (b : PinsOnly t u) : PinsOnly s u := by
  unfold PinsOnly at *
  rw [a] at b
  exact b

theorem pinsOnly_wakeOutlet (s : State) (p : OutletId) : PinsOnly s (wakeOutlet s p) := by
  unfold wakeOutlet
  split <;> rfl

theorem pinsOnly_wakeOutlets (l : List OutletId) (s : State) : PinsOnly s (l.foldl wakeOutlet s) := by
  induction l generalizing s with
  | nil => rfl
  | cons p l ih => exact (pinsOnly_wakeOutlet s p).trans (ih _)

theorem pinsOnly_wakeSupply (s : State) (k : SupplyId) : PinsOnly s (wakeSupply s k) := by
  unfold wakeSupply
  split <;> rfl

theorem pinsOnly_wakeEoff (s : State) : PinsOnly s (wakeEoff s) := by
  unfold wakeEoff
  split <;> rfl

theorem wakeSupply_outlet (s : State) (k : SupplyId) (p : OutletId) : (wakeSupply s k).outlet p = s.outlet p := by
  unfold wakeSupply
  split <;> rfl

theorem wakeSupply_eoffN (s : State) (k : SupplyId) : (wakeSupply s k).eoffN = s.eoffN := by
  unfold wakeSupply
  split <;> rfl

theorem wakeOutlets_supply (l : List OutletId) (s : State) (k : SupplyId) :
    (l.foldl wakeOutlet s).supply k = s.supply k :=
  l.foldlRecOn (motive := fun t : State => t.supply k = s.supply k) wakeOutlet rfl fun t ht p _ => by
    unfold wakeOutlet
    split <;> exact ht

theorem wakeOutlets_eoffN (l : List OutletId) (s : State) : (l.foldl wakeOutlet s).eoffN = s.eoffN :=
  l.foldlRecOn (motive := fun t : State => t.eoffN = s.eoffN) wakeOutlet rfl fun t ht p _ => by
    unfold wakeOutlet
    split <;> exact ht

theorem wakeEoff_outlet (s : State) (p : OutletId) : (wakeEoff s).outlet p = s.outlet p := by
  unfold wakeEoff
  split <;> rfl

theorem wakeEoff_supply (s : State) (k : SupplyId) : (wakeEoff s).supply k = s.supply k := by
  unfold wakeEoff
  split <;> rfl

theorem wakeEoff_eoffN (s : State) :
    (wakeEoff s).eoffN = if s.eoffN.level = .low then { s.eoffN with filter := some 1 } else s.eoffN := by
  unfold wakeEoff
  split <;> rfl

/-- `s` with every pin looked at. -/
def woken (s : State) : State := wakeEoff (wakeSupply (wakeSupply (allOutlets.foldl wakeOutlet s) 0) 1)

section
variable (s : State)

theorem pinsOnly_woken : PinsOnly s (woken s) :=
  (((pinsOnly_wakeOutlets allOutlets s).trans (pinsOnly_wakeSupply _ 0)).trans (pinsOnly_wakeSupply _ 1)).trans
    (pinsOnly_wakeEoff _)

theorem woken_outlet (p : OutletId) : (woken s).outlet p = wokenOutlet (s.outlet p) := by
  rw [woken, wakeEoff_outlet, wakeSupply_outlet, wakeSupply_outlet, wakeOutlets_outlet, if_pos (mem_allOutlets p)]

theorem woken_supply (k : SupplyId) : (woken s).supply k = wokenSupply (s.supply k) := by
  rw [woken, wakeEoff_supply, wakeSupply_supply, wakeSupply_supply, wakeOutlets_supply]
  rcases (by decide : ∀ k : SupplyId, k = 0 ∨ k = 1) k with rfl | rfl
  · rw [if_neg (by decide), if_pos rfl]
  · rw [if_pos rfl, if_neg (by decide)]

theorem woken_eoffN :
    (woken s).eoffN = if s.eoffN.level = .low then { s.eoffN with filter := some 1 } else s.eoffN := by
  rw [woken, wakeEoff_eoffN, wakeSupply_eoffN, wakeSupply_eoffN, wakeOutlets_eoffN]

end

/-! ## The state a hard reset leaves (R199) -/

theorem blocksReset_auxLine (s : State) (k : AuxId) : (blocksReset s).auxLine k = resetAux (s.auxLine k) := by
  fin_cases k <;> rfl

/-- The blocks reset, with the strap sampled and nothing holding the reset. -/
def resetWith (baud : Level) (s : State) : State :=
  { blocksReset s with
    link := { (blocksReset s).link with baud := baud, rate := rateFor baud }
    resetBy := { vdd := false, pin := false } }

theorem finishReset_eq (baud : Level) (s : State) : finishReset baud s = woken (resetWith baud s) := rfl

theorem finishReset_outlet (baud : Level) (s : State) (p : OutletId) :
    (finishReset baud s).outlet p = wokenOutlet (resetOutlet (s.outlet p)) := by
  rw [finishReset_eq, woken_outlet]
  exact congrArg wokenOutlet (blocksReset_outlet s p)

theorem finishReset_supply (baud : Level) (s : State) (k : SupplyId) :
    (finishReset baud s).supply k = wokenSupply (resetSupply (s.supply k)) := by
  rw [finishReset_eq, woken_supply]
  exact congrArg wokenSupply (blocksReset_supply s k)

/-- The end of a hard reset leaves the values the manual gives. -/
theorem afterReset_finishReset (baud : Level) (s : State) : afterReset s (finishReset baud s) baud := by
  have hpins : PinsOnly (resetWith baud s) (finishReset baud s) := pinsOnly_woken _
  have houtlet := finishReset_outlet baud s
  have hsupply := finishReset_supply baud s
  have heoff : (finishReset baud s).eoffN = _ := woken_eoffN (resetWith baud s)
  generalize finishReset baud s = t at hpins houtlet hsupply heoff
  unfold PinsOnly at hpins
  have hgang : ∀ g, t.gang g = GangRec.reset := fun g => by
    rw [hpins]
    exact blocksReset_gang s g
  have haux : ∀ k, t.auxLine k = resetAux (s.auxLine k) := fun k => by
    rw [hpins]
    exact blocksReset_auxLine s k
  have hmap : t.activeMap = State.reset.activeMap := by
    rw [hpins]
    rfl
  have hlogical : ∀ p, t.logicalOf p = some (p.val + 1) := fun p => by
    rw [State.logicalOf, hmap]
    exact reset_map.1 p
  have hmembers : ∀ g, t.membersOf g = none := fun g => by
    rw [State.membersOf, hmap]
    exact reset_map.2 g
  have hslot : ∀ n, t.slot n = .free := fun n => by
    rw [hpins]
    exact reset_slot n
  have hlink : t.link =
      { rx := .hunting, rxTimer := none, places := #v[none, none], answers := [], tx := none, cache := none
        rate := if baud = .high then .r460800 else .r115200, baud := baud, restarting := false } := by
    rw [hpins]
    cases baud <;> rfl
  refine ⟨fun p => ?_, hgang, hlogical, hmembers, by rw [hpins]; rfl, fun k => ?_, ?_⟩
  · rw [houtlet]
    have hpin : (resetOutlet (s.outlet p)).pres = (s.outlet p).pres := rfl
    unfold wokenOutlet
    rw [hpin]
    by_cases h : (s.outlet p).pres = true
    · rw [if_pos h, if_pos h]
      rfl
    · rw [if_neg h, if_neg h]
      rfl
  · rw [hsupply]
    have hpin : (resetSupply (s.supply k)).line = (s.supply k).line := rfl
    unfold wokenSupply
    rw [hpin]
    by_cases h : (s.supply k).line = true
    · rw [if_pos h, if_pos h]
      rfl
    · rw [if_neg h, if_neg h]
      rfl
  · refine ⟨by rw [hpins]; rfl, by rw [hpins]; rfl, by rw [hpins]; rfl, by rw [hpins]; rfl, by rw [hpins]; rfl,
      by rw [hpins]; rfl, by rw [hpins]; rfl, by rw [hpins]; rfl, by rw [hpins]; rfl, hslot, by rw [hpins]; rfl,
      by rw [hpins]; rfl, by rw [hpins]; rfl, hlink, ?_, haux, by rw [hpins]; rfl, by rw [hpins]; rfl⟩
    have hlevel : (resetWith baud s).eoffN.level = s.eoffN.level := rfl
    rw [heoff, hlevel]
    split <;> rfl

/-! ## RESTART (R159, R190) -/

theorem restarting_false {s : State} (h : s.takesRequests = true) : s.link.restarting = false := by
  rw [State.takesRequests, Bool.and_eq_true_iff] at h
  simpa using h.2

theorem takesRequests_restarting {s : State} (h : s.link.restarting = true) : s.takesRequests = false := by
  simp [State.takesRequests, h]

/-- Once a RESTART has been taken, a request command has no effect. -/
theorem exec_request_deaf {c : Instr} {s : State} (hc : (requestOf c).isSome = true)
    (h : s.takesRequests = false) : exec c s = .next s := by
  have hreq : ∀ {k : Byte} {eff : Frame → State → State × List Byte} {seq : Byte} {d : List Byte},
      asRequest k eff seq d s = s := fun {k eff seq d} => asRequest_deaf k eff seq d h
  have hrestart : ∀ seq d, restartRequest seq d s = s := fun seq d => by simp [restartRequest, h]
  cases c with
  | restart q d => exact congrArg Host.Outcome.next (hrestart q d)
  | unknownKind q k d =>
    refine congrArg Host.Outcome.next ?_
    split
    · exact hrestart q d
    · exact hreq
  | ident | status | readOutlet | readGang | readMeter | readQueue | powerOn | powerOff | powerOffAll | clearFault
  | setProfile | setGangProfile | setSupply | setPolicy | setLine | stageMap | stageGang | applyMap | discardMap
  | readMap | fetchNotices => exact congrArg Host.Outcome.next hreq
  | _ => cases hc

/-- A level change of the BAUD strap is kept and starts nothing (R178). -/
theorem lineChanged_baud (level : Level) (s : State) :
    lineChanged .baud level s = { s with link := { s.link with baud := level } } := by
  unfold lineChanged
  dsimp only [State.inputLine]
  split
  · next h => rw [← h]
  · rfl

/-- Settles O30: the reply is put in transmission, everything else is deaf, and its end is the hard reset. -/
theorem restartEndsInAReset : Obligations.RestartEndsInAReset := by
  refine ⟨fun seq s hlive => ?_, fun c s hrun _ hc => exec_request_deaf hc (takesRequests_restarting hrun),
    fun b h s hrun hup => ?_, fun level s hup => ?_, fun s hup hrun htx => ?_⟩
  · refine congrArg Host.Outcome.next ?_
    simp [restartRequest, hlive, takeRequest, reqRestart, mkFrame, answered, done, Config.kindRestart]
    rfl
  · refine congrArg Host.Outcome.next ((event_live _ hup).trans (congrArg driveAux ?_))
    simp [rxEvent, hrun]
  · rw [← lineChanged_baud]
    exact congrArg Host.Outcome.next ((if_neg (by simp [hup])).trans (event_live _ hup))
  · refine ⟨finishReset s.link.baud s, congrArg Host.Outcome.next ?_, afterReset_finishReset _ s⟩
    obtain ⟨r, hr⟩ := Option.isSome_iff_exists.1 htx
    rw [if_neg (by simp [hup, hr]), if_pos hrun]

end Sys2Proof.Machine
end


/-! # POWER_OFF with ALL (O28) -/

section
namespace Sys2Proof.Machine

open Sys2Proof.Safety

/-! ## Lists of raises (R168) -/

theorem raised_append (l m : List (Subject × NoticeFlag)) (s : State) : raised (l ++ m) s = raised m (raised l s) :=
  List.foldl_append

/-- A list of raises sees of a state its notices and ALERT_N alone. -/
theorem raised_congr (l : List (Subject × NoticeFlag)) {s t : State} (hn : t.notices = s.notices)
    (ha : t.alertN = s.alertN) :
    (raised l t).notices = (raised l s).notices ∧ (raised l t).alertN = (raised l s).alertN := by
  induction l generalizing s t with
  | nil => exact ⟨hn, ha⟩
  | cons x l ih => exact ih (congrArg (raiseIn x.1 x.2) hn) rfl

/-- A change that changes no feed part is none. -/
theorem updFeed_self (f : Feed) (s : State) : updFeed f (fun r => r) s = s := by
  cases f with
  | solo p => exact setOutlet_self p s
  | gang g =>
    show { s with gangs := tset s.gangs g (tget s.gangs g) } = s
    rw [tset_tget]

/-! ## What the off event leaves of each record (R153, R193) -/

/-- The record of an outlet of a feed that the off event has turned off. -/
def offOutlet (c : StopCause) (s : State) (q : OutletId) : OutletRec :=
  { (if s.outletPowered q = true then stopped (s.outlet q) else s.outlet q) with
    own := if s.feedOf q = some (.solo q) then offRec c (poweringOn s (.solo q)) (s.outlet q).own
      else (s.outlet q).own }

/-- The record of a gang that the off event has turned off. -/
def offGang (c : StopCause) (s : State) (g : GangId) : GangRec :=
  { s.gang g with
    own := offRec c (poweringOn s (.gang g)) (s.gang g).own
    timedOut := if (s.gang g).own.state.powered = true then false else (s.gang g).timedOut }

/-- A slot after the feeds of a list have been turned off: the pending POWER_ON of each has completed. -/
def offSlot (o : Completion) (l : List Feed) : Slot → Slot
  | .pending op f => if op.kind = .powerOn ∧ f ∈ l then .complete op o else .pending op f
  | x => x

theorem offSlot_pending_other {o : Completion} {l : List Feed} {f : Feed} (hf : f ∉ l) (x : Slot) (op : SlotOp) :
    offSlot o l x = .pending op f ↔ x = .pending op f := by
  cases x with
  | pending op' g =>
    simp only [offSlot]
    split
    · next h => simp only [reduceCtorEq, Slot.pending.injEq, false_iff, not_and]; exact fun _ e => hf (e ▸ h.2)
    · exact Iff.rfl
  | _ => exact Iff.rfl

theorem offSlot_cons (o : Completion) (f : Feed) (l : List Feed) (x : Slot) :
    offSlot o l (offSlot o [f] x) = offSlot o (f :: l) x := by
  cases x with
  | pending op g =>
    by_cases hk : op.kind = .powerOn <;> by_cases hg : g = f <;> simp [offSlot, hk, hg]
  | _ => rfl

/-- The STATE notice of the off event on one feed, if its state changes (R22). -/
def offTurn (s : State) (f : Feed) : List (Subject × NoticeFlag) :=
  match s.feedState f with
  | .off => []
  | .latched => []
  | .stopping _ _ => []
  | _ => [(subjectOf f, .state)]

theorem offNotices_eq (s : State) (f : Feed) :
    offNotices s f = offTurn s f ++
      if poweringOn s f = true then ((s.feedRec f).op.toList).map (fun n => (Subject.slot n, NoticeFlag.completion))
      else [] := by
  unfold offNotices offTurn
  cases s.feedState f <;> rfl

/-- The off event writes the feeds, the queue, the claim, the active total, the slots and the notices at most. -/
def OffFrame (s t : State) : Prop :=
  t = { s with
    outlets := t.outlets, gangs := t.gangs, slots := t.slots, queue := t.queue, claim := t.claim, active := t.active
    notices := t.notices, alertN := t.alertN }

theorem OffFrame.trans {s t u : State} (a : OffFrame s t) (b : OffFrame t u) : OffFrame s u := by
  unfold OffFrame at *
  exact b.trans (by rw [a])

theorem OffFrame.activeMap {s t : State} (h : OffFrame s t) : t.activeMap = s.activeMap := by rw [h]

/-! ## One feed and its operation (R147, R148) -/

/-- What `slotsOk` says of one feed. -/
structure PairedAt (s : State) (f : Feed) : Prop where
  own : ∀ n op, s.slot n = .pending op f → (s.feedRec f).op = some n
  slot : ∀ n, (s.feedRec f).op = some n → ∃ op, s.slot n = .pending op f
  fits : fitsOp (s.pendingKind f) (s.feedState f)

theorem pairedAt_of_slotsOk {s : State} (h : slotsOk s) {f : Feed} (hf : isFeed s f) : PairedAt s f := by
  obtain ⟨hpend, hbound⟩ := h
  refine ⟨fun n op hs => (hpend n op f hs).2.1, fun n => hbound f n hf, ?_⟩
  cases hop : (s.feedRec f).op with
  | none =>
    rw [pendingKind_none hop]
    trivial
  | some n =>
    obtain ⟨op, hs⟩ := hbound f n hf hop
    obtain ⟨-, -, hfit⟩ := hpend n op f hs
    rw [pendingKind_some hop hs, fitsOp_iff]
    exact hfit

/-- The feed's POWER_ON completes, or none is pending. -/
theorem PairedAt.op_cases {s : State} {f : Feed} (h : PairedAt s f) :
    ((∀ n op, s.slot n = .pending op f → op.kind ≠ .powerOn) ∧ poweringOn s f = false) ∨
      ∃ n op, (s.feedRec f).op = some n ∧ s.slot n = .pending op f ∧ op.kind = .powerOn ∧ poweringOn s f = true := by
  cases hop : (s.feedRec f).op with
  | none =>
    refine .inl ⟨fun n op hs => ?_, by simp [poweringOn, pendingKind_none hop]⟩
    rw [h.own n op hs] at hop
    cases hop
  | some n =>
    obtain ⟨op, hs⟩ := h.slot n hop
    have hk := pendingKind_some hop hs
    by_cases hkind : op.kind = .powerOn
    · exact .inr ⟨n, op, rfl, hs, hkind, by simp [poweringOn, hk, hkind]⟩
    · refine .inl ⟨fun m op' hm => ?_, by simp [poweringOn, hk, hkind]⟩
      have hmn := h.own m op' hm
      rw [hop] at hmn
      cases hmn
      rw [hs] at hm
      cases hm
      exact hkind

/-! ## Feeds in OFF or LATCHED, or on the way there -/

theorem offChanges_false_iff {st : FeedState} :
    offChanges st = false ↔ st = .off ∨ st = .latched ∨ ∃ c, st = .stopping c .off ∨ st = .stopping c .latched := by
  cases st with
  | stopping c d => cases d <;> simp [offChanges]
  | _ => simp [offChanges]

theorem onBound_of_off {st : FeedState} (h : offChanges st = false) : onBound st = false := by
  rcases offChanges_false_iff.1 h with rfl | rfl | ⟨c, rfl | rfl⟩ <;> rfl

theorem powered_of_off {st : FeedState} (h : offChanges st = false) : st.powered = false := by
  rcases offChanges_false_iff.1 h with rfl | rfl | ⟨c, rfl | rfl⟩ <;> rfl

theorem offTurn_of_off {s : State} {f : Feed} (h : offChanges (s.feedState f) = false) : offTurn s f = [] := by
  unfold offTurn
  rcases offChanges_false_iff.1 h with e | e | ⟨c, e | e⟩ <;> rw [e]

/-- Such a feed's record is its own off record. -/
theorem offRec_of_off {c : StopCause} {r : FeedRec} (h : offChanges r.state = false) : offRec c false r = r := by
  obtain ⟨st, n, op, stab, back⟩ := r
  rcases offChanges_false_iff.1 h with rfl | rfl | ⟨k, rfl | rfl⟩ <;> rfl

/-- No state that the off event leaves is QUEUED or powered, and the event changes none of them again. -/
theorem offChanges_offState (c : StopCause) (st : FeedState) : offChanges (offState c st) = false := by
  cases st with
  | stopping k d => cases d <;> rfl
  | _ => rfl

/-! ## One feed turned off, its completion apart -/

/-- `t` is `s` after the off event has moved the feed `f` and made the raises `l`. -/
structure OffMove (c : StopCause) (f : Feed) (l : List (Subject × NoticeFlag)) (s t : State) : Prop where
  outlet : ∀ q, t.outlet q =
    if s.feedOf q = some f then
      { (if s.outletPowered q = true then stopped (s.outlet q) else s.outlet q) with
        own := if f = .solo q then offRec c false (s.outlet q).own else (s.outlet q).own }
    else s.outlet q
  gang : ∀ g, t.gang g =
    if f = .gang g then
      { s.gang g with
        own := offRec c false (s.gang g).own
        timedOut := if (s.gang g).own.state.powered = true then false else (s.gang g).timedOut }
    else s.gang g
  slots : t.slots = s.slots
  notices : t.notices = (raised l s).notices
  alertN : t.alertN = (raised l s).alertN
  frame : OffFrame s t

/-- `t` is `s` after the off event has turned off the feeds of a list, in their order. -/
structure OffAmong (c : StopCause) (o : Completion) (l : List Feed) (s t : State) : Prop where
  outlet : ∀ q, t.outlet q = if ∃ f ∈ l, s.feedOf q = some f then offOutlet c s q else s.outlet q
  gang : ∀ g, t.gang g = if Feed.gang g ∈ l then offGang c s g else s.gang g
  slot : ∀ n, t.slot n = offSlot o l (s.slot n)
  notices : t.notices = (raised (l.flatMap (offNotices s)) s).notices
  alertN : t.alertN = (raised (l.flatMap (offNotices s)) s).alertN
  frame : OffFrame s t

section
variable {c : StopCause} {o : Completion} {f : Feed} {l : List (Subject × NoticeFlag)} {s t : State}

theorem OffMove.op (m : OffMove c f l s t) : (t.feedRec f).op = (s.feedRec f).op := by
  cases f with
  | solo q =>
    simp only [State.feedRec, m.outlet q]
    split
    · simp [offRec]
    · rfl
  | gang g =>
    simp only [State.feedRec, m.gang g, if_true]
    rfl

theorem OffMove.slot (m : OffMove c f l s t) (n : SlotId) : t.slot n = s.slot n := by
  unfold State.slot
  rw [m.slots]

/-- Without a pending POWER_ON the move is all. -/
theorem OffMove.idle (m : OffMove c f (offTurn s f) s t) (hk : poweringOn s f = false)
    (hs : ∀ n op, s.slot n = .pending op f → op.kind ≠ .powerOn) : OffAmong c o [f] s t where
  outlet q := by
    rw [m.outlet q]
    simp only [List.mem_singleton, exists_eq_left]
    split
    · next hq =>
      unfold offOutlet
      by_cases e : f = .solo q
      · subst e
        rw [if_pos rfl, if_pos hq, hk]
      · rw [if_neg e, if_neg fun h => e (Option.some.inj (hq.symm.trans h))]
    · rfl
  gang g := by
    rw [m.gang g]
    simp only [List.mem_singleton, eq_comm (a := Feed.gang g)]
    split
    · next e => subst e; rw [offGang, hk]
    · rfl
  slot n := by
    rw [m.slot]
    cases hn : s.slot n with
    | pending op g =>
      have hno : ¬ (op.kind = .powerOn ∧ g ∈ [f]) := fun h => hs n op (by rw [hn, List.mem_singleton.1 h.2]) h.1
      rw [offSlot, if_neg hno]
    | _ => rfl
  notices := by simpa [offNotices_eq, hk] using m.notices
  alertN := by simpa [offNotices_eq, hk] using m.alertN
  frame := m.frame

/-- The pending POWER_ON completes after the move. -/
theorem OffMove.completed (m : OffMove c f (offTurn s f) s t) (hf : isFeed s f) (hp : PairedAt s f) {n : SlotId} {op : SlotOp}
    (hop : (s.feedRec f).op = some n) (hs : s.slot n = .pending op f) (hkind : op.kind = .powerOn)
    (hk : poweringOn s f = true) : OffAmong c o [f] s (Machine.completed n op o f t) where
  outlet q := by
    rw [Machine.completed, raise_outlet, updFeed_outlet, setSlot_outlet]
    simp only [List.mem_singleton, exists_eq_left]
    by_cases e : f = .solo q
    · subst e
      have hq : s.feedOf q = some (.solo q) := hf
      have hm := m.outlet q
      rw [if_pos hq, if_pos rfl] at hm
      rw [if_pos rfl, if_pos hq, hm, offOutlet, if_pos hq, hk]
      rfl
    · rw [if_neg e, m.outlet q, if_neg e]
      refine ite_congr rfl (fun hq => ?_) fun _ => rfl
      rw [offOutlet, if_neg fun h => e (Option.some.inj (hq.symm.trans h))]
  gang g := by
    rw [Machine.completed, raise_gang, updFeed_gang, setSlot_gang, m.gang g]
    simp only [List.mem_singleton, eq_comm (a := Feed.gang g)]
    by_cases e : f = .gang g
    · rw [if_pos e, if_pos e, if_pos e, offGang, ← e, hk]
      rfl
    · rw [if_neg e, if_neg e, if_neg e]
  slot j := by
    rw [completed_slot, m.slot]
    split
    · next e => subst e; rw [hs, offSlot, if_pos ⟨hkind, List.mem_singleton.2 rfl⟩]
    · next e =>
      cases hj : s.slot j with
      | pending op' g =>
        have hg : g ≠ f := fun h => e (by
          have hjop := hp.own j op' (h ▸ hj)
          rw [hop] at hjop
          exact (Option.some.inj hjop).symm)
        rw [offSlot, if_neg fun h => hg (List.mem_singleton.1 h.2)]
      | _ => rfl
  notices := by
    rw [completed_notices, m.notices]
    simp [offNotices_eq, hk, hop, raised_append]
    rfl
  alertN := by
    simp [offNotices_eq, hk, hop, raised_append]
    rfl
  frame := m.frame.trans (by rw [completed_frame]; rfl)

/-- The off event on one feed: the move, and the completion of a pending POWER_ON. -/
theorem OffMove.completeOp (m : OffMove c f (offTurn s f) s t) (hf : isFeed s f) (hp : PairedAt s f) :
    OffAmong c o [f] s (Machine.completeOp .powerOn o f t) := by
  rcases hp.op_cases with ⟨hs, hk⟩ | ⟨n, op, hop, hs, hkind, hk⟩
  · rw [show Machine.completeOp .powerOn o f t = t from ?_]
    · exact m.idle hk hs
    · cases hop : (s.feedRec f).op with
      | none => exact completeOp_idle _ o (m.op.trans hop)
      | some n =>
        obtain ⟨op, hn⟩ := hp.slot n hop
        exact completeOp_otherKind o (m.op.trans hop) ((m.slot n).trans hn) (hs n op hn)
  · rw [completeOp_done o (m.op.trans hop) ((m.slot n).trans hs) hkind]
    exact m.completed hf hp hop hs hkind hk

/-- The move of a feed that is not running is a change of its feed part. -/
theorem offMove_updFeed {h : FeedRec → FeedRec} (hf : isFeed s f) (hp : (s.feedState f).powered = false)
    (hh : h (s.feedRec f) = offRec c false (s.feedRec f)) (q : List Entry) (k : Option Claim) :
    OffMove c f [] s (updFeed f h { s with queue := q, claim := k }) where
  outlet p := by
    rw [updFeed_outlet]
    have hold : State.outlet { s with queue := q, claim := k } p = s.outlet p := rfl
    rw [hold]
    by_cases hp' : s.feedOf p = some f
    · rw [if_pos hp', outletPowered_of_feed hp', hp]
      by_cases e : f = .solo p
      · subst e
        have hrec : h (s.outlet p).own = offRec c false (s.outlet p).own := hh
        rw [if_pos rfl, if_pos rfl, hrec]
        rfl
      · rw [if_neg e, if_neg e]
        rfl
    · rw [if_neg hp', if_neg fun e => hp' (by subst e; exact hf)]
  gang g := by
    rw [updFeed_gang]
    by_cases e : f = .gang g
    · subst e
      have hrec : h (s.gang g).own = offRec c false (s.gang g).own := hh
      have hp' : (s.gang g).own.state.powered = false := hp
      have hold : State.gang { s with queue := q, claim := k } g = s.gang g := rfl
      rw [if_pos rfl, if_pos rfl, hold, hrec, hp']
      rfl
    · rw [if_neg e, if_neg e]
      rfl
  slots := by cases f <;> rfl
  notices := by cases f <;> rfl
  alertN := by cases f <;> rfl
  frame := by cases f <;> rfl

/-- The move of a running feed is its stop (R13, R124). -/
theorem offMove_stop (hm : mapsOk s) (hf : isFeed s f) (hp : (s.feedState f).powered = true) :
    OffMove c f [] s (stopFeed f c .off s) := by
  obtain ⟨ho, hg, ht⟩ := stopFeed_spec f c .off s (outletsOf_nodup hm f)
  have hrec : stoppedFeed c .off (s.feedRec f) = offRec c false (s.feedRec f) := by
    have hp' : (s.feedRec f).state.powered = true := hp
    have hst : offState c (s.feedRec f).state = .stopping c .off := by
      cases hst : (s.feedRec f).state with
      | starting => rfl
      | on => rfl
      | _ => rw [hst] at hp'; cases hp'
    have hb : (s.feedRec f).state ≠ .retryWait := fun e => by rw [e] at hp'; cases hp'
    simp [stoppedFeed, offRec, hst, hb, hp']
  refine ⟨fun p => ?_, fun g => ?_, by rw [ht], by rw [ht]; rfl, by rw [ht]; rfl, ?_⟩
  · rw [ho p]
    by_cases hp' : s.feedOf p = some f
    · rw [if_pos hp', outletPowered_of_feed hp', hp, if_pos rfl]
      by_cases e : f = .solo p
      · subst e
        have hrec' : stoppedFeed c .off (s.outlet p).own = offRec c false (s.outlet p).own := hrec
        rw [if_pos rfl, if_pos rfl, hrec']
      · rw [if_neg e, if_pos (mem_outletsOf hp'), if_neg e]
        rfl
    · rw [if_neg hp', if_neg fun e => hp' (by subst e; exact hf), if_neg fun e => hp' (feedOf_of_mem hm hf e)]
  · rw [hg g]
    by_cases e : f = .gang g
    · subst e
      have hrec' : stoppedFeed c .off (s.gang g).own = offRec c false (s.gang g).own := hrec
      have hp' : (s.gang g).own.state.powered = true := hp
      rw [if_pos rfl, if_pos rfl, hrec', hp', if_pos rfl]
    · rw [if_neg e, if_neg e]
  · unfold OffFrame
    rw [ht]

theorem OffMove.tell (m : OffMove c f [] s t) (x : Subject) (fl : NoticeFlag) :
    OffMove c f [(x, fl)] s (raise x fl t) where
  outlet := m.outlet
  gang := m.gang
  slots := m.slots
  notices := congrArg (raiseIn x fl) m.notices
  alertN := rfl
  frame := m.frame.trans rfl

/-- A feed that is off already and has no POWER_ON pending is left as it is. -/
theorem offAmong_refl (hf : isFeed s f) (hp : PairedAt s f) (hoff : offChanges (s.feedState f) = false) :
    OffAmong c o [f] s s := by
  have hon : onBound (s.feedState f) = false := onBound_of_off hoff
  have hturn : offTurn s f = [] := offTurn_of_off hoff
  have m : OffMove c f [] s (updFeed f (fun r => r) s) :=
    offMove_updFeed hf (powered_of_off hoff) (offRec_of_off hoff).symm s.queue s.claim
  rw [updFeed_self, ← hturn] at m
  rcases hp.op_cases with ⟨hs, hk⟩ | ⟨n, op, hop, hs, hkind, -⟩
  · exact m.idle hk hs
  · have hfit := hp.fits
    rw [pendingKind_some hop hs, hkind] at hfit
    rw [show onBound (s.feedState f) = true from hfit] at hon
    cases hon

end

/-- What POWER_OFF with ALL does to one feed, and what it counts (R153). -/
theorem offAmong_offOne {t : State × Nat} {f : Feed} (hm : mapsOk t.1) (hf : isFeed t.1 f) (hp : PairedAt t.1 f) :
    OffAmong .host .cancelled [f] t.1 (offOne t f).1 ∧
      (offOne t f).2 = t.2 + if offChanges (t.1.feedState f) = true then 1 else 0 := by
  unfold offOne
  dsimp only
  have hrec : (t.1.feedRec f).state = t.1.feedState f := rfl
  cases hst : t.1.feedState f with
  | off => exact ⟨offAmong_refl hf hp (by rw [hst]; rfl), rfl⟩
  | latched => exact ⟨offAmong_refl hf hp (by rw [hst]; rfl), rfl⟩
  | queued =>
    refine ⟨OffMove.completeOp ?_ hf hp, rfl⟩
    rw [offTurn, hst]
    exact (offMove_updFeed hf (by rw [hst]; rfl) (by simp [offRec, offState, hrec, hst, FeedState.powered]) _ _).tell _ _
  | retryWait =>
    refine ⟨OffMove.completeOp ?_ hf hp, rfl⟩
    rw [offTurn, hst]
    exact (offMove_updFeed hf (by rw [hst]; rfl) (by simp [offRec, offState, hrec, hst, FeedState.powered]) t.1.queue t.1.claim).tell _ _
  | starting =>
    refine ⟨OffMove.completeOp ?_ hf hp, rfl⟩
    rw [offTurn, hst]
    exact (offMove_stop hm hf (by rw [hst]; rfl)).tell _ _
  | on =>
    refine ⟨OffMove.completeOp ?_ hf hp, rfl⟩
    rw [offTurn, hst]
    exact (offMove_stop hm hf (by rw [hst]; rfl)).tell _ _
  | stopping c d =>
    have hmove : ∀ e, offRec .host false (t.1.feedRec f) = { t.1.feedRec f with state := .stopping c e } →
        OffAmong .host .cancelled [f] t.1 (completeOp .powerOn .cancelled f (redirect f c e t.1)) := fun e he =>
      OffMove.completeOp
        (by
          rw [offTurn, hst]
          exact offMove_updFeed (h := fun r => { r with state := .stopping c e }) hf (by rw [hst]; rfl) he.symm t.1.queue
            t.1.claim) hf hp
    cases d with
    | off => exact ⟨offAmong_refl hf hp (by rw [hst]; rfl), rfl⟩
    | latched => exact ⟨offAmong_refl hf hp (by rw [hst]; rfl), rfl⟩
    | queued => exact ⟨hmove .off (by simp [offRec, offState, hrec, hst, destOffBound, FeedState.powered]), rfl⟩
    | retryWait => exact ⟨hmove .off (by simp [offRec, offState, hrec, hst, destOffBound, FeedState.powered]), rfl⟩

/-! ## Feed after feed -/

section
variable {c : StopCause} {o : Completion} {f g : Feed} {l : List Feed} {s u t : State}

/-- A feed beside the list keeps its record. -/
theorem OffAmong.feedRec_other (a : OffAmong c o l s u) (hg : isFeed s g) (hgl : g ∉ l) :
    u.feedRec g = s.feedRec g := by
  cases g with
  | solo q =>
    have hq : s.feedOf q = some (.solo q) := hg
    simp only [State.feedRec, a.outlet q, hq, Option.some.injEq, exists_eq_right', if_neg hgl]
  | gang k => simp only [State.feedRec, a.gang k, if_neg hgl]

theorem OffAmong.pending_other (a : OffAmong c o l s u) (hgl : g ∉ l) (n : SlotId) (op : SlotOp) :
    u.slot n = .pending op g ↔ s.slot n = .pending op g := by
  rw [a.slot n]
  exact offSlot_pending_other hgl _ _

theorem OffAmong.pendingKind_other (a : OffAmong c o l s u) (hg : isFeed s g) (hgl : g ∉ l) (hp : PairedAt s g) :
    u.pendingKind g = s.pendingKind g := by
  have hrec := congrArg FeedRec.op (a.feedRec_other hg hgl)
  cases hop : (s.feedRec g).op with
  | none => rw [pendingKind_none hop, pendingKind_none (hrec.trans hop)]
  | some n =>
    obtain ⟨op, hs⟩ := hp.slot n hop
    rw [pendingKind_some hop hs, pendingKind_some (hrec.trans hop) ((a.pending_other hgl n op).2 hs)]

theorem OffAmong.pairedAt_other (a : OffAmong c o l s u) (hg : isFeed s g) (hgl : g ∉ l) (hp : PairedAt s g) :
    PairedAt u g where
  own n op hs := by
    rw [a.feedRec_other hg hgl]
    exact hp.own n op ((a.pending_other hgl n op).1 hs)
  slot n hop := by
    rw [a.feedRec_other hg hgl] at hop
    obtain ⟨op, hs⟩ := hp.slot n hop
    exact ⟨op, (a.pending_other hgl n op).2 hs⟩
  fits := by
    rw [a.pendingKind_other hg hgl hp, State.feedState, a.feedRec_other hg hgl]
    exact hp.fits

theorem OffAmong.poweringOn_other (a : OffAmong c o l s u) (hg : isFeed s g) (hgl : g ∉ l) (hp : PairedAt s g) :
    poweringOn u g = poweringOn s g := by
  rw [poweringOn, a.pendingKind_other hg hgl hp, poweringOn]

theorem OffAmong.offNotices_other (a : OffAmong c o l s u) (hg : isFeed s g) (hgl : g ∉ l) (hp : PairedAt s g) :
    offNotices u g = offNotices s g := by
  rw [offNotices, a.poweringOn_other hg hgl hp, State.feedState, a.feedRec_other hg hgl]
  rfl

/-- An outlet or a gang beside the list is turned off as it would have been before. -/
theorem OffAmong.offOutlet_other (a : OffAmong c o l s u) {q : OutletId} (hq : s.feedOf q = some g) (hgl : g ∉ l)
    (hp : PairedAt s g) : offOutlet c u q = offOutlet c s q := by
  have hg := isFeed_of_feedOf hq
  have hout : u.outlet q = s.outlet q := by
    rw [a.outlet q, if_neg]
    rintro ⟨k, hk, e⟩
    rw [hq] at e
    cases e
    exact hgl hk
  have hfeed := feedOf_congr a.frame.activeMap q
  have hpow : u.outletPowered q = s.outletPowered q := by
    rw [outletPowered_of_feed hq, outletPowered_of_feed (hfeed.trans hq), State.feedState, a.feedRec_other hg hgl]
    rfl
  unfold offOutlet
  rw [hout, hpow, hfeed]
  by_cases e : s.feedOf q = some (.solo q)
  · rw [hq] at e
    cases e
    rw [a.poweringOn_other hg hgl hp]
  · rw [if_neg e, if_neg e]

theorem OffAmong.offGang_other (a : OffAmong c o l s u) {k : GangId} (hg : isFeed s (.gang k)) (hgl : .gang k ∉ l)
    (hp : PairedAt s (.gang k)) : offGang c u k = offGang c s k := by
  rw [offGang, a.poweringOn_other hg hgl hp, a.gang k, if_neg hgl, offGang]

/-- One feed turned off, then the others. -/
theorem OffAmong.cons (a : OffAmong c o [f] s u) (b : OffAmong c o l u t) (hfl : f ∉ l)
    (hl : ∀ g ∈ l, isFeed s g ∧ PairedAt s g) : OffAmong c o (f :: l) s t := by
  have hother : ∀ g ∈ l, g ∉ [f] := fun g hg e => hfl (List.mem_singleton.1 e ▸ hg)
  have hnot : l.flatMap (offNotices u) = l.flatMap (offNotices s) :=
    List.flatMap_congr fun g hg => a.offNotices_other (hl g hg).1 (hother g hg) (hl g hg).2
  have hr := raised_congr (l.flatMap (offNotices s)) (s := raised (offNotices s f) s) (t := u)
    (by simpa using a.notices) (by simpa using a.alertN)
  refine ⟨fun q => ?_, fun k => ?_, fun n => ?_, ?_, ?_, a.frame.trans b.frame⟩
  · rw [b.outlet q, feedOf_congr a.frame.activeMap]
    by_cases hq : ∃ g ∈ l, s.feedOf q = some g
    · obtain ⟨g, hg, hqg⟩ := hq
      rw [if_pos ⟨g, hg, hqg⟩, if_pos ⟨g, List.mem_cons_of_mem f hg, hqg⟩,
        a.offOutlet_other hqg (hother g hg) (hl g hg).2]
    · rw [if_neg hq, a.outlet q]
      simp only [List.mem_cons, List.not_mem_nil, or_false, exists_eq_left, or_and_right, exists_or, hq]
  · rw [b.gang k]
    by_cases hk : Feed.gang k ∈ l
    · rw [if_pos hk, if_pos (List.mem_cons_of_mem f hk), a.offGang_other (hl _ hk).1 (hother _ hk) (hl _ hk).2]
    · rw [if_neg hk, a.gang k]
      simp only [List.mem_cons, List.not_mem_nil, or_false, hk]
  · rw [b.slot n, a.slot n, offSlot_cons]
  · rw [b.notices, hnot, List.flatMap_cons, raised_append, hr.1]
  · rw [b.alertN, hnot, List.flatMap_cons, raised_append, hr.2]

end

theorem offAmong_nil (c : StopCause) (o : Completion) (s : State) : OffAmong c o [] s s where
  outlet q := by simp
  gang g := by simp
  slot n := by
    cases hn : s.slot n with
    | pending op f => simp [offSlot]
    | _ => rfl
  notices := rfl
  alertN := rfl
  frame := rfl

/-- POWER_OFF with ALL feed after feed: what it leaves, and what it counts (R153). -/
theorem offAmong_fold (l : List Feed) (hnd : l.Nodup) {t : State × Nat} (hm : mapsOk t.1)
    (hl : ∀ f ∈ l, isFeed t.1 f ∧ PairedAt t.1 f) :
    OffAmong .host .cancelled l t.1 (l.foldl offOne t).1 ∧
      (l.foldl offOne t).2 = t.2 + (l.filter fun f => offChanges (t.1.feedState f)).length := by
  induction l generalizing t with
  | nil => exact ⟨offAmong_nil .host .cancelled t.1, rfl⟩
  | cons f l ih =>
    obtain ⟨hfl, hnd⟩ := List.nodup_cons.1 hnd
    obtain ⟨hf, hp⟩ := hl f List.mem_cons_self
    have hl' := fun g hg => hl g (List.mem_cons_of_mem f hg)
    have hne : ∀ g ∈ l, g ∉ [f] := fun g hg e => hfl (List.mem_singleton.1 e ▸ hg)
    obtain ⟨a, ha⟩ := offAmong_offOne hm hf hp
    obtain ⟨b, hb⟩ := ih hnd (mapsOk_fixed (fixed_offOne t f) hm) fun g hg =>
      ⟨(isFeed_congr a.frame.activeMap g).2 (hl' g hg).1,
        a.pairedAt_other (hl' g hg).1 (hne g hg) (hl' g hg).2⟩
    refine ⟨a.cons b hfl hl', ?_⟩
    have hcount : (l.filter fun g => offChanges ((offOne t f).1.feedState g)) =
        l.filter fun g => offChanges (t.1.feedState g) :=
      List.filter_congr fun g hg => by rw [State.feedState, a.feedRec_other (hl' g hg).1 (hne g hg)]; rfl
    rw [List.foldl_cons, hb, ha, hcount, List.filter_cons]
    split
    · rw [List.length_cons]; omega
    · rfl

/-! ## Every feed (R153) -/

/-- `feeds` lists the feeds in ascending order of their lowest outlets. -/
theorem feedsInOrder_feeds {s : State} (hm : mapsOk s) : feedsInOrder s s.feeds := by
  refine ⟨fun f => mem_feeds hm, ?_⟩
  refine List.Pairwise.filterMap s.leads (R := (· < ·)) (fun p q hpq f hf g hg => ?_) (by decide)
  obtain ⟨-, hhead⟩ := leads_iff.1 hf
  obtain ⟨-, hhead'⟩ := leads_iff.1 hg
  refine ⟨p, List.mem_of_mem_head? hhead, fun r hr => ?_⟩
  obtain ⟨rest, hrest⟩ : ∃ rest, s.outletsOf g = q :: rest := List.head?_eq_some_iff.1 hhead'
  have hsorted := outletsOf_sorted hm g
  rw [hrest] at hr hsorted
  rcases List.mem_cons.1 hr with rfl | hr
  · exact hpq
  · exact hpq.trans (List.rel_of_pairwise_cons hsorted hr)

section
variable {c : StopCause} {o : Completion} {s t : State} (a : OffAmong c o s.feeds s t) (hm : mapsOk s)
include a hm

/-- Every feed's state is the off state. -/
theorem OffAmong.feedState_all {f : Feed} (hf : isFeed s f) : t.feedState f = offState c (s.feedState f) := by
  have hfs := (mem_feeds hm).2 hf
  cases f with
  | solo q =>
    have hq : s.feedOf q = some (.solo q) := hf
    rw [State.feedState, State.feedRec, a.outlet q, if_pos ⟨_, hfs, hq⟩, offOutlet, if_pos hq]
    rfl
  | gang g =>
    rw [State.feedState, State.feedRec, a.gang g, if_pos hfs]
    rfl

/-- With every feed off the queue is empty, the claim is gone and nothing counts as active. -/
theorem OffAmong.vacated (hp : powerOk t) : t.queue = [] ∧ t.claim = none ∧ t.active = 0 := by
  have hstate : ∀ f, isFeed t f → offChanges (t.feedState f) = false := fun f hf => by
    rw [a.feedState_all hm ((isFeed_congr a.frame.activeMap f).1 hf)]
    exact offChanges_offState c _
  have hactive : t.active = drawSum t := ((powerOk_iff t).1 hp).1.active
  obtain ⟨-, hout, ⟨hentries, -, -⟩, hclaim, -⟩ := hp
  have hq : t.queue = [] := List.eq_nil_iff_forall_not_mem.2 fun e he => by
    obtain ⟨hf, hst, -⟩ := hentries e he
    have hno := hstate _ hf
    rw [hst] at hno
    cases hno
  refine ⟨hq, Option.eq_none_iff_forall_not_mem.2 fun k hk => ?_, ?_⟩
  · obtain ⟨e, he, -⟩ := hclaim k hk
    rw [hq] at he
    cases he
  · have hoff : ∀ p, t.outletPowered p = false := fun p => by
      cases hf : t.feedOf p with
      | none => simp [State.outletPowered, outletState_unmapped hf]
      | some f =>
        rw [outletPowered_of_feed hf]
        exact powered_of_off (hstate f (isFeed_of_feedOf hf))
    rw [hactive, drawSum, outletSum_eq]
    exact Finset.sum_eq_zero fun p _ => by simp [OutletRec.draw, (outletOk_holds (hout p)).1, hoff p]

theorem OffAmong.allOff (hs : slotsOk s) (hp : powerOk t) : Safety.allOff c o s t := by
  obtain ⟨hq, hc, ha⟩ := a.vacated hm hp
  refine ⟨fun q => ?_, fun g => ?_, fun n => ?_, ?_⟩
  · rw [a.outlet q]
    cases hf : s.feedOf q with
    | none => simp [State.outletPowered, outletState_unmapped hf]
    | some f => rw [if_pos ⟨f, (mem_feeds hm).2 (isFeed_of_feedOf hf), rfl⟩, offOutlet, hf]
  · rw [a.gang g]
    exact ite_congr (propext (mem_feeds hm)) (fun _ => rfl) fun _ => rfl
  · rw [a.slot n]
    cases hn : s.slot n with
    | pending op f => simp [offSlot, (mem_feeds hm).2 (hs.1 n op f hn).1]
    | _ => rfl
  · have hframe := a.frame
    rw [OffFrame, hq, hc, ha] at hframe
    exact hframe

end

/-- Settles O28: `feeds` is the order, feed after feed is turned off, and the pass finds an empty queue. -/
theorem powerOffAllTurnsEveryFeedOff : Obligations.PowerOffAllTurnsEveryFeedOff := by
  intro seq s hlive hp hs
  have hm := hp.1
  have hfeeds : ∀ f ∈ s.feeds, isFeed s f := fun _ hf => (mem_feeds hm).1 hf
  obtain ⟨a, hn⟩ := offAmong_fold s.feeds (feeds_nodup s) (t := (s, 0)) hm fun f hf =>
    ⟨hfeeds f hf, pairedAt_of_slotsOk hs (hfeeds f hf)⟩
  have hp' := (lowers_offAll s.feeds (s, 0) hfeeds).powerOk hp
  obtain ⟨hq, -, -⟩ := a.vacated hm hp'
  refine ⟨(s.feeds.foldl offOne (s, 0)).1, s.feeds, feedsInOrder_feeds hm, a.allOff hm hs hp', a.notices, a.alertN,
    exec_answered rfl (by decide) hlive ?_⟩
  show (passIf _ (s.feeds.foldl offOne (s, 0)).1, done [byte (s.feeds.foldl offOne (s, 0)).2]) = _
  rw [passIf_of_empty _ hq, hn, Nat.zero_add]
  rfl

end Sys2Proof.Machine
end


/-! # Raises (O8) -/

section
namespace Sys2Proof.Machine

open Sys2Proof.Safety

/-- A raise writes the list and ALERT_N alone. -/
theorem raise_of_raiseIn {subj : Subject} {fl : NoticeFlag} {s : State} {ns : List Notice}
    (h : raiseIn subj fl s.notices = ns) : raise subj fl s = { s with notices := ns, alertN := .low } := by
  rw [raise, h]

/-- Settles O8: the two cases of the raise on the list. -/
theorem raiseMergesOrAppends : Obligations.RaiseMergesOrAppends := by
  refine ⟨fun subj fl s front back n hlist hsubj hopen hfirst => raise_of_raiseIn ?_, fun subj fl s hnone =>
    raise_of_raiseIn (raiseIn_append subj fl s.notices hnone)⟩
  rw [hlist]
  exact raiseIn_merge subj fl front back n hsubj hopen hfirst

end Sys2Proof.Machine
end


/-! # FETCH_NOTICES (O37) -/

section
namespace Sys2Proof.Machine

open Sys2Proof.Safety

/-! ## The acknowledgement (R172) -/

/-- The acknowledgement removes the notice: its number is taken, and the notice was delivered no later. -/
def acksAway (ack : Nat) (s : State) (n : Notice) : Bool := s.ackTaken ack && ackedBy s.nextNumber ack n

theorem acked_eq (ack : Nat) (s : State) : s.acked ack = s.notices.filter (acksAway ack s) := by
  unfold State.acked acksAway
  cases s.ackTaken ack <;> simp

/-- The acknowledgement removes notices and frees their slots, and none when the number is not taken. -/
theorem acknowledge_cleared (ack : Nat) (s : State) : acknowledge ack s = cleared (fun n => !acksAway ack s n) s := by
  rw [acknowledge_eq]
  unfold acksAway
  cases s.ackTaken ack <;> simp [cleared]

theorem acknowledge_notices (ack : Nat) (s : State) :
    (acknowledge ack s).notices = s.notices.filter fun n => !acksAway ack s n := by
  rw [acknowledge_cleared, cleared_notices]

theorem acknowledge_slot (ack : Nat) (s : State) (n : SlotId) :
    (acknowledge ack s).slot n =
      if ∃ x ∈ s.notices, acksAway ack s x = true ∧ x.subject = .slot n then .free else s.slot n := by
  rw [acknowledge_cleared, cleared_slot]
  simp [and_assoc]

/-- Freed slots are all that changes beside the list. -/
theorem acknowledge_eq_slots (ack : Nat) (s : State) :
    acknowledge ack s = { s with slots := (acknowledge ack s).slots, notices := (acknowledge ack s).notices } := by
  rw [acknowledge_cleared]
  unfold cleared
  exact List.foldlRecOn (motive := fun t : State => t = { s with slots := t.slots, notices := t.notices }) _ freeSlotOf
    rfl fun t ht n _ => by
      unfold freeSlotOf
      split
      · rw [ht]; rfl
      · exact ht

/-! ## The delivery walk (R173) -/

/-- The notice may be delivered: OPEN, and no DELIVERED notice on its subject. -/
def isReady (held : Subject → Bool) (n : Notice) : Bool := n.isOpen && !held n.subject

/-- The notice delivered with a number and the snapshot of its subject. -/
def deliveredWith (s : State) (k : Nat) (n : Notice) : Notice :=
  { n with status := .delivered k (s.snapshot n.subject) }

section
variable (s : State) {held : Subject → Bool}

theorem deliver_zero (next : Nat) (ns : List Notice) : deliver s held 0 next ns = (ns, [], next) := by
  cases ns <;> rfl

theorem deliver_ready {n : Notice} (hn : isReady held n = true) (limit next : Nat) (ns : List Notice) :
    deliver s held (limit + 1) next (n :: ns) =
      (deliveredWith s next n :: (deliver s held limit (numberAfter next) ns).1,
        deliveredWith s next n :: (deliver s held limit (numberAfter next) ns).2.1,
        (deliver s held limit (numberAfter next) ns).2.2) := by
  rw [deliver]
  exact if_pos hn

theorem deliver_other {n : Notice} (hn : isReady held n = false) (limit next : Nat) (ns : List Notice) :
    deliver s held limit next (n :: ns) =
      (n :: (deliver s held limit next ns).1, (deliver s held limit next ns).2.1,
        (deliver s held limit next ns).2.2) := by
  cases limit with
  | zero => simp [deliver_zero]
  | succ limit =>
    rw [deliver]
    exact if_neg (by rw [← isReady, hn]; decide)

/-- The notices delivered are the first ready ones, up to the limit, and each takes one number. -/
theorem deliver_count (limit next : Nat) (ns : List Notice) :
    (deliver s held limit next ns).2.1.length = min limit (ns.filter (isReady held)).length ∧
    (deliver s held limit next ns).2.2 = numberAfter^[min limit (ns.filter (isReady held)).length] next := by
  induction ns generalizing limit next with
  | nil => cases limit <;> simp [deliver]
  | cons n ns ih =>
    cases hn : isReady held n with
    | false => simpa [deliver_other s hn, hn] using ih limit next
    | true =>
      cases limit with
      | zero => simp [deliver_zero]
      | succ limit =>
        obtain ⟨hlen, hnum⟩ := ih limit (numberAfter next)
        rw [deliver_ready s hn, List.filter_cons_of_pos hn, List.length_cons, List.length_cons,
          Nat.add_min_add_right]
        exact ⟨congrArg Nat.succ hlen, hnum⟩

theorem deliver_length (limit next : Nat) (ns : List Notice) :
    (deliver s held limit next ns).1.length = ns.length := by
  simpa using congrArg List.length (deliver_subjects s held limit next ns)

/-- A notice is delivered in its place if it is ready and the notices delivered before it leave room. -/
theorem deliver_getElem? {limit next i : Nat} {ns : List Notice} {n : Notice} (hi : ns[i]? = some n) :
    (deliver s held limit next ns).1[i]? =
      if isReady held n = true ∧ ((ns.take i).filter (isReady held)).length < limit then
        some (deliveredWith s (numberAfter^[((ns.take i).filter (isReady held)).length] next) n)
      else some n := by
  induction ns generalizing limit next i with
  | nil => simp at hi
  | cons m ns ih =>
    cases hm : isReady held m with
    | false =>
      rw [deliver_other s hm]
      cases i with
      | zero =>
        obtain rfl : m = n := by simpa using hi
        simp [hm]
      | succ i => simpa [hm] using ih hi
    | true =>
      cases limit with
      | zero => simp [deliver_zero, hi]
      | succ limit =>
        rw [deliver_ready s hm]
        cases i with
        | zero =>
          obtain rfl : m = n := by simpa using hi
          simp [hm]
        | succ i => simpa [hm] using ih (limit := limit) (next := numberAfter next) (i := i) hi

/-- The notices delivered are those of the new list that the old one does not hold, `kept` being any list that holds
the old ones and no DELIVERED one on a subject that is not held back. -/
theorem deliver_new {kept : List Notice} (hheld : ∀ m ∈ kept, held m.subject = false → m.status = .opened)
    (limit next : Nat) {ns : List Notice} (hns : ∀ n ∈ ns, n ∈ kept) :
    (deliver s held limit next ns).1.filter (fun n => decide (n ∉ kept)) = (deliver s held limit next ns).2.1 := by
  have hold : ns.filter (fun n => decide (n ∉ kept)) = [] := by simpa using hns
  induction ns generalizing limit next with
  | nil => cases limit <;> rfl
  | cons n ns ih =>
    have hn := hns n (by simp)
    have hrest : ∀ m ∈ ns, m ∈ kept := fun m hm => hns m (by simp [hm])
    have hold' : ns.filter (fun n => decide (n ∉ kept)) = [] := by simpa using hrest
    cases hr : isReady held n with
    | false =>
      rw [deliver_other s hr, List.filter_cons_of_neg (by simpa using hn)]
      exact ih limit next hrest hold'
    | true =>
      cases limit with
      | zero => rw [deliver_zero]; exact hold
      | succ limit =>
        have hnew : deliveredWith s next n ∉ kept := fun hm => by
          have hh : held n.subject = false := by
            have := Bool.and_eq_true_iff.1 hr
            simpa using this.2
          cases hheld _ hm hh
        rw [deliver_ready s hr, List.filter_cons_of_pos (by simpa using hnew)]
        exact congrArg _ (ih limit (numberAfter next) hrest hold')

end

/-! ## The request (R171 to R174) -/

theorem ackTaken_iff (ack : Nat) (s : State) : s.ackTaken ack = true ↔ ∃ n ∈ s.notices, n.number? = some ack := by
  simp [State.ackTaken]

theorem acksAway_iff (ack : Nat) (s : State) (n : Notice) :
    acksAway ack s n = true ↔ s.ackTaken ack = true ∧
      ∃ k, n.number? = some k ∧ ageOf s.nextNumber ack ≤ ageOf s.nextNumber k := by
  unfold acksAway ackedBy
  rw [Bool.and_eq_true_iff]
  cases n.number? <;> simp

theorem isReady_iff (ns : List Notice) (n : Notice) :
    isReady (heldBack ns) n = true ↔ n.status = .opened ∧ ∀ m ∈ ns, m.subject = n.subject → m.status = .opened := by
  simp [isReady, heldBack, Notice.isOpen]

/-- A subject that is not held back has OPEN notices alone. -/
theorem opened_of_not_heldBack {ns : List Notice} {n : Notice} (hn : n ∈ ns) (h : heldBack ns n.subject = false) :
    n.status = .opened := by
  simpa [Notice.isOpen] using List.any_eq_false.1 h n hn

theorem alertFor_eq (ns : List Notice) : alertFor ns = if ∃ n ∈ ns, n.status = .opened then .low else .high :=
  if_congr (by simp [Notice.isOpen]) rfl rfl

theorem deliveredOf_eq (ns : List Notice) : deliveredOf ns = ns.filter fun n => decide (n.status ≠ .opened) :=
  List.filter_congr fun n _ => by simp [Notice.isOpen]

theorem flagByte_not (b : Bool) : flagByte (!b) = if b = true then 0x00#8 else 0x01#8 := by
  cases b <;> rfl

/-- The number the reply names (R174): that of the latest delivery, 0 without one. -/
theorem lastDelivered_getD (next : Nat) (ns : List Notice) :
    ((∀ n ∈ ns, n.status = .opened) → (lastDelivered next ns).getD 0 = 0) ∧
    ((∃ n ∈ ns, n.status ≠ .opened) →
      (∃ n ∈ ns, n.number? = some ((lastDelivered next ns).getD 0)) ∧
        ∀ n ∈ ns, ∀ k, n.number? = some k → ageOf next ((lastDelivered next ns).getD 0) ≤ ageOf next k) := by
  obtain ⟨hnone, hsome⟩ := lastDelivered_spec next ns
  refine ⟨fun h => by rw [hnone h]; rfl, fun h => ?_⟩
  obtain ⟨k, hk, hlast⟩ := hsome h
  rw [hk]
  exact hlast

section
variable (ack limit : Nat) (s : State)

/-- The list the acknowledgement leaves. -/
def keptBy : List Notice := s.notices.filter fun n => !acksAway ack s n

/-- The delivery walk of a fetch. -/
def delivery : List Notice × List Notice × Nat :=
  deliver (acknowledge ack s) (heldBack (keptBy ack s)) limit s.nextNumber (keptBy ack s)

theorem fetch_eq_delivery :
    fetch ack limit s =
      ({ s with
          slots := (acknowledge ack s).slots, notices := (delivery ack limit s).1
          nextNumber := (delivery ack limit s).2.2, alertN := alertFor (delivery ack limit s).1 },
        done ([flagByte (!s.ackTaken ack), byte (s.notices.filter (acksAway ack s)).length,
          byte (openCount (delivery ack limit s).1), byte (deliveredOf (delivery ack limit s).1).length] ++
          be16 ((lastDelivered (delivery ack limit s).2.2 (delivery ack limit s).1).getD 0) ++
          [byte (delivery ack limit s).2.1.length] ++ (delivery ack limit s).2.1.flatMap Notice.bytes)) := by
  have hstate := acknowledge_eq_slots ack s
  have hnum : (acknowledge ack s).nextNumber = s.nextNumber := by rw [hstate]
  have hwalk : deliver (acknowledge ack s) (heldBack (acknowledge ack s).notices) limit (acknowledge ack s).nextNumber
      (acknowledge ack s).notices = delivery ack limit s := by
    rw [hnum, acknowledge_notices]
    rfl
  unfold fetch
  dsimp only
  rw [hwalk, acked_eq]
  exact congrArg (fun t : State => ({ t with
    notices := (delivery ack limit s).1, nextNumber := (delivery ack limit s).2.2
    alertN := alertFor (delivery ack limit s).1 }, _)) hstate

/-- A snapshot sees the slots and not the list (R170). -/
theorem acknowledge_snapshot (x : Subject) :
    (acknowledge ack s).snapshot x = State.snapshot { s with slots := (acknowledge ack s).slots } x := by
  rw [acknowledge_eq_slots]
  cases x <;> rfl

/-- FETCH_NOTICES with a limit of at most 4 is the fetch of its two numbers (R171, R202). -/
theorem handle_fetchNotices {ack limit : Nat} (seq : Byte) (hack : ack < 65536) (hlim : limit ≤ 4) :
    handle (mkFrame seq 0x40#8 (be16 ack ++ [byte limit])) s = fetch ack limit s := by
  have hbyte : (byte limit).toNat = limit := by simp [byte]; omega
  show (if (byte limit).toNat ≤ 4 then fetch (num16 (byte (ack / 256)) (byte ack)) (byte limit).toNat s
    else refuse s .badValue) = _
  rw [hbyte, if_pos hlim, num16_be16 hack]

/-- A limit above 4 is refused (R171). -/
theorem handle_fetchNotices_limit {hi lo limit : Byte} (seq : Byte) (hlim : 4 < limit.toNat) :
    handle (mkFrame seq 0x40#8 [hi, lo, limit]) s = refuse s .badValue := by
  show (if limit.toNat ≤ 4 then fetch (num16 hi lo) limit.toNat s else refuse s .badValue) = _
  rw [if_neg (by omega)]

end

/-- Settles O37: the acknowledgement removes `acksAway`, the walk is `delivery`, and the reply reports both. -/
theorem fetchAcknowledgesAndDelivers : Obligations.FetchAcknowledgesAndDelivers := by
  refine ⟨?_, fun seq hi lo limit s hlive hlim =>
    exec_answered rfl (by decide) hlive (handle_fetchNotices_limit s seq hlim)⟩
  intro seq ack limit s hlive hack hlim payload number age taken gone kept ready before next
  have hnumber : number = Notice.number? := funext fun n => by
    unfold Notice.number?
    cases h : n.status <;> simp only [number, h]
  have htaken : taken ↔ s.ackTaken ack = true := by
    rw [ackTaken_iff, ← hnumber]
  have hgone : gone = acksAway ack s := funext fun n => by
    rw [Bool.eq_iff_iff, acksAway_iff, ← htaken, ← hnumber]
    exact decide_eq_true_iff
  have hkept : kept = keptBy ack s := by
    rw [keptBy, ← hgone]
  have hready : ready = isReady (heldBack kept) := funext fun n => by
    rw [Bool.eq_iff_iff, isReady_iff]
    exact decide_eq_true_iff
  have hbefore : ∀ i, before i = ((kept.take i).filter ready).length := fun _ => rfl
  have hnext : ∀ j, next j = numberAfter^[j] s.nextNumber := fun _ => rfl
  clear_value next before ready kept gone
  subst hgone hkept hready
  obtain ⟨hcount, hnum⟩ := deliver_count (acknowledge ack s) (held := heldBack (keptBy ack s)) limit s.nextNumber
    (keptBy ack s)
  refine ⟨_, _, exec_answered rfl (by decide) hlive
    ((handle_fetchNotices s seq hack hlim).trans (fetch_eq_delivery ack limit s)), acknowledge_slot ack s,
    deliver_length _ _ _ _, fun i n hi => ?_, hnum.trans (hnext _).symm, alertFor_eq _, rfl, ?_,
    ⟨_, rfl, ?_⟩, ?_⟩
  · refine (deliver_getElem? _ hi).trans ?_
    rw [hbefore, hnext, deliveredWith, acknowledge_snapshot]
  · have hflag : flagByte (!s.ackTaken ack) = if taken then 0x00#8 else 0x01#8 :=
      (flagByte_not _).trans (if_congr htaken.symm rfl rfl)
    rw [← hflag, ← deliveredOf_eq]
    rfl
  · rw [hnumber]
    exact lastDelivered_getD _ _
  · have hnew := deliver_new (acknowledge ack s) (fun _ => opened_of_not_heldBack) limit s.nextNumber
      (fun _ (h : _ ∈ keptBy ack s) => h)
    exact congrArg₂ List.cons (congrArg byte hcount) (congrArg (List.flatMap Notice.bytes) hnew.symm)

end Sys2Proof.Machine
end


/-! # ALERT_N and the auxiliary outputs at every step (O57)

`AlertLive` is what the effects of a part outside a hard reset keep: only raises and fetches write the Notice List, and
each leaves ALERT_N at the level of its list. `driveAux` then ends the command, so the auxiliary outputs follow. -/

section
namespace Sys2Proof.Machine

open Sys2Proof.Safety

/-! ## ALERT_N outside a hard reset (R176) -/

/-- No hard reset lasts, and ALERT_N has the level of the Notice List. -/
def AlertLive (s : State) : Prop := s.inReset = false ∧ s.alertN = alertFor s.notices

namespace AlertLive

variable {s : State}

/-- A change outside reset causes, notices and ALERT_N. -/
theorem congr {t : State} (h : AlertLive s) (hr : t.resetBy = s.resetBy) (hn : t.notices = s.notices)
    (ha : t.alertN = s.alertN) : AlertLive t := by
  unfold AlertLive State.inReset at *
  rwa [hr, hn, ha]

theorem foldl {α : Type} {g : State → α → State} (hg : ∀ {t x}, AlertLive t → AlertLive (g t x)) (l : List α)
    (h : AlertLive s) : AlertLive (l.foldl g s) :=
  l.foldlRecOn (motive := AlertLive) g h fun _ ht _ _ => hg ht

/-- A raise leaves an OPEN notice in the list and ALERT_N low (R168, R176). -/
theorem raise {subj : Subject} {fl : NoticeFlag} (h : AlertLive s) : AlertLive (raise subj fl s) :=
  ⟨h.1, by simp [Machine.raise, alertFor, raiseIn_open]⟩

theorem updOutlet {p : OutletId} {f : OutletRec → OutletRec} (h : AlertLive s) : AlertLive (updOutlet p f s) :=
  h.congr rfl rfl rfl

theorem updGang {g : GangId} {f : GangRec → GangRec} (h : AlertLive s) : AlertLive (updGang g f s) :=
  h.congr rfl rfl rfl

theorem updFeed {f : Feed} {g : FeedRec → FeedRec} (h : AlertLive s) : AlertLive (updFeed f g s) := by
  cases f with
  | solo p => exact h.updOutlet
  | gang g => exact h.updGang

theorem setState {f : Feed} {st : FeedState} (h : AlertLive s) : AlertLive (setState f st s) := h.updFeed

theorem redirect {f : Feed} {c : StopCause} {d : Dest} (h : AlertLive s) : AlertLive (redirect f c d s) := h.setState

theorem leaveRetry {f : Feed} (h : AlertLive s) : AlertLive (leaveRetry f s) := h.updFeed

theorem setLink {l : LinkRec} (h : AlertLive s) : AlertLive { s with link := l } := h.congr rfl rfl rfl

theorem setInput {l : LineId} {i : InputLine} (h : AlertLive s) : AlertLive (setInput l i s) := by
  cases l <;> exact h.congr rfl rfl rfl

/-! ## Slots and completions (R147 to R149) -/

theorem bindSlot {n : SlotId} {op : SlotOp} {f : Feed} (h : AlertLive s) : AlertLive (bindSlot n op f s) :=
  updFeed (s := s.setSlot n _) (h.congr rfl rfl rfl)

theorem completeOp {k : PowerKind} {o : Completion} {f : Feed} (h : AlertLive s) : AlertLive (completeOp k o f s) := by
  unfold Machine.completeOp
  split
  · exact h
  · split
    · exact ite_keeps (fun _ => (updFeed (s := s.setSlot _ _) (h.congr rfl rfl rfl)).raise) h
    · exact h

/-! ## The queue (R46, R47, R60) -/

theorem enterQueued {f : Feed} {o : Origin} (h : AlertLive s) : AlertLive (enterQueued f o s) :=
  h.updFeed.congr rfl rfl rfl

theorem withdraw {f : Feed} (h : AlertLive s) : AlertLive (withdraw f s) :=
  setState (s := dequeued f s) (h.congr rfl rfl rfl)

theorem updEntry {f : Feed} {g : Entry → Entry} (h : AlertLive s) : AlertLive (updEntry f g s) := by
  unfold Machine.updEntry
  split
  · exact h.congr rfl rfl rfl
  · exact h

/-! ## Stops, faults and grants -/

theorem stopFeed {f : Feed} {c : StopCause} {d : Dest} (h : AlertLive s) : AlertLive (stopFeed f c d s) := by
  have hout : AlertLive ((s.outletsOf f).foldl stopOutlet s) :=
    h.foldl (g := stopOutlet) (fun h => h.congr rfl rfl rfl) _
  cases f with
  | solo p => exact hout.updFeed
  | gang g => exact hout.updGang

theorem recordFault {f : Feed} {p : OutletId} {c : FaultCause} (h : AlertLive s) : AlertLive (recordFault f p c s) := by
  cases f with
  | solo q => exact h.updFeed.updOutlet
  | gang g => exact h.updFeed.updOutlet.updGang

theorem raiseFault {f : Feed} {p : OutletId} (h : AlertLive s) : AlertLive (raiseFault f p s) := by
  cases f with
  | solo q => exact h.raise
  | gang g => exact h.raise.raise

theorem faultFeed {f : Feed} {p : OutletId} {c : FaultCause} (h : AlertLive s) : AlertLive (faultFeed f p c s) :=
  ite_keeps (fun _ => h.recordFault.stopFeed.raiseFault.raise) h.recordFault.completeOp.stopFeed.raiseFault.raise

theorem takeFault {p : OutletId} {c : FaultCause} (h : AlertLive s) : AlertLive (takeFault p c s) := by
  unfold Machine.takeFault
  split
  · exact h
  · exact ite_keeps (fun _ => h.faultFeed) h

theorem qualify {p : OutletId} (h : AlertLive s) : AlertLive (qualify p s) := by
  unfold Machine.qualify
  dsimp only
  split
  · exact h.updOutlet.takeFault
  · split
    · exact h.updOutlet.updOutlet
    · exact h.updOutlet.updOutlet.takeFault

theorem examine {p : OutletId} (h : AlertLive s) : AlertLive (examine p s) :=
  ite_keeps (fun _ => h.qualify) h.updOutlet

theorem afterGrant {ps : List OutletId} (h : AlertLive s) : AlertLive (afterGrant ps s) := by
  unfold Machine.afterGrant
  split
  · split
    · exact h.takeFault
    · exact h
  · exact h.foldl (fun h => ite_keeps (fun _ => h.examine) h) ps

theorem grantFeed {f : Feed} (h : AlertLive s) : AlertLive (grantFeed f s) := by
  have hout : AlertLive ((s.outletsOf f).foldl (grantOutlet (s.grantStamps + 1))
      { s with grantStamps := s.grantStamps + 1 }) :=
    foldl (g := grantOutlet _) (fun h => h.congr rfl rfl rfl) _ (h.congr rfl rfl rfl)
  exact hout.setState.raise.afterGrant

theorem stopVictim {c : StopCause} {f : Feed} (h : AlertLive s) : AlertLive (stopVictim c f s) := by
  unfold Machine.stopVictim
  dsimp only
  split
  · exact h.stopFeed.raise.raise.completeOp
  · exact h.stopFeed.raise.raise

/-! ## The pass and the budget -/

theorem grantEntry {e : Entry} (h : AlertLive s) : AlertLive (grantEntry e s) :=
  grantFeed (h.congr rfl rfl rfl)

theorem claimantStage (h : AlertLive s) : AlertLive (claimantStage s) := by
  unfold Machine.claimantStage
  split
  · exact h
  · split
    · exact h
    · exact ite_keeps (fun _ => h.grantEntry) h

theorem walk {m : AdmissionMode} {es : List Entry} {b : Option Entry} (h : AlertLive s) :
    AlertLive (walk m es b s).1 := by
  induction es generalizing b s with
  | nil => exact h
  | cons e es ih =>
    rw [walk_cons]
    split
    · exact ih h
    · split
      · exact ih h.grantEntry
      · split
        · exact h
        · exact ih h

theorem preempt {e : Entry} (h : AlertLive s) : AlertLive (preempt e s) := by
  unfold Machine.preempt
  split
  · split
    · exact h
    · next vs _ =>
      exact (h.foldl (g := fun t r => Machine.stopVictim .preempt r.feed t) stopVictim vs).congr rfl rfl rfl
  · exact h

theorem pass (h : AlertLive s) : AlertLive (pass s) := by
  unfold Machine.pass
  split
  · exact h
  · dsimp only
    split
    · exact h.claimantStage.walk
    · exact h.claimantStage.walk.preempt

theorem passIf {b : Bool} (h : AlertLive s) : AlertLive (passIf b s) := ite_keeps (fun _ => h.pass) h

theorem shedAll (h : AlertLive s) : AlertLive (shedAll s).1 :=
  s.victims.foldlRecOn (motive := fun t => AlertLive t.1) shedStep h fun _ ht _ _ => by
    unfold shedStep
    split
    · exact ht
    · exact ht.stopVictim

theorem recompute (h : AlertLive s) : AlertLive (recompute s).1 := by
  have hrefit (c : Option Claim) : AlertLive (refit { s with budget := s.budgetNow, claim := c }) :=
    h.congr rfl rfl rfl
  unfold Machine.recompute
  dsimp only
  split
  · exact (hrefit none).shedAll.raise.passIf
  · split
    · exact (hrefit s.claim).raise.pass
    · exact h

/-! ## Discharges -/

theorem returnAlloc {p : OutletId} (h : AlertLive s) : AlertLive (returnAlloc p s) := h.congr rfl rfl rfl

theorem enterDest {f : Feed} {d : Dest} (h : AlertLive s) : AlertLive (enterDest f d s) := by
  cases d with
  | off => exact h.setState
  | queued => exact h.enterQueued
  | retryWait => exact h.updFeed
  | latched => exact h.setState

theorem soloDischarged {p : OutletId} {d : Dest} (h : AlertLive s) : AlertLive (soloDischarged p d s) :=
  h.returnAlloc.enterDest.raise.completeOp.pass

theorem soloTimeout {p : OutletId} (h : AlertLive s) : AlertLive (soloTimeout p s) :=
  h.returnAlloc.updOutlet.setState.raise.completeOp.completeOp.raise.pass

theorem gangLeaves {g : GangId} (h : AlertLive s) : AlertLive (gangLeaves g s) := by
  unfold Machine.gangLeaves
  split
  · exact h.enterDest.completeOp.raise
  · exact h

theorem memberReturned {g : GangId} (h : AlertLive s) : AlertLive (memberReturned g s) :=
  pass (ite_keeps (fun _ => h.gangLeaves) h)

theorem memberTimeout {g : GangId} {c : StopCause} {p : OutletId} (h : AlertLive s) :
    AlertLive (memberTimeout g c p s) :=
  h.returnAlloc.updOutlet.redirect.updGang.completeOp.raise.raise.memberReturned

/-! ## Power requests -/

theorem powerOnEffect {f : Feed} (h : AlertLive s) : AlertLive (powerOnEffect f s) := by
  unfold Machine.powerOnEffect
  split
  · exact h.enterQueued.raise.pass
  · exact h

theorem reqPowerOn {fr : Frame} (h : AlertLive s) : AlertLive (reqPowerOn fr s).1 := by
  unfold Machine.reqPowerOn
  split
  · split
    · exact h
    · rcases powerOnFeed_state fr _ _ s with e | ⟨n, e⟩
      · rw [e]; exact h
      · rw [e]; exact h.bindSlot.powerOnEffect
  · exact h

theorem powerOffFeed {fr : Frame} {b : Byte} {f : Feed} (h : AlertLive s) : AlertLive (powerOffFeed fr b f s).1 := by
  unfold Machine.powerOffFeed
  dsimp only
  split
  · exact h
  · exact h
  · exact h.withdraw.raise.completeOp.pass
  · exact h.leaveRetry.raise.completeOp
  · split
    · exact h
    · exact h.completeOp.stopFeed.raise.bindSlot
  · split
    · exact h
    · exact h.completeOp.stopFeed.raise.bindSlot
  · split
    · exact h
    · split
      · exact h
      · exact h.redirect.completeOp.bindSlot

theorem offOne {t : State × Nat} {f : Feed} (h : AlertLive t.1) : AlertLive (offOne t f).1 := by
  unfold Machine.offOne
  dsimp only
  split
  · exact h
  · exact h
  · exact h.withdraw.raise.completeOp
  · exact h.leaveRetry.raise.completeOp
  · exact h.stopFeed.raise.completeOp
  · exact h.stopFeed.raise.completeOp
  · exact h.redirect.completeOp
  · exact h.redirect.completeOp
  · exact h
  · exact h

theorem powerOffEvery (h : AlertLive s) : AlertLive (powerOffEvery s).1 :=
  passIf (s.feeds.foldlRecOn (motive := fun t => AlertLive t.1) Machine.offOne h fun _ ht _ _ => ht.offOne)

theorem reqPowerOff {fr : Frame} (h : AlertLive s) : AlertLive (reqPowerOff fr s).1 := by
  unfold Machine.reqPowerOff
  split
  · split
    · exact h.powerOffEvery
    · split
      · exact h
      · exact h.powerOffFeed
  · exact h

theorem reqClearFault {fr : Frame} (h : AlertLive s) : AlertLive (reqClearFault fr s).1 := by
  unfold Machine.reqClearFault clearFeed
  split
  · split
    · exact h
    · dsimp only
      split
      · exact h.updFeed.raise
      · exact h.updFeed
  · exact h

/-! ## Profile writes -/

theorem amountWritten {f : Feed} (h : AlertLive s) : AlertLive (amountWritten f s).1 := by
  unfold Machine.amountWritten
  dsimp only
  split
  · split
    · exact h.updEntry.congr rfl rfl rfl
    · exact h.updEntry.congr rfl rfl rfl
  · exact h.updEntry

theorem priorityWritten {f : Feed} {v : Nat} (h : AlertLive s) : AlertLive (priorityWritten f v s).1 := by
  unfold Machine.priorityWritten
  split
  · exact h.updEntry
  · exact h

theorem writePair {p : OutletId} {f : ProfileField} {v : Nat} (h : AlertLive s) : AlertLive (writePair p f v s).1 := by
  unfold Machine.writePair
  dsimp only
  split
  · split
    · split
      · exact h.updOutlet.amountWritten
      · exact h.updOutlet
    · exact h.updOutlet
  · split
    · exact h.updOutlet.priorityWritten
    · exact h.updOutlet
  · exact h.updOutlet.updOutlet
  · split
    · exact h.updOutlet
    · exact h.updOutlet.updOutlet
  · exact h.updOutlet.updOutlet
  · exact h.updOutlet

theorem writeGangPair {g : GangId} {f : GangField} {v : Nat} (h : AlertLive s) :
    AlertLive (writeGangPair g f v s).1 := by
  unfold Machine.writeGangPair
  dsimp only
  split
  · split
    · exact h.updGang.priorityWritten
    · exact h.updGang
  · exact h.updGang

theorem reqSetProfile {fr : Frame} (h : AlertLive s) : AlertLive (reqSetProfile fr s).1 := by
  have hpairs (p : OutletId) (l : List (ProfileField × Nat)) : AlertLive (writePairs p l s).1 :=
    l.foldlRecOn (motive := fun t : State × Bool => AlertLive t.1) _ h fun _ ht _ _ => ht.writePair
  unfold Machine.reqSetProfile setProfileOf
  split
  · exact h
  · split
    · exact h
    · split
      · split
        · exact h
        · split
          · exact h
          · split
            · exact h
            · exact (hpairs _ _).passIf
      · exact h

theorem reqSetGangProfile {fr : Frame} (h : AlertLive s) : AlertLive (reqSetGangProfile fr s).1 := by
  have hpairs (g : GangId) (l : List (GangField × Nat)) : AlertLive (writeGangPairs g l s).1 :=
    l.foldlRecOn (motive := fun t : State × Bool => AlertLive t.1) _ h fun _ ht _ _ => ht.writeGangPair
  unfold Machine.reqSetGangProfile setGangProfileOf
  split
  · exact h
  · split
    · exact h
    · split
      · split
        · exact h
        · split
          · exact h
          · split
            · exact h
            · exact (hpairs _ _).passIf
      · exact h

/-! ## Supplies, policy and aging -/

theorem writeCapacity {k : SupplyId} {v : Option Nat} (h : AlertLive s) : AlertLive (writeCapacity k v s) := by
  unfold Machine.writeCapacity
  split
  · exact h
  · exact ite_keeps (fun _ => h) (raise (h.congr rfl rfl rfl))

theorem setSupplyTo {a b r : Option Nat} (h : AlertLive s) : AlertLive (setSupplyTo a b r s).1 := by
  cases r with
  | none => exact h.writeCapacity.writeCapacity.recompute
  | some r =>
    exact recompute (s := Machine.writeReserve (some r) _) (h.writeCapacity.writeCapacity.congr rfl rfl rfl)

theorem reqSetSupply {fr : Frame} (h : AlertLive s) : AlertLive (reqSetSupply fr s).1 := by
  unfold Machine.reqSetSupply
  split
  · exact h
  · split
    · dsimp only
      split
      · exact h.setSupplyTo
      · exact h
    · exact h

theorem reqSetPolicy {fr : Frame} (h : AlertLive s) : AlertLive (reqSetPolicy fr s).1 := by
  unfold Machine.reqSetPolicy
  split
  · exact h
  · split
    · dsimp only
      split
      · exact passIf (h.congr rfl rfl rfl)
      · exact h
    · exact h

theorem updSupply {k : SupplyId} {g : SupplyRec → SupplyRec} (h : AlertLive s) : AlertLive (updSupply k g s) :=
  h.congr rfl rfl rfl

theorem supgoodLost {k : SupplyId} (h : AlertLive s) : AlertLive (supgoodLost k s) :=
  ite_keeps (fun _ => h.updSupply.raise.recompute) h.updSupply

theorem supgoodFound {k : SupplyId} (h : AlertLive s) : AlertLive (supgoodFound k s) :=
  ite_keeps (fun _ => h) h.updSupply

theorem supplyRestored {k : SupplyId} (h : AlertLive s) : AlertLive (supplyRestored k s) :=
  ite_keeps (fun _ => h.updSupply.raise.recompute) h

theorem ageEntry {f : Feed} (h : AlertLive s) : AlertLive (ageEntry f s) := by
  unfold Machine.ageEntry
  split
  · exact h
  · exact ite_keeps (fun _ => h.updEntry.passIf) h

/-! ## Lines and EOFF -/

theorem emergencyFeed {f : Feed} (h : AlertLive s) : AlertLive (emergencyFeed s f) := by
  unfold Machine.emergencyFeed
  split
  · exact h.stopFeed.raise.completeOp
  · exact h.stopFeed.raise.completeOp
  · exact h.redirect.completeOp
  · exact h.redirect.completeOp
  · exact h
  · exact h
  · exact h.withdraw.raise.completeOp
  · exact h.leaveRetry.raise.completeOp
  · exact h
  · exact h

theorem assertEoff (h : AlertLive s) : AlertLive (assertEoff s) :=
  pass ((h.raise.foldl emergencyFeed s.feeds).congr rfl rfl rfl)

theorem releaseEoff (h : AlertLive s) : AlertLive (releaseEoff s) :=
  h.raise.foldl (fun h => ite_keeps (fun _ => h.enterQueued.raise) h) allOutlets

theorem sourcesChanged {u : State} (h : AlertLive s) : AlertLive (sourcesChanged u s) :=
  ite_keeps (fun _ => h.assertEoff) <| ite_keeps (fun _ => h.releaseEoff.pass) <| ite_keeps (fun _ => h.pass) h

theorem lineChanged {l : LineId} {v : Level} (h : AlertLive s) : AlertLive (lineChanged l v s) :=
  ite_keeps (fun _ => h) <| ite_keeps (fun _ => h.setInput) h.setInput

theorem lineQualified {l : LineId} (h : AlertLive s) : AlertLive (lineQualified l s) :=
  ite_keeps (fun _ => h.setInput.sourcesChanged) h

theorem reqSetLine {fr : Frame} (h : AlertLive s) : AlertLive (reqSetLine fr s).1 := by
  unfold Machine.reqSetLine
  split
  · split
    · exact ite_keeps (fun _ => h) (sourcesChanged (h.congr rfl rfl rfl))
    · exact h
  · exact h

/-! ## Maps, notices and meters -/

theorem reqReadMeter {fr : Frame} (h : AlertLive s) : AlertLive (reqReadMeter fr s).1 := by
  unfold Machine.reqReadMeter
  split
  · split
    · exact h.updOutlet
    · exact h
  · exact h

theorem reqStageMap {fr : Frame} (h : AlertLive s) : AlertLive (reqStageMap fr s).1 := by
  unfold Machine.reqStageMap
  repeat' split
  all_goals exact h.congr rfl rfl rfl

theorem reqStageGang {fr : Frame} (h : AlertLive s) : AlertLive (reqStageGang fr s).1 := by
  unfold Machine.reqStageGang
  repeat' split
  all_goals exact h.congr rfl rfl rfl

theorem reqDiscardMap {fr : Frame} (h : AlertLive s) : AlertLive (reqDiscardMap fr s).1 := by
  unfold Machine.reqDiscardMap
  split <;> exact h.congr rfl rfl rfl

theorem reqApplyMap {fr : Frame} (h : AlertLive s) : AlertLive (reqApplyMap fr s).1 := by
  have happlied : AlertLive (applyStaged s) := h.congr rfl rfl rfl
  unfold Machine.reqApplyMap
  split
  · split
    · split
      · exact h
      · exact (happlied.raise.foldl raise _).foldl raise _
    · exact h
  · exact h

/-- A fetch gives ALERT_N the level of the list it leaves (R172, R173, R176). -/
theorem fetch {ack limit : Nat} (h : AlertLive s) : AlertLive (fetch ack limit s).1 := by
  refine ⟨?_, rfl⟩
  show (acknowledge ack s).inReset = false
  unfold acknowledge
  split
  · exact (s.acked ack).foldlRecOn (motive := fun t : State => t.inReset = false) freeSlotOf h.1 fun t ht n _ => by
      unfold freeSlotOf
      split <;> exact ht
  · exact h.1

theorem reqFetchNotices {fr : Frame} (h : AlertLive s) : AlertLive (reqFetchNotices fr s).1 := by
  unfold Machine.reqFetchNotices
  split
  · split
    · exact h.fetch
    · exact h
  · exact h

/-! ## Events of outlets and gangs -/

theorem reportDown {p : OutletId} (h : AlertLive s) : AlertLive (reportDown p s) := by
  unfold Machine.reportDown
  split
  · exact h
  · split
    · exact h.soloDischarged
    · exact h
  · split
    · exact ite_keeps (fun _ => h) h.returnAlloc.memberReturned
    · exact h

theorem scan {p : OutletId} {v i : Nat} (h : AlertLive s) : AlertLive (scan p v i s) :=
  ite_keeps (fun _ => h.updOutlet.updOutlet) <| ite_keeps (fun _ => h.updOutlet.reportDown) h.updOutlet

theorem dischargeExpired {p : OutletId} (h : AlertLive s) : AlertLive (dischargeExpired p s) := by
  unfold Machine.dischargeExpired
  split
  · split
    · exact h.soloTimeout
    · exact h
  · exact h

theorem memberDischargeExpired {p : OutletId} (h : AlertLive s) : AlertLive (memberDischargeExpired p s) := by
  unfold Machine.memberDischargeExpired
  split
  · split
    · split
      · exact h.memberTimeout
      · exact h
    · exact h
  · exact h

theorem rampExpired {p : OutletId} (h : AlertLive s) : AlertLive (rampExpired p s) :=
  ite_keeps (fun _ => ite_keeps (fun _ => h.updOutlet.updFeed.raise.completeOp) h.updOutlet.takeFault) h

theorem memberRampExpired {p : OutletId} (h : AlertLive s) : AlertLive (memberRampExpired p s) := by
  unfold Machine.memberRampExpired
  split
  · refine ite_keeps (fun _ => ite_keeps (fun _ => ?_) h.updOutlet.takeFault) h
    exact ite_keeps (fun _ => h.updOutlet.updFeed.completeOp.raise) h.updOutlet
  · exact h

theorem blankingExpired {p : OutletId} (h : AlertLive s) : AlertLive (blankingExpired p s) :=
  ite_keeps (fun _ => ite_keeps (fun _ => h.updOutlet.examine) h.updOutlet) h

theorem stabilityExpired {f : Feed} (h : AlertLive s) : AlertLive (stabilityExpired f s) :=
  ite_keeps (fun _ => h.updFeed) h

theorem backoffExpired {f : Feed} (h : AlertLive s) : AlertLive (backoffExpired f s) :=
  ite_keeps (fun _ => h.enterQueued.raise.pass) h

theorem departed {f : Feed} (h : AlertLive s) : AlertLive (departed f s) := by
  unfold Machine.departed
  split
  · exact h
  · exact h
  · exact h.withdraw.raise.completeOp.pass
  · exact h.stopFeed.raise.completeOp
  · exact h.stopFeed.raise.completeOp
  · exact h.redirect.completeOp
  · exact h.redirect.completeOp
  · exact h
  · exact h
  · exact h.leaveRetry.raise.completeOp

theorem presenceActs {p : OutletId} {a : Bool} (h : AlertLive s) : AlertLive (presenceActs p a s) :=
  ite_keeps (fun _ => ite_keeps (fun _ => ite_keeps (fun _ => h.enterQueued.raise.pass) h) h.departed) h

theorem debounced {p : OutletId} (h : AlertLive s) : AlertLive (debounced p s) :=
  ite_keeps (fun _ => ite_keeps (fun _ => h.updOutlet) h.updOutlet.updOutlet.raise.presenceActs) h

theorem presChanged {p : OutletId} {a : Bool} (h : AlertLive s) : AlertLive (presChanged p a s) :=
  ite_keeps (fun _ => h) h.updOutlet

theorem overcurrentBegins {p : OutletId} (h : AlertLive s) : AlertLive (overcurrentBegins p s) :=
  ite_keeps (fun _ => h) <| ite_keeps (fun _ => h.updOutlet.examine) h.updOutlet

theorem widthReached {p : OutletId} (h : AlertLive s) : AlertLive (widthReached p s) := ite_keeps (fun _ => h.qualify) h

theorem shortChanged {p : OutletId} {a : Bool} (h : AlertLive s) : AlertLive (shortChanged p a s) :=
  ite_keeps (fun _ => h) <| ite_keeps (fun _ => h.updOutlet.takeFault) h.updOutlet

theorem overdrawExpired {p : OutletId} (h : AlertLive s) : AlertLive (overdrawExpired p s) :=
  ite_keeps (fun _ => h.updOutlet.takeFault) h

end AlertLive

end Sys2Proof.Machine
end


/-! # Every command leaves ALERT_N and the auxiliary outputs at their levels (O57) -/

section
namespace Sys2Proof.Machine

open Sys2Proof.Safety

/-- What O57 keeps. -/
def OutputsOk (s : State) : Prop := alertOk s ∧ auxOk s ∧ resetQuiet s

/-! ## Outside a hard reset -/

theorem alertOk_iff_live {s : State} (hs : s.inReset = false) : alertOk s ↔ s.alertN = alertFor s.notices := by
  rw [alertOk, hs]
  exact Iff.rfl

theorem OutputsOk.live {s : State} (h : OutputsOk s) (hs : s.inReset = false) : AlertLive s :=
  ⟨hs, (alertOk_iff_live hs).1 h.1⟩

/-- The outputs are driven in the event that changes their conditions (R197). -/
theorem auxOk_driveAux (s : State) : auxOk (driveAux s) := fun k => by
  rw [driveAux_out, driveAux_fn]
  cases (s.auxLine k).fn <;> rfl

/-- A command that ends outside a hard reset drives the outputs at its end. -/
theorem AlertLive.outputsOk {s : State} (h : AlertLive s) : OutputsOk (driveAux s) := by
  obtain ⟨hs, halert⟩ := h
  refine ⟨(alertOk_iff_live (s := driveAux s) hs).2 halert, auxOk_driveAux s, fun hr => ?_⟩
  rw [show (driveAux s).inReset = s.inReset from rfl, hs] at hr
  cases hr

/-! ## During a hard reset (R199) -/

/-- The functions that drive nothing drive nothing in any state (R196). -/
theorem lineOut_none_congr {s : State} {fn : LineFn} (h : s.lineOut fn = none) (t : State) : t.lineOut fn = none := by
  cases fn with
  | none | eoffIn | holdIn => rfl
  | alertCopy | anyLatched | shortfall | outletOn => cases h

/-- The quiet outputs of a reset that stands; no line has a function that drives it. -/
theorem outputsOk_inReset_iff {s : State} (hs : s.inReset = true) :
    OutputsOk s ↔ s.alertN = .high ∧ (∀ p, (s.outlet p).swEn = false) ∧ s.link.tx = none ∧
      ∀ k, (s.auxLine k).out = none ∧ s.lineOut (s.auxLine k).fn = none := by
  constructor
  · rintro ⟨-, haux, hquiet⟩
    obtain ⟨hsw, halert, htx, hout⟩ := hquiet hs
    exact ⟨halert, hsw, htx, fun k => ⟨hout k, (haux k).symm.trans (hout k)⟩⟩
  · rintro ⟨halert, hsw, htx, hline⟩
    refine ⟨by rw [alertOk, if_pos hs, halert], fun k => ?_, fun _ => ⟨hsw, halert, htx, fun k => (hline k).1⟩⟩
    rw [(hline k).1, (hline k).2]

/-- A change during a hard reset that turns no output on. -/
theorem OutputsOk.inReset_congr {s t : State} (h : OutputsOk s) (hs : s.inReset = true) (ht : t.inReset = true)
    (halert : t.alertN = s.alertN) (hsw : ∀ p, (t.outlet p).swEn = (s.outlet p).swEn) (htx : t.link.tx = s.link.tx)
    (hline : ∀ k, (t.auxLine k).out = (s.auxLine k).out ∧ (t.auxLine k).fn = (s.auxLine k).fn) : OutputsOk t := by
  obtain ⟨ha, hsw', htx', hl⟩ := (outputsOk_inReset_iff hs).1 h
  refine (outputsOk_inReset_iff ht).2
    ⟨halert.trans ha, fun p => (hsw p).trans (hsw' p), htx.trans htx', fun k => ⟨(hline k).1.trans (hl k).1, ?_⟩⟩
  rw [(hline k).2]
  exact lineOut_none_congr (hl k).2 t

theorem OutputsOk.outletPins {s : State} (h : OutputsOk s) (hs : s.inReset = true) (p : OutletId)
    {g : OutletRec → OutletRec} (hg : ∀ o, (g o).swEn = o.swEn) : OutputsOk (updOutlet p g s) := by
  refine h.inReset_congr hs hs rfl (fun q => ?_) rfl fun k => ⟨rfl, rfl⟩
  rw [updOutlet_outlet]
  split
  · next e => rw [hg, e]
  · rfl

theorem OutputsOk.supplyPin {s : State} (h : OutputsOk s) (hs : s.inReset = true) (k : SupplyId) (l : Bool) :
    OutputsOk (supgoodInReset k l s) :=
  h.inReset_congr hs hs rfl (fun _ => rfl) rfl fun _ => ⟨rfl, rfl⟩

theorem OutputsOk.linePin {s : State} (h : OutputsOk s) (hs : s.inReset = true) (l : LineId) (v : Level) :
    OutputsOk (lineInReset l v s) := by
  cases l with
  | eoffN => exact h.inReset_congr hs hs rfl (fun _ => rfl) rfl fun _ => ⟨rfl, rfl⟩
  | baud => exact h.inReset_congr hs hs rfl (fun _ => rfl) rfl fun _ => ⟨rfl, rfl⟩
  | aux j =>
    refine h.inReset_congr hs hs rfl (fun _ => rfl) rfl fun k => ?_
    show (State.auxLine (s.setAux j _) k).out = _ ∧ (State.auxLine (s.setAux j _) k).fn = _
    rw [setAux_auxLine]
    split
    · next e => subst e; exact ⟨rfl, rfl⟩
    · exact ⟨rfl, rfl⟩

/-- The beginning of a hard reset switches everything off (R6, R177, R191, R199). -/
theorem outputsOk_enterReset {s : State} (hs : s.inReset = true) : OutputsOk (enterReset s) := by
  refine (outputsOk_inReset_iff (s := enterReset s) hs).2 ⟨rfl, fun p => ?_, rfl, fun k => ?_⟩
  · exact congrArg OutletRec.swEn (blocksReset_outlet s p)
  · have hline : (enterReset s).auxLine k = resetAux (s.auxLine k) := blocksReset_auxLine s k
    rw [hline]
    exact ⟨rfl, rfl⟩

/-- The end of a hard reset: RESTARTED is OPEN, and every auxiliary line is an input (R177, R196). -/
theorem outputsOk_finishReset (v : Level) (s : State) : OutputsOk (finishReset v s) := by
  obtain ⟨-, -, -, -, -, -, -, -, -, -, -, -, -, -, -, -, hnotices, -, halert, -, -, haux, hby, -⟩ :=
    afterReset_finishReset v s
  have hs : (finishReset v s).inReset = false := by rw [State.inReset, hby]; rfl
  refine ⟨(alertOk_iff_live hs).2 ?_, fun k => ?_, fun hr => ?_⟩
  · rw [halert, hnotices]
    rfl
  · rw [haux]
    rfl
  · rw [hs] at hr
    cases hr

theorem OutputsOk.resetEnds {s : State} (h : OutputsOk s) (c : ResetCause) (v : Level) :
    OutputsOk (resetEnds c v s) := by
  unfold Machine.resetEnds
  split
  · next hc =>
    have hs : s.inReset = true := by
      cases c <;> simp_all [ResetRec.holds, State.inReset]
    dsimp only
    split
    · next ht => exact h.inReset_congr hs ht rfl (fun _ => rfl) rfl fun _ => ⟨rfl, rfl⟩
    · exact outputsOk_finishReset v _
  · exact h

/-! ## The Request Handler and the Host Link -/

namespace AlertLive

variable {s : State}

theorem reqRestart {f : Frame} (h : AlertLive s) : AlertLive (reqRestart f s).1 := by
  unfold Machine.reqRestart
  split
  · exact h.setLink
  · exact h

/-- The Request Handler (R144, R145). -/
theorem handle {f : Frame} (h : AlertLive s) : AlertLive (handle f s).1 :=
  withKind_keeps (keeps_of_state reqIdent_state)
    (withKind_keeps (keeps_of_state reqStatus_state) <| withKind_keeps (keeps_of_state reqReadOutlet_state) <|
      withKind_keeps (keeps_of_state reqReadGang_state) <|
      withKind_keeps (fun _ _ => reqReadMeter) <| withKind_keeps (keeps_of_state reqReadQueue_state) <|
      withKind_keeps (fun _ _ => reqPowerOn) <| withKind_keeps (fun _ _ => reqPowerOff) <|
      withKind_keeps (fun _ _ => reqClearFault) <| withKind_keeps (fun _ _ => reqSetProfile) <|
      withKind_keeps (fun _ _ => reqSetGangProfile) <| withKind_keeps (fun _ _ => reqSetSupply) <|
      withKind_keeps (fun _ _ => reqSetPolicy) <| withKind_keeps (fun _ _ => reqSetLine) <|
      withKind_keeps (fun _ _ => reqStageMap) <| withKind_keeps (fun _ _ => reqStageGang) <|
      withKind_keeps (fun _ _ => reqApplyMap) <| withKind_keeps (fun _ _ => reqDiscardMap) <|
      withKind_keeps (keeps_of_state reqReadMap_state) <| withKind_keeps (fun _ _ => reqFetchNotices) <|
      withKind_keeps (fun _ _ => reqRestart) fun _ _ h => h) f s h

theorem answerFrame {f : Frame} (h : AlertLive s) : AlertLive (answerFrame f s) := by
  unfold Machine.answerFrame
  split
  · exact ite_keeps (fun _ => h.setLink) h.handle.setLink.setLink
  · exact h.handle.setLink.setLink

theorem serve (h : AlertLive s) : AlertLive (serve s) := by
  unfold Machine.serve takeHead
  split
  · exact h
  · split
    · exact h
    · split
      · exact h.setLink
      · split
        · exact h.setLink.answerFrame
        · exact h

theorem rxEvent {b : Byte} {v : Bool} (h : AlertLive s) : AlertLive (rxEvent b v s) :=
  ite_keeps (fun _ => h.setLink.serve) h

theorem interByteEvent (h : AlertLive s) : AlertLive (interByteEvent s) :=
  ite_keeps (fun _ => ite_keeps (fun _ => h.setLink) h.setLink.serve) h

end AlertLive

/-! ## Every step -/

theorem inReset_of_takes {s : State} (h : s.takesRequests = true) : s.inReset = false := by
  rw [State.takesRequests, Bool.and_eq_true_iff] at h
  simpa using h.1

/-- A request with the kind of RESTART is taken as the RESTART it spells (log entry 24). -/
theorem exec_restartKind {c : Instr} {s : State} {seq : Byte} {payload : List Byte}
    (hc : requestOf c = some (seq, 0x50#8, payload)) : exec c s = .next (restartRequest seq payload s) := by
  cases c with
  | restart | unknownKind =>
    cases hc
    rfl
  | _ => cases hc

namespace OutputsOk

variable {s : State}

theorem restartRequest (h : OutputsOk s) (seq : Byte) (payload : List Byte) :
    OutputsOk (restartRequest seq payload s) := by
  unfold Machine.restartRequest
  split
  · next hl =>
    have htaken : AlertLive (takeRequest Machine.reqRestart (mkFrame seq Config.kindRestart payload) s).1 :=
      (h.live (inReset_of_takes hl)).reqRestart.setLink
    exact ite_keeps (fun _ => htaken.setLink.outputsOk) htaken.outputsOk
  · exact h

/-- Every request command (R144). -/
theorem request {c : Instr} {t : State} (h : OutputsOk s) (hc : (requestOf c).isSome = true)
    (e : exec c s = .next t) : OutputsOk t := by
  obtain ⟨⟨seq, kind, payload⟩, hc'⟩ := Option.isSome_iff_exists.1 hc
  cases hl : s.takesRequests with
  | false =>
    rw [exec_request_deaf hc hl] at e
    cases e
    exact h
  | true =>
    by_cases hk : kind = 0x50#8
    · subst hk
      rw [exec_restartKind hc'] at e
      cases e
      exact h.restartRequest seq payload
    · rw [exec_request hc' hk hl] at e
      cases e
      exact (h.live (inReset_of_takes hl)).handle.setLink.outputsOk

/-- An event of the part is taken outside a hard reset alone (R199). -/
theorem event (h : OutputsOk s) {act : State → State} (ha : AlertLive s → AlertLive (act s)) :
    OutputsOk (event act s) := by
  cases hs : s.inReset with
  | true => rw [event_reset act hs]; exact h
  | false => rw [event_live act hs]; exact (ha (h.live hs)).outputsOk

/-- An event of an input pin, which is followed during a hard reset. -/
theorem pinEvent (h : OutputsOk s) {act quiet : State → State} (hq : s.inReset = true → OutputsOk (quiet s))
    (ha : AlertLive s → AlertLive (act s)) : OutputsOk (if s.inReset then quiet s else Machine.event act s) :=
  ite_keeps hq (h.event ha)

/-- The end of an answer, or of the RESTART's reply (R185, R190). -/
theorem answerTransmitted (h : OutputsOk s) {t : State} (e : exec .answerTransmitted s = .next t) : OutputsOk t := by
  cases e
  split
  · exact h
  · next hidle =>
    have hs : s.inReset = false := by
      cases hr : s.inReset with
      | false => rfl
      | true => exact absurd (by simp [hr]) hidle
    exact ite_keeps (fun _ => outputsOk_finishReset _ s) (h.live hs).setLink.serve.outputsOk

/-- Every command leaves the outputs at their levels. -/
theorem exec {c : Instr} {t : State} (h : OutputsOk s) (e : exec c s = .next t) : OutputsOk t := by
  cases c with
  | ident | status | readOutlet | readGang | readMeter | readQueue | powerOn | powerOff | powerOffAll | clearFault
  | setProfile | setGangProfile | setSupply | setPolicy | setLine | stageMap | stageGang | applyMap | discardMap
  | readMap | fetchNotices | restart | unknownKind => exact h.request rfl e
  | rxByte b v => cases e; exact h.event AlertLive.rxEvent
  | interByteTimeout => cases e; exact h.event AlertLive.interByteEvent
  | answerTransmitted => exact h.answerTransmitted e
  | vddPowerOn => cases e; exact outputsOk_enterReset rfl
  | resetNLow => cases e; exact outputsOk_enterReset (by simp [State.inReset])
  | resetEnd c v => cases e; exact h.resetEnds c v
  | supgoodInactive k => cases e; exact h.pinEvent (fun hs => h.supplyPin hs k false) AlertLive.supgoodLost
  | supgoodActive k => cases e; exact h.pinEvent (fun hs => h.supplyPin hs k true) AlertLive.supgoodFound
  | restorationTimerExpiry k => cases e; exact h.event AlertLive.supplyRestored
  | agingStep f => cases e; exact h.event AlertLive.ageEntry
  | meterScan p v i => cases e; exact h.event AlertLive.scan
  | dischargeTimeout p => cases e; exact h.event AlertLive.dischargeExpired
  | memberDischargeTimeout p => cases e; exact h.event AlertLive.memberDischargeExpired
  | rampExpiry p => cases e; exact h.event AlertLive.rampExpired
  | memberRampExpiry p => cases e; exact h.event AlertLive.memberRampExpired
  | blankingExpiry p => cases e; exact h.event AlertLive.blankingExpired
  | stabilityExpiry p => cases e; exact h.event fun h => ite_keeps (fun _ => h.stabilityExpired) h
  | gangStabilityExpiry g => cases e; exact h.event fun h => ite_keeps (fun _ => h.stabilityExpired) h
  | backoffExpiry p => cases e; exact h.event fun h => ite_keeps (fun _ => h.backoffExpired) h
  | gangBackoffExpiry g => cases e; exact h.event fun h => ite_keeps (fun _ => h.backoffExpired) h
  | presLevelChange p a => cases e; exact h.pinEvent (fun hs => h.outletPins hs p fun _ => rfl) AlertLive.presChanged
  | presenceDebounceExpiry p => cases e; exact h.event AlertLive.debounced
  | overcurrentBegin p =>
    cases e; exact h.pinEvent (fun hs => h.outletPins hs p fun _ => rfl) AlertLive.overcurrentBegins
  | overcurrentEnd p => cases e; exact h.pinEvent (fun hs => h.outletPins hs p fun _ => rfl) AlertLive.updOutlet
  | qualifiedPulse p => cases e; exact h.event AlertLive.widthReached
  | pairWindowExpiry p => cases e; exact h.event AlertLive.updOutlet
  | shortNActive p a => cases e; exact h.pinEvent (fun hs => h.outletPins hs p fun _ => rfl) AlertLive.shortChanged
  | overdrawWindowExpiry p => cases e; exact h.event AlertLive.overdrawExpired
  | lineLevelChange l v => cases e; exact h.pinEvent (fun hs => h.linePin hs l v) AlertLive.lineChanged
  | lineFilterExpiry l => cases e; exact h.event AlertLive.lineQualified

/-- The waiting commands drive no output. -/
theorem step {t : State} (h : OutputsOk s) (e : step s = .next t) : OutputsOk t := by
  unfold Machine.step at e
  split at e
  · cases e
    exact h
  · next c rest _ => exact OutputsOk.exec (s := { s with pending := rest }) h e

end OutputsOk

/-- Settles O57: outside a hard reset a command ends with the outputs driven on a state whose ALERT_N fits its list;
during one only pins move, which drive nothing; the resets set the outputs. -/
theorem stepsKeepTheOutputs : Obligations.StepsKeepTheOutputs :=
  fun _ _ halert haux hquiet e => OutputsOk.step ⟨halert, haux, hquiet⟩ e

end Sys2Proof.Machine
end


/-! # What leaves the Host Link alone

Outside the link's own events and RESTART the blocks of the part never write the link's record: a request changes at
most the mark that a RESTART has been taken, and every other event changes nothing of it. -/

section
namespace Sys2Proof.Machine

variable (s : State)

/-! ## The shared operations -/

/-- A fold of effects that leave the link alone. -/
theorem foldl_link {α : Type} {g : State → α → State} (hg : ∀ t x, (g t x).link = t.link) (l : List α) :
    (l.foldl g s).link = s.link :=
  l.foldlRecOn (motive := fun t : State => t.link = s.link) g rfl fun t ht x _ => (hg t x).trans ht

/-- A fold of effects that leave the link alone and carry a second component. -/
theorem foldl_fst_link {α β : Type} {g : State × β → α → State × β} (hg : ∀ t x, (g t x).1.link = t.1.link)
    (l : List α) (b : β) : (l.foldl g (s, b)).1.link = s.link :=
  l.foldlRecOn (motive := fun t : State × β => t.1.link = s.link) g rfl fun t ht x _ => (hg t x).trans ht

@[simp] theorem pass_link : (pass s).link = s.link := (fixed_pass s).link
@[simp] theorem passIf_link (b : Bool) : (passIf b s).link = s.link := (fixed_passIf b s).link
@[simp] theorem recompute_link : (recompute s).1.link = s.link := (fixed_recompute s).link
@[simp] theorem bindSlot_link (n : SlotId) (op : SlotOp) (f : Feed) : (bindSlot n op f s).link = s.link :=
  (fixed_bindSlot n op f s).link
@[simp] theorem completeOp_link (k : PowerKind) (o : Completion) (f : Feed) : (completeOp k o f s).link = s.link :=
  (fixed_completeOp k o f s).link
@[simp] theorem enterQueued_link (f : Feed) (o : Origin) : (enterQueued f o s).link = s.link :=
  (fixed_enterQueued f o s).link
@[simp] theorem withdraw_link (f : Feed) : (withdraw f s).link = s.link := (fixed_withdraw f s).link
@[simp] theorem leaveRetry_link (f : Feed) : (leaveRetry f s).link = s.link := (fixed_leaveRetry f s).link
@[simp] theorem updEntry_link (f : Feed) (h : Entry → Entry) : (updEntry f h s).link = s.link :=
  (fixed_updEntry f h s).link
@[simp] theorem redirect_link (f : Feed) (c : StopCause) (d : Dest) : (redirect f c d s).link = s.link :=
  (fixed_redirect f c d s).link
@[simp] theorem stopFeed_link (f : Feed) (c : StopCause) (d : Dest) : (stopFeed f c d s).link = s.link :=
  (fixed_stopFeed f c d s).link
@[simp] theorem takeFault_link (p : OutletId) (c : FaultCause) : (takeFault p c s).link = s.link :=
  (fixed_takeFault p c s).link
@[simp] theorem qualify_link (p : OutletId) : (qualify p s).link = s.link := (fixed_qualify p s).link
@[simp] theorem examine_link (p : OutletId) : (examine p s).link = s.link := (fixed_examine p s).link
@[simp] theorem soloDischarged_link (p : OutletId) (d : Dest) : (soloDischarged p d s).link = s.link :=
  (fixed_soloDischarged p d s).link
@[simp] theorem soloTimeout_link (p : OutletId) : (soloTimeout p s).link = s.link := (fixed_soloTimeout p s).link
@[simp] theorem memberDischarged_link (g : GangId) (p : OutletId) : (memberDischarged g p s).link = s.link :=
  (fixed_memberDischarged g p s).link
@[simp] theorem memberTimeout_link (g : GangId) (c : StopCause) (p : OutletId) :
    (memberTimeout g c p s).link = s.link := (fixed_memberTimeout g c p s).link
@[simp] theorem assertEoff_link : (assertEoff s).link = s.link := (fixed_assertEoff s).link
@[simp] theorem releaseEoff_link : (releaseEoff s).link = s.link := (fixed_releaseEoff s).link

@[simp] theorem updSupply_link (k : SupplyId) (h : SupplyRec → SupplyRec) : (updSupply k h s).link = s.link := rfl

@[simp] theorem enterOn_link (f : Feed) : (enterOn f s).link = s.link := updFeed_link s f _

@[simp] theorem sourcesChanged_link (t : State) : (sourcesChanged t s).link = s.link := by
  unfold sourcesChanged
  split
  · exact assertEoff_link s
  · split
    · simp
    · split
      · exact pass_link s
      · rfl

/-! ## Power requests -/

theorem powerOnEffect_link (f : Feed) : (powerOnEffect f s).link = s.link := by
  unfold powerOnEffect
  split
  · simp
  · rfl

theorem reqPowerOn_link (fr : Frame) : (reqPowerOn fr s).1.link = s.link := by
  unfold reqPowerOn
  split
  · split
    · rfl
    · next f _ =>
      rcases powerOnFeed_state fr _ f s with e | ⟨n, e⟩
      · rw [e]
      · rw [e, powerOnEffect_link, bindSlot_link]
  · rfl

theorem powerOffFeed_link (fr : Frame) (b : Byte) (f : Feed) : (powerOffFeed fr b f s).1.link = s.link := by
  unfold powerOffFeed
  dsimp only
  cases s.feedState f with
  | off | latched => rfl
  | queued | retryWait => simp
  | starting | on =>
    cases s.freeSlot with
    | none => rfl
    | some n => simp
  | stopping c d =>
    dsimp only
    split
    · rfl
    · cases s.freeSlot with
      | none => rfl
      | some n => simp

theorem powerOffEvery_link : (powerOffEvery s).1.link = s.link :=
  (passIf_link _ _).trans (foldl_fst_link s (fun t f => (fixed_offOne t f).link) s.feeds 0)

theorem reqPowerOff_link (fr : Frame) : (reqPowerOff fr s).1.link = s.link := by
  unfold reqPowerOff
  split
  · split
    · exact powerOffEvery_link s
    · split
      · rfl
      · exact powerOffFeed_link s _ _ _
  · rfl

theorem clearFeed_link (f : Feed) : (clearFeed f s).link = s.link := by
  unfold clearFeed
  split
  · simp
  · exact updFeed_link s f _

theorem reqClearFault_link (fr : Frame) : (reqClearFault fr s).1.link = s.link := by
  unfold reqClearFault
  split
  · split
    · rfl
    · exact clearFeed_link s _
  · rfl

/-! ## Profile writes -/

theorem amountWritten_link (f : Feed) : (amountWritten f s).1.link = s.link := by
  unfold amountWritten
  dsimp only
  split
  · split
    · exact updEntry_link s f _
    · exact updEntry_link s f _
  · exact updEntry_link s f _

theorem priorityWritten_link (f : Feed) (v : Nat) : (priorityWritten f v s).1.link = s.link := by
  unfold priorityWritten
  split
  · exact updEntry_link s f _
  · rfl

theorem writePair_link (p : OutletId) (f : ProfileField) (v : Nat) : (writePair p f v s).1.link = s.link := by
  unfold writePair
  dsimp only
  split
  · split
    · split
      · exact amountWritten_link _ _
      · rfl
    · rfl
  · split
    · exact priorityWritten_link _ _ v
    · rfl
  · rfl
  · split <;> rfl
  · rfl
  · rfl

theorem writeGangPair_link (g : GangId) (f : GangField) (v : Nat) : (writeGangPair g f v s).1.link = s.link := by
  unfold writeGangPair
  dsimp only
  split
  · split
    · exact priorityWritten_link _ _ v
    · rfl
  · rfl

theorem writePairs_link (p : OutletId) (l : List (ProfileField × Nat)) : (writePairs p l s).1.link = s.link := by
  unfold writePairs
  refine foldl_fst_link s (fun t x => ?_) l false
  exact writePair_link t.1 p x.1 x.2

theorem writeGangPairs_link (g : GangId) (l : List (GangField × Nat)) : (writeGangPairs g l s).1.link = s.link := by
  unfold writeGangPairs
  refine foldl_fst_link s (fun t x => ?_) l false
  exact writeGangPair_link t.1 g x.1 x.2

theorem setProfileOf_link (p : OutletId) (l : List (Byte × Nat)) : (setProfileOf p l s).1.link = s.link := by
  unfold setProfileOf
  split
  · rfl
  · split
    · rfl
    · exact (passIf_link _ _).trans (writePairs_link s p _)

theorem setGangProfileOf_link (g : GangId) (l : List (Byte × Nat)) : (setGangProfileOf g l s).1.link = s.link := by
  unfold setGangProfileOf
  split
  · rfl
  · split
    · rfl
    · exact (passIf_link _ _).trans (writeGangPairs_link s g _)

theorem reqSetProfile_link (fr : Frame) : (reqSetProfile fr s).1.link = s.link := by
  unfold reqSetProfile
  split
  · rfl
  · split
    · rfl
    · split
      · split
        · rfl
        · exact setProfileOf_link s _ _
      · rfl

theorem reqSetGangProfile_link (fr : Frame) : (reqSetGangProfile fr s).1.link = s.link := by
  unfold reqSetGangProfile
  split
  · rfl
  · split
    · rfl
    · split
      · split
        · rfl
        · exact setGangProfileOf_link s _ _
      · rfl

/-! ## Supplies, policy and lines -/

theorem writeCapacity_link (k : SupplyId) (v : Option Nat) : (writeCapacity k v s).link = s.link := by
  unfold writeCapacity
  split
  · rfl
  · split <;> rfl

theorem writeReserve_link (v : Option Nat) : (writeReserve v s).link = s.link := by
  cases v <;> rfl

theorem setSupplyTo_link (a b r : Option Nat) : (setSupplyTo a b r s).1.link = s.link := by
  rw [setSupplyTo, recompute_link, writeReserve_link, writeCapacity_link, writeCapacity_link]

theorem reqSetSupply_link (fr : Frame) : (reqSetSupply fr s).1.link = s.link := by
  unfold reqSetSupply
  split
  · rfl
  · split
    · dsimp only
      split
      · exact setSupplyTo_link s _ _ _
      · rfl
    · rfl

theorem reqSetPolicy_link (fr : Frame) : (reqSetPolicy fr s).1.link = s.link := by
  unfold reqSetPolicy
  split
  · rfl
  · split
    · dsimp only
      split
      · exact passIf_link _ _
      · rfl
    · rfl

theorem changeLine_link (k : AuxId) (fn : LineFn) : (changeLine k fn s).link = s.link := by
  unfold changeLine
  split
  · rfl
  · exact sourcesChanged_link _ s

theorem reqSetLine_link (fr : Frame) : (reqSetLine fr s).1.link = s.link := by
  unfold reqSetLine
  split
  · split
    · exact changeLine_link s _ _
    · rfl
  · rfl

/-! ## Maps, notices and meters -/

theorem reqReadMeter_link (fr : Frame) : (reqReadMeter fr s).1.link = s.link := by
  unfold reqReadMeter
  split
  · split <;> rfl
  · rfl

theorem reqStageMap_link (fr : Frame) : (reqStageMap fr s).1.link = s.link := by
  unfold reqStageMap
  repeat' split
  all_goals rfl

theorem reqStageGang_link (fr : Frame) : (reqStageGang fr s).1.link = s.link := by
  unfold reqStageGang
  repeat' split
  all_goals rfl

theorem reqDiscardMap_link (fr : Frame) : (reqDiscardMap fr s).1.link = s.link := by
  unfold reqDiscardMap
  split <;> rfl

theorem applyNotices_link (t : State) : (applyNotices t s).link = s.link :=
  (foldl_link _ (fun u g => raise_link u (.gang g) .state) _).trans
    (foldl_link _ (fun u p => raise_link u (.outlet p) .state) _)

theorem reqApplyMap_link (fr : Frame) : (reqApplyMap fr s).1.link = s.link := by
  unfold reqApplyMap
  split
  · split
    · split
      · rfl
      · exact applyNotices_link _ _
    · rfl
  · rfl

theorem acknowledge_link (ack : Nat) : (acknowledge ack s).link = s.link := by
  unfold acknowledge
  split
  · refine foldl_link _ (fun t n => ?_) _
    unfold freeSlotOf
    split <;> rfl
  · rfl

theorem reqFetchNotices_link (fr : Frame) : (reqFetchNotices fr s).1.link = s.link := by
  unfold reqFetchNotices
  split
  · split
    · exact acknowledge_link s _
    · rfl
  · rfl

/-! ## Events of the supplies, the queue and the lines -/

theorem supgoodLost_link (k : SupplyId) : (supgoodLost k s).link = s.link := by
  unfold supgoodLost
  split
  · simp
  · rfl

theorem supgoodFound_link (k : SupplyId) : (supgoodFound k s).link = s.link := by
  unfold supgoodFound
  split <;> rfl

theorem supplyRestored_link (k : SupplyId) : (supplyRestored k s).link = s.link := by
  unfold supplyRestored
  split
  · simp
  · rfl

theorem ageEntry_link (f : Feed) : (ageEntry f s).link = s.link := by
  unfold ageEntry
  split
  · rfl
  · split
    · simp
    · rfl

/-- The filter of a line that is no source changes nothing; the BAUD strap, which the link holds, is none. -/
theorem lineQualified_link (l : LineId) : (lineQualified l s).link = s.link := by
  unfold lineQualified
  dsimp only
  split
  · next hl =>
    cases l with
    | eoffN | aux k => exact sourcesChanged_link _ s
    | baud => cases hl
  · rfl

/-! ## Events of outlets and gangs -/

@[simp] theorem reportDown_link (p : OutletId) : (reportDown p s).link = s.link := by
  unfold reportDown
  split
  · rfl
  · split
    · exact soloDischarged_link s _ _
    · rfl
  · split
    · split
      · rfl
      · exact memberDischarged_link s _ _
    · rfl

theorem scan_link (p : OutletId) (v i : Nat) : (scan p v i s).link = s.link := by
  unfold scan
  dsimp only
  split
  · rfl
  · split
    · simp
    · rfl

theorem dischargeExpired_link (p : OutletId) : (dischargeExpired p s).link = s.link := by
  unfold dischargeExpired
  split
  · split
    · exact soloTimeout_link s p
    · rfl
  · rfl

theorem memberDischargeExpired_link (p : OutletId) : (memberDischargeExpired p s).link = s.link := by
  unfold memberDischargeExpired
  split
  · split
    · split
      · exact memberTimeout_link s _ _ p
      · rfl
    · rfl
  · rfl

theorem rampExpired_link (p : OutletId) : (rampExpired p s).link = s.link := by
  unfold rampExpired
  split
  · dsimp only
    split <;> simp
  · rfl

theorem memberRampIn_link (g : GangId) (p : OutletId) : (memberRampIn g p s).link = s.link := by
  unfold memberRampIn
  dsimp only
  split
  · split <;> simp
  · simp

theorem memberRampExpired_link (p : OutletId) : (memberRampExpired p s).link = s.link := by
  unfold memberRampExpired
  split
  · split
    · exact memberRampIn_link s _ p
    · rfl
  · rfl

theorem blankingExpired_link (p : OutletId) : (blankingExpired p s).link = s.link := by
  unfold blankingExpired
  split
  · dsimp only
    split <;> simp
  · rfl

theorem stabilityExpired_link (f : Feed) : (stabilityExpired f s).link = s.link := by
  unfold stabilityExpired
  split
  · exact updFeed_link s f _
  · rfl

theorem backoffExpired_link (f : Feed) : (backoffExpired f s).link = s.link := by
  unfold backoffExpired
  split
  · simp
  · rfl

theorem presChanged_link (p : OutletId) (a : Bool) : (presChanged p a s).link = s.link := by
  unfold presChanged
  split <;> rfl

theorem arrived_link (f : Feed) : (arrived f s).link = s.link := by
  unfold arrived
  split
  · simp
  · rfl

theorem departed_link (f : Feed) : (departed f s).link = s.link := by
  unfold departed
  cases s.feedState f with
  | off | latched => rfl
  | queued | starting | on | retryWait => simp
  | stopping c d =>
    cases d with
    | off | latched => rfl
    | queued | retryWait => simp

@[simp] theorem presenceActs_link (p : OutletId) (a : Bool) : (presenceActs p a s).link = s.link := by
  unfold presenceActs
  split
  · split
    · exact arrived_link s _
    · exact departed_link s _
  · rfl

theorem debounced_link (p : OutletId) : (debounced p s).link = s.link := by
  unfold debounced
  split
  · dsimp only
    split <;> simp
  · rfl

theorem overcurrentBegins_link (p : OutletId) : (overcurrentBegins p s).link = s.link := by
  unfold overcurrentBegins
  split
  · rfl
  · dsimp only
    split <;> simp

theorem widthReached_link (p : OutletId) : (widthReached p s).link = s.link := by
  unfold widthReached
  split
  · exact qualify_link s p
  · rfl

theorem shortChanged_link (p : OutletId) (a : Bool) : (shortChanged p a s).link = s.link := by
  unfold shortChanged
  split
  · rfl
  · dsimp only
    split <;> simp

theorem overdrawExpired_link (p : OutletId) : (overdrawExpired p s).link = s.link := by
  unfold overdrawExpired
  split
  · simp
  · rfl

/-! ## The Request Handler -/

/-- Whatever the link's record satisfies with a RESTART taken or not, a request keeps (R144, R159). -/
theorem handle_keeps_link {P : LinkRec → Prop} (hP : ∀ l, P l → P { l with restarting := true }) (f : Frame)
    (h : P s.link) : P (handle f s).1.link := by
  have kept {eff : Frame → State → State × List Byte} (he : ∀ t f, (eff f t).1.link = t.link) (f : Frame)
      (t : State) (ht : P t.link) : P (eff f t).1.link := (he t f).symm ▸ ht
  have restart (f : Frame) (t : State) (ht : P t.link) : P (reqRestart f t).1.link := by
    unfold reqRestart
    split
    · exact hP _ ht
    · exact ht
  have told {eff : Frame → State → State × List Byte} := keeps_of_state (P := fun t => P t.link) (eff := eff)
  exact withKind_keeps (P := fun t => P t.link) (told reqIdent_state)
    (withKind_keeps (told reqStatus_state) <| withKind_keeps (told reqReadOutlet_state) <|
      withKind_keeps (told reqReadGang_state) <| withKind_keeps (kept reqReadMeter_link) <|
      withKind_keeps (told reqReadQueue_state) <| withKind_keeps (kept reqPowerOn_link) <|
      withKind_keeps (kept reqPowerOff_link) <| withKind_keeps (kept reqClearFault_link) <|
      withKind_keeps (kept reqSetProfile_link) <| withKind_keeps (kept reqSetGangProfile_link) <|
      withKind_keeps (kept reqSetSupply_link) <| withKind_keeps (kept reqSetPolicy_link) <|
      withKind_keeps (kept reqSetLine_link) <| withKind_keeps (kept reqStageMap_link) <|
      withKind_keeps (kept reqStageGang_link) <| withKind_keeps (kept reqApplyMap_link) <|
      withKind_keeps (kept reqDiscardMap_link) <| withKind_keeps (told reqReadMap_state) <|
      withKind_keeps (kept reqFetchNotices_link) <| withKind_keeps restart fun _ _ h => h) f s h

end Sys2Proof.Machine
end


/-! # Receiver, receive buffer, answer queue and transmitter at every step (O58)

`FramesOk` is `linkOk` without its clause on the transmitter, which an event of the link breaks until `serve` has run;
`Owed` is what the event leaves of that clause meanwhile. -/

section
namespace Sys2Proof.Machine

open Sys2Proof.Safety

/-! ## The link but for its transmitter -/

/-- Receiver, receive buffer and answer queue are sound (R180, R181, R183, R184). -/
structure FramesOk (l : LinkRec) : Prop where
  stage : stageOk l.rx
  timer : l.rxTimer = if l.rx = .hunting then none else some 5
  nodup : (placesOf l.answers).Nodup
  held : ∀ i, (tget l.places i).isSome = true ↔ i ∈ placesOf l.answers
  naks : l.nakCount ≤ 2
  valid : ∀ i, ∀ f ∈ tget l.places i, f.crc = frameCrc f.seq f.kind f.payload ∧ f.payload.length ≤ 48

/-- An answer in transmission is an answer that is owed, a RESTART's apart (R185, R190). -/
def Owed (l : LinkRec) : Prop := l.restarting = false → l.tx.isSome = true → l.answers ≠ []

theorem linkOk_iff {l : LinkRec} :
    linkOk l ↔ FramesOk l ∧ (l.restarting = false → (l.tx.isNone = true ↔ l.answers = [])) := by
  constructor
  · rintro ⟨hstage, htimer, hnodup, hheld, hnaks, hvalid, htx⟩
    exact ⟨⟨hstage, htimer, hnodup, hheld, hnaks, hvalid⟩, htx⟩
  · rintro ⟨⟨hstage, htimer, hnodup, hheld, hnaks, hvalid⟩, htx⟩
    exact ⟨hstage, htimer, hnodup, hheld, hnaks, hvalid, htx⟩

/-- A sound link owes what it transmits. -/
theorem owed_of_linkOk {l : LinkRec} (h : linkOk l) : Owed l := fun hr htx ha => by
  have hnone := ((linkOk_iff.1 h).2 hr).2 ha
  cases htx' : l.tx <;> simp_all

/-- A change outside receiver, receive buffer and answer queue. -/
theorem FramesOk.congr {l m : LinkRec} (h : FramesOk l) (hrx : m.rx = l.rx) (ht : m.rxTimer = l.rxTimer)
    (hp : m.places = l.places) (ha : m.answers = l.answers) : FramesOk m where
  stage := hrx ▸ h.stage
  timer := by rw [ht, hrx, h.timer]
  nodup := ha ▸ h.nodup
  held i := by rw [hp, ha, h.held]
  naks := by rw [LinkRec.nakCount, ha]; exact h.naks
  valid i f hf := h.valid i f (hp ▸ hf)

/-- A change of cache, bit rate and strap, or the mark that a RESTART has been taken. -/
theorem linkOk_congr {l m : LinkRec} (h : linkOk l) (hrx : m.rx = l.rx) (ht : m.rxTimer = l.rxTimer)
    (hp : m.places = l.places) (ha : m.answers = l.answers) (htx : m.tx = l.tx)
    (hr : m.restarting = false → l.restarting = false) : linkOk m := by
  obtain ⟨hf, ho⟩ := linkOk_iff.1 h
  refine linkOk_iff.2 ⟨hf.congr hrx ht hp ha, fun hm => ?_⟩
  rw [htx, ha]
  exact ho (hr hm)

/-- While an answer is in transmission and one is owed, sound frames make a sound link. -/
theorem FramesOk.linkOk_busy {l : LinkRec} (h : FramesOk l) (ha : l.answers ≠ []) (htx : l.tx.isSome = true) :
    linkOk l :=
  linkOk_iff.2 ⟨h, fun _ => ⟨fun hn => by cases htx' : l.tx <;> simp_all, fun he => absurd he ha⟩⟩

/-! ## The answer queue (R184) -/

theorem placesOf_append (l m : List Answer) : placesOf (l ++ m) = placesOf l ++ placesOf m := by
  induction l with
  | nil => rfl
  | cons a l ih =>
    cases a with
    | frame i w => exact congrArg (i :: ·) ih
    | nak r q => exact ih

/-- A NAK is appended to the queue, or dropped (R184). -/
theorem FramesOk.addNak {l : LinkRec} (h : FramesOk l) (r : NakReason) (seq : Byte) : FramesOk (addNak r seq l) := by
  unfold Machine.addNak
  split
  · next hn =>
    have hplaces : placesOf (l.answers ++ [.nak r seq]) = placesOf l.answers :=
      (placesOf_append _ _).trans (List.append_nil _)
    refine ⟨h.stage, h.timer, ?_, fun i => ?_, ?_, h.valid⟩
    · rw [hplaces]
      exact h.nodup
    · rw [hplaces]
      exact h.held i
    · rw [LinkRec.nakCount, List.filter_append, List.length_append]
      exact Nat.succ_le_of_lt hn
  · exact h

/-- The place a frame takes is free (R183). -/
theorem freePlace_eq_some {l : LinkRec} {i : Fin 2} (h : l.freePlace = some i) : tget l.places i = none := by
  unfold LinkRec.freePlace at h
  split at h
  · next h0 =>
    cases h
    exact Option.isNone_iff_eq_none.1 h0
  · split at h
    · next h1 =>
      cases h
      exact Option.isNone_iff_eq_none.1 h1
    · cases h

/-- A valid frame enters a free place (R183, R184). -/
theorem FramesOk.enter {l : LinkRec} (h : FramesOk l) {i : Fin 2} (hi : tget l.places i = none) {f : Frame}
    (hcrc : f.crc = frameCrc f.seq f.kind f.payload) (hlen : f.payload.length ≤ 48) :
    FramesOk { l with places := tset l.places i (some f), answers := l.answers ++ [.frame i false] } := by
  have hplaces : placesOf (l.answers ++ [.frame i false]) = placesOf l.answers ++ [i] := placesOf_append _ _
  have hnew : i ∉ placesOf l.answers := fun hmem => by
    have hsome := (h.held i).2 hmem
    rw [hi] at hsome
    cases hsome
  refine ⟨h.stage, h.timer, ?_, fun j => ?_, ?_, fun j g hg => ?_⟩
  · rw [hplaces]
    exact List.nodup_append.2 ⟨h.nodup, List.nodup_singleton i, fun a ha b hb hab =>
      hnew (List.mem_singleton.1 hb ▸ hab ▸ ha)⟩
  · rw [hplaces, tget_tset, List.mem_append, List.mem_singleton]
    split
    · next e => simp [e]
    · next e => simp [e, h.held]
  · rw [LinkRec.nakCount, List.filter_append, List.length_append]
    exact h.naks
  · rw [tget_tset] at hg
    split at hg
    · cases hg
      exact ⟨hcrc, hlen⟩
    · exact h.valid j g hg

/-- A complete frame is examined (R183). -/
theorem FramesOk.examineFrame {l : LinkRec} (h : FramesOk l) {f : Frame} (hlen : f.payload.length ≤ 48) :
    FramesOk (examineFrame f l) := by
  unfold Machine.examineFrame
  split
  · next hcrc =>
    split
    · next i hi => exact h.enter (freePlace_eq_some hi) hcrc hlen
    · exact h.addNak .overrun f.seq
  · exact h.addNak .crc f.seq

/-! ## The receiver (R180, R181) -/

theorem FramesOk.hunt {l : LinkRec} (h : FramesOk l) : FramesOk (hunt l) :=
  ⟨trivial, rfl, h.nodup, h.held, h.naks, h.valid⟩

theorem FramesOk.goOn {l : LinkRec} (h : FramesOk l) {st : RxStage} (hst : stageOk st) (hne : st ≠ .hunting) :
    FramesOk (goOn st l) :=
  ⟨hst, (if_neg hne).symm, h.nodup, h.held, h.naks, h.valid⟩

/-- After KIND the receiver is within its frame. -/
theorem stageOk_afterKind {len seq kind : Byte} (h : len.toNat ≤ 48) :
    stageOk (afterKind len seq kind) ∧ afterKind len seq kind ≠ .hunting := by
  unfold afterKind
  split
  · next h0 => exact ⟨⟨h, h0.symm⟩, nofun⟩
  · next h0 => exact ⟨⟨h, Nat.pos_of_ne_zero h0⟩, nofun⟩

/-- After a payload byte the receiver is within its frame. -/
theorem stageOk_afterPayload {len seq kind : Byte} {got : List Byte} (h : len.toNat ≤ 48)
    (hgot : got.length ≤ len.toNat) :
    stageOk (afterPayload len seq kind got) ∧ afterPayload len seq kind got ≠ .hunting := by
  unfold afterPayload
  split
  · next hlt => exact ⟨⟨h, hlt⟩, nofun⟩
  · next hlt => exact ⟨⟨h, by omega⟩, nofun⟩

/-- One byte at the receiver. -/
theorem FramesOk.receive {l : LinkRec} (h : FramesOk l) (b : Byte) : FramesOk (receive b l) := by
  have hst := h.stage
  unfold Machine.receive
  cases hrx : l.rx with
  | hunting =>
    dsimp only
    split
    · exact h.goOn trivial nofun
    · exact h
  | headerLen =>
    dsimp only
    split
    · exact h.hunt.addNak .length 0#8
    · next hb => exact h.goOn (Nat.not_lt.1 hb) nofun
  | headerSeq len =>
    rw [hrx] at hst
    exact h.goOn hst nofun
  | headerKind len seq =>
    rw [hrx] at hst
    obtain ⟨hnext, hne⟩ := stageOk_afterKind (seq := seq) (kind := b) hst
    exact h.goOn hnext hne
  | payload len seq kind got =>
    rw [hrx] at hst
    obtain ⟨hlen, hgot⟩ := hst
    obtain ⟨hnext, hne⟩ := stageOk_afterPayload (seq := seq) (kind := kind) (got := got ++ [b]) hlen
      (by simpa using hgot)
    exact h.goOn hnext hne
  | checkHigh len seq kind got =>
    rw [hrx] at hst
    exact h.goOn hst nofun
  | checkLow len seq kind got high =>
    rw [hrx] at hst
    obtain ⟨hlen, hgot⟩ := hst
    exact h.hunt.examineFrame (hgot.trans_le hlen)

/-! ## What an event of the link leaves of the transmitter -/

/-- `m` has the transmitter of `l`, with answers appended at most. -/
def Appends (l m : LinkRec) : Prop :=
  m.tx = l.tx ∧ m.restarting = l.restarting ∧ ∃ more, m.answers = l.answers ++ more

theorem Appends.refl (l : LinkRec) : Appends l l := ⟨rfl, rfl, [], (List.append_nil _).symm⟩

theorem appends_of_eq {l m : LinkRec} (htx : m.tx = l.tx) (hr : m.restarting = l.restarting)
    (ha : m.answers = l.answers) : Appends l m := ⟨htx, hr, [], ha.trans (List.append_nil _).symm⟩

theorem appends_addNak (r : NakReason) (seq : Byte) {l m : LinkRec} (h : Appends l m) : Appends l (addNak r seq m) := by
  obtain ⟨htx, hr, more, ha⟩ := h
  unfold addNak
  split
  · exact ⟨htx, hr, more ++ [.nak r seq], by rw [← List.append_assoc, ← ha]⟩
  · exact ⟨htx, hr, more, ha⟩

theorem appends_hunt (l : LinkRec) : Appends l (hunt l) := appends_of_eq rfl rfl rfl

theorem appends_goOn (st : RxStage) (l : LinkRec) : Appends l (goOn st l) := appends_of_eq rfl rfl rfl

theorem appends_examineFrame (f : Frame) (l : LinkRec) : Appends l (examineFrame f (hunt l)) := by
  unfold examineFrame
  split
  · split
    · next i _ => exact ⟨rfl, rfl, [.frame i false], rfl⟩
    · exact appends_addNak _ _ (appends_hunt l)
  · exact appends_addNak _ _ (appends_hunt l)

theorem appends_receive (b : Byte) (l : LinkRec) : Appends l (receive b l) := by
  unfold receive
  split
  · split
    · exact appends_goOn _ l
    · exact Appends.refl l
  · split
    · exact appends_addNak _ _ (appends_hunt l)
    · exact appends_goOn _ l
  · exact appends_goOn _ l
  · exact appends_goOn _ l
  · exact appends_goOn _ l
  · exact appends_goOn _ l
  · exact appends_examineFrame _ l

theorem Owed.appends {l m : LinkRec} (h : Owed l) (e : Appends l m) : Owed m := by
  obtain ⟨htx, hr, more, ha⟩ := e
  intro hm htxm hnil
  rw [hr] at hm
  rw [htx] at htxm
  rw [ha] at hnil
  exact h hm htxm (List.append_eq_nil_iff.1 hnil).1

/-! ## The transmitter (R185, R189) -/

/-- The end of an answer leaves the queue without its head, whose place is free (R185). -/
theorem FramesOk.endAnswer {l : LinkRec} (h : FramesOk l) : FramesOk (endAnswer l) := by
  have hnodup := h.nodup
  have hheld := h.held
  have hnaks := h.naks
  unfold Machine.endAnswer
  rw [LinkRec.nakCount] at hnaks
  cases ha : l.answers with
  | nil => exact h.congr rfl rfl rfl ha.symm
  | cons a rest =>
    rw [ha] at hnodup hheld hnaks
    cases a with
    | nak r q =>
      refine ⟨h.stage, h.timer, hnodup, hheld, ?_, h.valid⟩
      exact Nat.le_of_succ_le hnaks
    | frame i w =>
      obtain ⟨hi, hrest⟩ := List.nodup_cons.1 (hnodup : (i :: placesOf rest).Nodup)
      refine ⟨h.stage, h.timer, hrest, fun j => ?_, hnaks, fun j f hf => ?_⟩
      · rw [tget_tset]
        split
        · next e => simp [e, hi]
        · next e => simpa [placesOf, e] using hheld j
      · rw [tget_tset] at hf
        split at hf
        · cases hf
        · exact h.valid j f hf

/-- An answer's end leaves the transmitter idle. -/
theorem endAnswer_tx (l : LinkRec) : (endAnswer l).tx = none := by
  unfold endAnswer
  split <;> rfl

/-- The answer to a frame at the head of the queue is in transmission. -/
theorem linkOk_answerFrame (f : Frame) {s : State} (h : FramesOk s.link) (ha : s.link.answers ≠ []) :
    linkOk (answerFrame f s).link := by
  obtain ⟨hr, har⟩ := handle_keeps_link s (P := fun l => FramesOk l ∧ l.answers ≠ [])
    (fun _ hl => ⟨hl.1.congr rfl rfl rfl rfl, hl.2⟩) f ⟨h, ha⟩
  have htaken (x : List Byte) (c : CacheRec) :
      linkOk { (handle f s).1.link with tx := some x, cache := some c } :=
    FramesOk.linkOk_busy (hr.congr rfl rfl rfl rfl) har rfl
  unfold answerFrame
  split
  · split
    · exact FramesOk.linkOk_busy (h.congr rfl rfl rfl rfl) ha rfl
    · exact htaken _ _
  · exact htaken _ _

/-- The head of the answer queue becomes the answer in transmission. -/
theorem linkOk_takeHead {a : Answer} {rest : List Answer} {s : State} (h : FramesOk s.link)
    (ha : s.link.answers = a :: rest) : linkOk (takeHead a rest s).link := by
  have hne : s.link.answers ≠ [] := by rw [ha]; nofun
  cases a with
  | nak r q => exact FramesOk.linkOk_busy (h.congr rfl rfl rfl rfl) hne rfl
  | frame i w =>
    have hsome : (tget s.link.places i).isSome = true := (h.held i).2 (by rw [ha]; exact List.mem_cons_self)
    obtain ⟨f, hf⟩ := Option.isSome_iff_exists.1 hsome
    have hanswering : FramesOk { s.link with answers := .frame i true :: rest } := by
      obtain ⟨hstage, htimer, hnodup, hheld, hnaks, hvalid⟩ := h
      rw [LinkRec.nakCount] at hnaks
      rw [ha] at hnodup hheld hnaks
      exact ⟨hstage, htimer, hnodup, hheld, hnaks, hvalid⟩
    rw [takeHead, hf]
    exact linkOk_answerFrame f hanswering nofun

/-- Serving the answer queue makes the link sound again (R185). -/
theorem linkOk_serve {s : State} (h : FramesOk s.link) (ho : Owed s.link) : linkOk (serve s).link := by
  unfold serve
  split
  · next hbusy =>
    refine linkOk_iff.2 ⟨h, fun hr => ?_⟩
    have htx : s.link.tx.isSome = true := by simpa [hr] using hbusy
    exact ((linkOk_iff.1 (h.linkOk_busy (ho hr htx) htx)).2 hr)
  · next hidle =>
    cases ha : s.link.answers with
    | nil => exact linkOk_iff.2 ⟨h, fun _ => by simp_all⟩
    | cons a rest => exact linkOk_takeHead h ha

/-! ## The events of the link -/

section
variable {s : State}

theorem linkOk_rxEvent (b : Byte) (v : Bool) (h : linkOk s.link) : linkOk (rxEvent b v s).link := by
  unfold rxEvent
  split
  · exact linkOk_serve ((linkOk_iff.1 h).1.receive b) ((owed_of_linkOk h).appends (appends_receive b s.link))
  · exact h

theorem linkOk_interByteEvent (h : linkOk s.link) : linkOk (interByteEvent s).link := by
  have hf := (linkOk_iff.1 h).1.hunt
  unfold interByteEvent
  split
  · split
    · next hr => exact linkOk_iff.2 ⟨hf, fun hm => absurd (hr.symm.trans hm) nofun⟩
    · exact linkOk_serve (hf.addNak .timeout _)
        ((owed_of_linkOk h).appends (appends_addNak .timeout _ (appends_hunt s.link)))
  · exact h

theorem linkOk_endAnswer (h : linkOk s.link) : linkOk (serve (updLink endAnswer s)).link := by
  refine linkOk_serve (linkOk_iff.1 h).1.endAnswer fun _ htx => ?_
  rw [updLink, endAnswer_tx] at htx
  cases htx

/-! ## Requests and resets -/

theorem linkOk_restarting {l : LinkRec} (h : linkOk l) : linkOk { l with restarting := true } :=
  linkOk_congr h rfl rfl rfl rfl rfl nofun

theorem linkOk_restartRequest (seq : Byte) (payload : List Byte) (h : linkOk s.link) :
    linkOk (restartRequest seq payload s).link := by
  unfold restartRequest
  split
  · next hlive =>
    cases payload with
    | nil => exact linkOk_iff.2 ⟨(linkOk_iff.1 h).1.congr rfl rfl rfl rfl, nofun⟩
    | cons b rest =>
      have hrun : s.link.restarting = false := restarting_false hlive
      rw [if_neg (by simp [takeRequest, reqRestart, mkFrame, refuse, hrun])]
      exact linkOk_congr h rfl rfl rfl rfl rfl id
  · exact h

/-- Every request command (R144). -/
theorem linkOk_request {c : Instr} {t : State} (h : linkOk s.link) (hc : (requestOf c).isSome = true)
    (e : exec c s = .next t) : linkOk t.link := by
  obtain ⟨⟨seq, kind, payload⟩, hc'⟩ := Option.isSome_iff_exists.1 hc
  cases hl : s.takesRequests with
  | false =>
    rw [exec_request_deaf hc hl] at e
    cases e
    exact h
  | true =>
    by_cases hk : kind = 0x50#8
    · subst hk
      rw [exec_restartKind hc'] at e
      cases e
      exact linkOk_restartRequest seq payload h
    · rw [exec_request hc' hk hl] at e
      cases e
      exact linkOk_congr (handle_keeps_link s (P := linkOk) (fun _ => linkOk_restarting) _ h) rfl rfl rfl rfl rfl id

theorem linkOk_finishReset (baud : Level) (s : State) : linkOk (finishReset baud s).link := by
  obtain ⟨-, -, -, -, -, -, -, -, -, -, -, -, -, -, -, -, -, -, -, hlink, -⟩ := afterReset_finishReset baud s
  rw [hlink]
  exact linkOk_congr linkOk_reset rfl rfl rfl rfl rfl id

theorem linkOk_enterReset (s : State) : linkOk (enterReset s).link :=
  linkOk_congr linkOk_reset rfl rfl rfl rfl rfl id

theorem linkOk_resetEnds (c : ResetCause) (v : Level) (h : linkOk s.link) : linkOk (resetEnds c v s).link := by
  unfold resetEnds
  split
  · dsimp only
    split
    · exact h
    · exact linkOk_finishReset v _
  · exact h

/-! ## The other events -/

theorem linkOk_event {act : State → State} (h : linkOk s.link) (ha : linkOk (act s).link) :
    linkOk (event act s).link := by
  unfold event
  split
  · exact h
  · exact ha

/-- An event that leaves the link alone. -/
theorem linkOk_eventBeside {act : State → State} (h : linkOk s.link) (ha : (act s).link = s.link) :
    linkOk (event act s).link := linkOk_event h (ha.symm ▸ h)

/-- An event of an input pin, which is followed during a hard reset, beside the link. -/
theorem linkOk_pinEvent {act quiet : State → State} (h : linkOk s.link) (hq : (quiet s).link = s.link)
    (ha : (act s).link = s.link) : linkOk (if s.inReset then quiet s else event act s).link := by
  split
  · exact hq.symm ▸ h
  · exact linkOk_eventBeside h ha

/-- An event that is guarded by the kind of its feed. -/
theorem ite_link {c : Prop} [Decidable c] {act : State → State} (ha : (act s).link = s.link) :
    (if c then act s else s).link = s.link := by
  split
  · exact ha
  · rfl

/-- The link holds the level of the BAUD strap, which nothing else of it follows (R178). -/
theorem linkOk_setInput (l : LineId) (i : InputLine) (h : linkOk s.link) : linkOk (setInput l i s).link := by
  cases l with
  | eoffN | aux k => exact h
  | baud => exact linkOk_congr h rfl rfl rfl rfl rfl id

theorem linkOk_lineChanged (l : LineId) (v : Level) (h : linkOk s.link) : linkOk (lineChanged l v s).link := by
  unfold lineChanged
  dsimp only
  split
  · exact h
  · split <;> exact linkOk_setInput l _ h

/-! ## Every step -/

theorem linkOk_exec {c : Instr} {t : State} (h : linkOk s.link) (e : exec c s = .next t) : linkOk t.link := by
  cases c with
  | ident | status | readOutlet | readGang | readMeter | readQueue | powerOn | powerOff | powerOffAll | clearFault
  | setProfile | setGangProfile | setSupply | setPolicy | setLine | stageMap | stageGang | applyMap | discardMap
  | readMap | fetchNotices | restart | unknownKind => exact linkOk_request h rfl e
  | rxByte b v => cases e; exact linkOk_event h (linkOk_rxEvent b v h)
  | interByteTimeout => cases e; exact linkOk_event h (linkOk_interByteEvent h)
  | answerTransmitted =>
    cases e
    split
    · exact h
    · split
      · exact linkOk_finishReset _ s
      · exact linkOk_endAnswer h
  | vddPowerOn => cases e; exact linkOk_enterReset _
  | resetNLow => cases e; exact linkOk_enterReset _
  | resetEnd c v => cases e; exact linkOk_resetEnds c v h
  | supgoodInactive k => cases e; exact linkOk_pinEvent h rfl (supgoodLost_link s k)
  | supgoodActive k => cases e; exact linkOk_pinEvent h rfl (supgoodFound_link s k)
  | restorationTimerExpiry k => cases e; exact linkOk_eventBeside h (supplyRestored_link s k)
  | agingStep f => cases e; exact linkOk_eventBeside h (ageEntry_link s f)
  | meterScan p v i => cases e; exact linkOk_eventBeside h (scan_link s p v i)
  | dischargeTimeout p => cases e; exact linkOk_eventBeside h (dischargeExpired_link s p)
  | memberDischargeTimeout p => cases e; exact linkOk_eventBeside h (memberDischargeExpired_link s p)
  | rampExpiry p => cases e; exact linkOk_eventBeside h (rampExpired_link s p)
  | memberRampExpiry p => cases e; exact linkOk_eventBeside h (memberRampExpired_link s p)
  | blankingExpiry p => cases e; exact linkOk_eventBeside h (blankingExpired_link s p)
  | stabilityExpiry p => cases e; exact linkOk_eventBeside h (ite_link (stabilityExpired_link s (.solo p)))
  | gangStabilityExpiry g => cases e; exact linkOk_eventBeside h (ite_link (stabilityExpired_link s (.gang g)))
  | backoffExpiry p => cases e; exact linkOk_eventBeside h (ite_link (backoffExpired_link s (.solo p)))
  | gangBackoffExpiry g => cases e; exact linkOk_eventBeside h (ite_link (backoffExpired_link s (.gang g)))
  | presLevelChange p a => cases e; exact linkOk_pinEvent h rfl (presChanged_link s p a)
  | presenceDebounceExpiry p => cases e; exact linkOk_eventBeside h (debounced_link s p)
  | overcurrentBegin p => cases e; exact linkOk_pinEvent h rfl (overcurrentBegins_link s p)
  | overcurrentEnd p => cases e; exact linkOk_pinEvent h rfl rfl
  | qualifiedPulse p => cases e; exact linkOk_eventBeside h (widthReached_link s p)
  | pairWindowExpiry p => cases e; exact linkOk_eventBeside h rfl
  | shortNActive p a => cases e; exact linkOk_pinEvent h rfl (shortChanged_link s p a)
  | overdrawWindowExpiry p => cases e; exact linkOk_eventBeside h (overdrawExpired_link s p)
  | lineLevelChange l v =>
    cases e
    split
    · exact linkOk_setInput l _ h
    · exact linkOk_event h (linkOk_lineChanged l v h)
  | lineFilterExpiry l => cases e; exact linkOk_eventBeside h (lineQualified_link s l)

end

/-- Settles O58: an event of the link keeps receiver, buffer and queue sound and serves the queue at its end; a request
changes at most the cache and the mark of a RESTART; every other event leaves the link alone. -/
theorem stepsKeepTheLink : Obligations.StepsKeepTheLink := by
  intro s t h e
  unfold step at e
  split at e
  · cases e
    exact h
  · next c rest _ => exact linkOk_exec (s := { s with pending := rest }) h e

end Sys2Proof.Machine
end


/-! # One byte at the receiver, the end of an answer, and the inter-byte timeout (O38, O40, O41) -/

section
namespace Sys2Proof.Machine

open Sys2Proof.Safety

/-! ## The answer queue and the receive buffer (R182 to R184) -/

theorem addNak_room {r : NakReason} {seq : Byte} {l : LinkRec} (h : l.nakCount < 2) :
    addNak r seq l = { l with answers := l.answers ++ [.nak r seq] } := if_pos h

theorem addNak_full {r : NakReason} {seq : Byte} {l : LinkRec} (h : 2 ≤ l.nakCount) : addNak r seq l = l :=
  if_neg (Nat.not_lt.2 h)

theorem freePlace_lowest {l : LinkRec} {i : Fin 2} (hi : tget l.places i = none)
    (hj : ∀ j, j < i → tget l.places j ≠ none) : l.freePlace = some i := by
  rcases (by decide : ∀ i : Fin 2, i = 0 ∨ i = 1) i with rfl | rfl
  · simp [LinkRec.freePlace, hi]
  · have h0 := hj 0 (by decide)
    simp [LinkRec.freePlace, hi, h0]

theorem freePlace_full {l : LinkRec} (h : ∀ i, tget l.places i ≠ none) : l.freePlace = none := by
  simp [LinkRec.freePlace, h]

/-- A frame with a CRC that does not match has a NAK (R183). -/
theorem examineFrame_crc {f : Frame} (l : LinkRec) (h : f.crc ≠ frameCrc f.seq f.kind f.payload) :
    examineFrame f l = addNak .crc f.seq l := if_neg h

/-- A valid frame enters the lowest free place (R183). -/
theorem examineFrame_enters {f : Frame} {l : LinkRec} (h : f.crc = frameCrc f.seq f.kind f.payload) {i : Fin 2}
    (hi : tget l.places i = none) (hj : ∀ j, j < i → tget l.places j ≠ none) :
    examineFrame f l =
      { l with places := tset l.places i (some f), answers := l.answers ++ [.frame i false] } := by
  rw [examineFrame, if_pos h, freePlace_lowest hi hj]

/-- A valid frame that finds no place has a NAK (R183). -/
theorem examineFrame_overrun {f : Frame} {l : LinkRec} (h : f.crc = frameCrc f.seq f.kind f.payload)
    (hfull : ∀ i, tget l.places i ≠ none) : examineFrame f l = addNak .overrun f.seq l := by
  rw [examineFrame, if_pos h, freePlace_full hfull]

/-! ## The transmitter (R185, R189) -/

section
variable {s : State}

theorem serve_busy (h : s.link.tx.isSome = true) : serve s = s := if_pos (by simp [h])

theorem serve_empty (h : s.link.answers = []) : serve s = s := by
  unfold serve
  rw [h]
  exact ite_self s

/-- An idle transmitter takes the head of the queue. -/
theorem serve_idle (htx : s.link.tx = none) (hr : s.link.restarting = false) {a : Answer} {rest : List Answer}
    (ha : s.link.answers = a :: rest) : serve s = takeHead a rest s := by
  unfold serve
  rw [if_neg (by simp [htx, hr]), ha]

/-- A duplicate is answered from the cache (R189). -/
theorem answerFrame_duplicate {f : Frame} {c : CacheRec} (hc : s.link.cache = some c)
    (h : c.seq = f.seq ∧ c.kind = f.kind ∧ c.crc = f.crc) :
    answerFrame f s = { s with link := { s.link with tx := some c.reply } } := by
  obtain ⟨hseq, hkind, hcrc⟩ := h
  unfold answerFrame
  rw [hc]
  exact if_pos (by simp [isDuplicate, hseq, hkind, hcrc])

/-- Any other frame is taken as a request, and its reply is transmitted and cached (R186, R187). -/
theorem answerFrame_request {f : Frame}
    (h : ∀ c ∈ s.link.cache, ¬ (c.seq = f.seq ∧ c.kind = f.kind ∧ c.crc = f.crc)) :
    answerFrame f s =
      { (handle f s).1 with link := { (handle f s).1.link with
          tx := some (frameBytes f.seq (replyKind f.kind) (handle f s).2)
          cache := some { seq := f.seq, kind := f.kind, crc := f.crc,
                          reply := frameBytes f.seq (replyKind f.kind) (handle f s).2 } } } := by
  unfold answerFrame
  cases hc : s.link.cache with
  | none => rfl
  | some c =>
    have hnew := h c hc
    exact if_neg (by simpa [isDuplicate, and_assoc] using hnew)

/-! ## The NAK that ends a frame (R182, R184, R185) -/

/-- A busy transmitter lets the NAK wait. -/
theorem serve_nak_room {r : NakReason} {seq : Byte} (htx : s.link.tx.isSome = true) (hn : s.link.nakCount < 2) :
    serve { s with link := addNak r seq (hunt s.link) } =
      { s with link := { s.link with
          rx := .hunting, rxTimer := none, answers := s.link.answers ++ [.nak r seq] } } := by
  rw [addNak_room (l := hunt s.link) hn, serve_busy (by exact htx)]
  rfl

/-- A NAK beside two that wait is dropped. -/
theorem serve_nak_full {r : NakReason} {seq : Byte} (htx : s.link.tx.isSome = true) (hn : 2 ≤ s.link.nakCount) :
    serve { s with link := addNak r seq (hunt s.link) } =
      { s with link := { s.link with rx := .hunting, rxTimer := none } } := by
  rw [addNak_full (l := hunt s.link) hn, serve_busy (by exact htx)]
  rfl

/-- An idle link transmits the NAK at once. -/
theorem serve_nak_idle {r : NakReason} {seq : Byte} (htx : s.link.tx = none) (hr : s.link.restarting = false)
    (ha : s.link.answers = []) :
    serve { s with link := addNak r seq (hunt s.link) } =
      { s with link := { s.link with
          rx := .hunting, rxTimer := none, answers := [.nak r seq], tx := some (nakBytes r seq) } } := by
  have hroom : (hunt s.link).nakCount < 2 := by
    show (s.link.answers.filter Answer.isNak).length < 2
    simp [ha]
  have hqueue : (hunt s.link).answers ++ [.nak r seq] = [.nak r seq] := by
    show s.link.answers ++ _ = _
    rw [ha, List.nil_append]
  rw [addNak_room hroom, hqueue, serve_idle (by exact htx) (by exact hr) rfl]
  rfl

/-! ## The events (R178, R180, R181, R185) -/

/-- A byte that carries its stop bit is received, and the queue is served. -/
theorem exec_rxByte (hs : s.inReset = false) (hr : s.link.restarting = false) (b : Byte) :
    exec (.rxByte b true) s = .next (driveAux (serve { s with link := receive b s.link })) := by
  refine congrArg Host.Outcome.next ((event_live _ hs).trans (congrArg driveAux ?_))
  exact if_pos (by simp [hr])

/-- A byte after which nothing is served. -/
theorem exec_rxByte_waiting (hs : s.inReset = false) (hr : s.link.restarting = false) {b : Byte} {l : LinkRec}
    (hl : receive b s.link = l) (hw : l.tx.isSome = true ∨ l.answers = []) :
    exec (.rxByte b true) s = .next (driveAux { s with link := l }) := by
  rw [exec_rxByte hs hr, hl]
  rcases hw with htx | ha
  · rw [serve_busy (by exact htx)]
  · rw [serve_empty (by exact ha)]

/-- A byte with a framing error is discarded. -/
theorem exec_rxByte_framingError (hs : s.inReset = false) (b : Byte) :
    exec (.rxByte b false) s = .next (driveAux s) :=
  congrArg Host.Outcome.next (event_live _ hs)

/-- An expiry of the inter-byte timer ends the frame with a NAK. -/
theorem exec_interByteTimeout (hs : s.inReset = false) (hr : s.link.restarting = false)
    (ht : s.link.rxTimer.isSome = true) :
    exec .interByteTimeout s =
      .next (driveAux (serve { s with link := addNak .timeout s.link.rx.seqSoFar (hunt s.link) })) := by
  refine congrArg Host.Outcome.next ((event_live _ hs).trans (congrArg driveAux ?_))
  exact (if_pos ht).trans (if_neg (by simp [hr]))

/-- The end of an answer takes it off the queue, and the queue is served. -/
theorem exec_answerTransmitted (hs : s.inReset = false) (hr : s.link.restarting = false)
    (htx : s.link.tx.isSome = true) :
    exec .answerTransmitted s = .next (driveAux (serve { s with link := endAnswer s.link })) := by
  refine congrArg Host.Outcome.next ((if_neg ?_).trans (if_neg (by simp [hr])))
  cases h : s.link.tx <;> simp_all

end

/-! ## The inter-byte timeout (O41) -/

/-- Settles O41: the expiry is a TIMEOUT NAK with the SEQ received so far. -/
theorem interByteTimeoutEndsTheFrame : Obligations.InterByteTimeoutEndsTheFrame := by
  intro s hs hr ht seq idle
  have hseq : s.link.rx.seqSoFar = seq := by
    cases hrx : s.link.rx <;> simp only [seq, hrx] <;> rfl
  rw [exec_interByteTimeout hs hr ht, hseq]
  refine ⟨fun htx ha => ?_, fun htx hn => ?_, fun htx hn => ?_⟩
  · rw [serve_nak_idle htx hr ha]
    rfl
  · rw [serve_nak_room htx hn]
  · rw [serve_nak_full htx hn]

/-! ## The end of an answer (O40) -/

/-- Settles O40: the end leaves the queue without its head, and the new head is taken. -/
theorem transmitterServesTheNextElement : Obligations.TransmitterServesTheNextElement := by
  intro a rest s hs hr htx ha places u ends
  have hend : endAnswer s.link = u := by
    unfold endAnswer
    rw [ha]
    cases a <;> rfl
  have serves {t : State} (h : serve { s with link := u } = t) : ends t := by
    show exec .answerTransmitted s = _
    rw [exec_answerTransmitted hs hr htx, hend, h]
  have takes {a : Answer} {more : List Answer} (h : rest = a :: more) :
      serve { s with link := u } = takeHead a more { s with link := u } :=
    serve_idle (s := { s with link := u }) rfl hr h
  refine ⟨fun hrest => serves (serve_empty hrest), fun r seq more hrest => serves (takes hrest), ?_⟩
  intro i w more f hrest hplace v
  have answers : serve { s with link := u } = answerFrame f { s with link := v } := by
    rw [takes hrest, takeHead, show tget u.places i = some f from hplace]
    rfl
  exact ⟨fun c hc hsame => serves (answers.trans (answerFrame_duplicate hc hsame)),
    fun hnew => serves (answers.trans (answerFrame_request hnew))⟩

/-! ## One byte (O38) -/

section
variable {s : State} (hs : s.inReset = false) (hr : s.link.restarting = false)
include hs hr

/-- A stage that goes on collects its byte and restarts the inter-byte timer. -/
theorem exec_rxByte_collects (hq : s.link.tx.isSome = true ∨ s.link.answers = []) {b : Byte} {st : RxStage}
    (h : receive b s.link = goOn st s.link) :
    exec (.rxByte b true) s = .next (driveAux { s with link := { s.link with rx := st, rxTimer := some 5 } }) :=
  exec_rxByte_waiting hs hr h hq

/-- A byte that ends the frame with a NAK. -/
theorem exec_rxByte_nak {b : Byte} {r : NakReason} {seq : Byte} (h : receive b s.link = addNak r seq (hunt s.link)) :
    exec (.rxByte b true) s = .next (driveAux (serve { s with link := addNak r seq (hunt s.link) })) := by
  rw [exec_rxByte hs hr, h]

end

/-- The last byte of a frame has it examined. -/
theorem receive_checkLow {l : LinkRec} {len seq kind high : Byte} {got : List Byte}
    (h : l.rx = .checkLow len seq kind got high) (b : Byte) :
    receive b l = examineFrame { seq := seq, kind := kind, payload := got, crc := high ++ b } (hunt l) := by
  simp only [receive, h]

/-- Settles O38: the stages of the receiver one by one, each with what is served after it. -/
theorem receiverCollectsAndExamines : Obligations.ReceiverCollectsAndExamines := by
  refine ⟨?_, ?_, ?_⟩
  · intro b s hs hr took collect
    refine ⟨exec_rxByte_framingError hs b, fun hq => ?_, fun hrx hb => ?_⟩
    · have collects {st : RxStage} (h : receive b s.link = goOn st s.link) : collect st :=
        exec_rxByte_collects hs hr hq h
      refine ⟨fun hrx hb => collects ?_, fun hrx hb => ?_, fun hrx hb => collects ?_, fun len hrx => collects ?_,
        fun len seq hrx hlen => collects ?_, fun len seq hrx hlen => collects ?_,
        fun len seq kind got hrx hlen => collects ?_, fun len seq kind got hrx hlen => collects ?_,
        fun len seq kind got hrx => collects ?_⟩
      · have hsync : b = Config.sync := BitVec.eq_of_toNat_eq hb
        simp [receive, hrx, hsync]
      · have hsync : b ≠ Config.sync := fun e => hb (congrArg BitVec.toNat e)
        exact exec_rxByte_waiting hs hr (by simp [receive, hrx, hsync]) hq
      · simp [receive, hrx, Config.payloadMax, Nat.not_lt.2 hb]
      · simp [receive, hrx]
      · simp [receive, hrx, afterKind, hlen]
      · simp [receive, hrx, afterKind, hlen]
      · simp [receive, hrx, afterPayload, hlen]
      · simp [receive, hrx, afterPayload, Nat.not_lt.2 hlen]
      · simp [receive, hrx]
    · have hlength : receive b s.link = addNak .length 0#8 (hunt s.link) := by
        simp [receive, hrx, Config.payloadMax, hb]
      refine ⟨fun htx hn => ?_, fun htx hn => ?_, fun htx ha => ?_⟩
      · exact (exec_rxByte_nak hs hr hlength).trans (by rw [serve_nak_room htx hn])
      · exact (exec_rxByte_nak hs hr hlength).trans (by rw [serve_nak_full htx hn])
      · exact (exec_rxByte_nak hs hr hlength).trans (by rw [serve_nak_idle htx hr ha]; rfl)
  · intro b len seq kind high got s hs hr htx ha hrx hcrc
    rw [exec_rxByte_nak hs hr ((receive_checkLow hrx b).trans (examineFrame_crc _ hcrc)), serve_nak_idle htx hr ha]
    rfl
  · intro b len seq kind high got s hs hr htx hrx f idle took nak
    have naks {r : NakReason} (h : receive b s.link = addNak r seq (hunt s.link)) : nak r :=
      ⟨fun hn => (exec_rxByte_nak hs hr h).trans (by rw [serve_nak_room htx hn]),
       fun hn => (exec_rxByte_nak hs hr h).trans (by rw [serve_nak_full htx hn])⟩
    have hexam := receive_checkLow hrx b
    refine ⟨fun hcrc => naks (hexam.trans (examineFrame_crc _ hcrc)),
      fun hcrc => ⟨fun i hi hj => ?_, fun hfull => ?_⟩⟩
    · exact exec_rxByte_waiting hs hr (hexam.trans (examineFrame_enters hcrc hi hj)) (.inl htx)
    · exact naks (hexam.trans (examineFrame_overrun hcrc hfull))

end Sys2Proof.Machine
end


/-! # The bytes of a request frame are received as that frame (O39)

While the bytes of a frame come in, nothing but the receiver's stage and its timer changes. So the state after each byte
is `collecting st s` for the next stage `st`, and the induction is over the payload alone. -/

section
namespace Sys2Proof.Machine

open Sys2Proof.Safety

/-! ## The CRC on the line (R179, R201) -/

/-- The two bytes of a CRC, joined, are the CRC. -/
theorem crcBytes_append (c : BitVec 16) : byte (c.toNat / 256) ++ byte c.toNat = c := by
  apply BitVec.eq_of_toNat_eq
  have hc := c.isLt
  have hhigh : c.toNat / 256 < 2 ^ 8 := by omega
  rw [BitVec.toNat_append, byte, byte, BitVec.toNat_ofNat, BitVec.toNat_ofNat, Nat.mod_eq_of_lt hhigh,
    ← Nat.shiftLeft_add_eq_or_of_lt (Nat.mod_lt _ (by decide)), Nat.shiftLeft_eq]
  omega

/-- LEN carries the length of a payload. -/
theorem byte_length_toNat {payload : List Byte} (h : payload.length ≤ 48) :
    (byte payload.length).toNat = payload.length := Nat.mod_eq_of_lt (by omega)

/-! ## The link's record under the auxiliary outputs -/

/-- The auxiliary outputs do not look at the link. -/
theorem driveAux_setLink (s : State) (l : LinkRec) :
    { driveAux s with link := l } = driveAux { s with link := l } := rfl

/-! ## The stages of a frame (R180) -/

/-- A byte after an event: nothing more comes after a fault or a refusal. -/
def feedByte (o : Host.Outcome State Fault Refusal) (b : Byte) : Host.Outcome State Fault Refusal :=
  match o with
  | .next t => exec (.rxByte b true) t
  | x => x

/-- A byte of a frame has been received: the receiver of `s` is in a stage of the frame. -/
def collecting (st : RxStage) (s : State) : Host.Outcome State Fault Refusal :=
  .next (driveAux { s with link := goOn st s.link })

/-- After KIND the receiver stands where a payload begins. -/
theorem afterKind_eq (len seq kind : Byte) : afterKind len seq kind = afterPayload len seq kind [] := by
  have hempty : ([] : List Byte).length < len.toNat ↔ ¬ len.toNat = 0 := Nat.pos_iff_ne_zero
  rw [afterKind, afterPayload, if_congr hempty rfl rfl, ite_not]

section
variable {s : State} (hs : s.inReset = false) (hr : s.link.restarting = false)
include hs hr

section
variable (hq : s.link.tx.isSome = true ∨ s.link.answers = [])
include hq

/-- SYNC begins a frame. -/
theorem feedByte_sync (hrx : s.link.rx = .hunting) : feedByte (.next s) Config.sync = collecting .headerLen s :=
  exec_rxByte_waiting hs hr (l := goOn .headerLen s.link) (by simp [receive, hrx]) hq

/-- A byte within a frame takes the receiver to its next stage. -/
theorem feedByte_collecting {st st' : RxStage} {b : Byte} (h : receive b (goOn st s.link) = goOn st' s.link) :
    feedByte (collecting st s) b = collecting st' s := by
  have hnext := exec_rxByte_waiting (s := driveAux { s with link := goOn st s.link }) (b := b) hs hr h hq
  rw [driveAux_setLink, driveAux_driveAux] at hnext
  exact hnext

/-- The bytes of the payload take the receiver from KIND to the CRC. -/
theorem feed_payload {len seq kind : Byte} (rest got : List Byte) (hlen : got.length + rest.length = len.toNat) :
    rest.foldl feedByte (collecting (afterPayload len seq kind got) s) =
      collecting (.checkHigh len seq kind (got ++ rest)) s := by
  induction rest generalizing got with
  | nil =>
    have hfull : ¬ got.length < len.toNat := Nat.not_lt.2 (Nat.le_of_eq hlen.symm)
    rw [afterPayload, if_neg hfull, List.append_nil]
    rfl
  | cons b rest ih =>
    rw [List.length_cons] at hlen
    have hmore : got.length < len.toNat := by omega
    have hgot : (got ++ [b]).length + rest.length = len.toNat := by
      rw [List.length_append, List.length_singleton]
      omega
    rw [List.foldl_cons, afterPayload, if_pos hmore,
      feedByte_collecting hs hr hq (st' := afterPayload len seq kind (got ++ [b])) rfl, ih _ hgot, List.append_assoc]
    rfl

/-- All bytes of a frame but the last. -/
theorem feed_frameBytes {seq kind : Byte} {payload : List Byte} (hlen : payload.length ≤ 48)
    (hrx : s.link.rx = .hunting) :
    (frameBytes seq kind payload).foldl feedByte (.next s) =
      feedByte (collecting (.checkLow (byte payload.length) seq kind payload
        (byte ((frameCrc seq kind payload).toNat / 256))) s) (byte (frameCrc seq kind payload).toNat) := by
  have htoNat := byte_length_toNat hlen
  have hlength : receive (byte payload.length) (goOn .headerLen s.link) =
      goOn (.headerSeq (byte payload.length)) s.link :=
    if_neg (by rw [htoNat]; exact Nat.not_lt.2 hlen)
  have hkind : receive kind (goOn (.headerKind (byte payload.length) seq) s.link) =
      goOn (afterPayload (byte payload.length) seq kind []) s.link := by
    rw [← afterKind_eq]
    rfl
  rw [frameBytes, List.cons_append, List.cons_append, List.cons_append, List.cons_append, List.foldl_cons,
    List.foldl_cons, List.foldl_cons, List.foldl_cons, List.foldl_append, feedByte_sync hs hr hq hrx,
    feedByte_collecting hs hr hq hlength,
    feedByte_collecting hs hr hq (st' := .headerKind (byte payload.length) seq) rfl,
    feedByte_collecting hs hr hq hkind, feed_payload hs hr hq payload [] (by simp [htoNat]), List.nil_append, be16,
    List.foldl_cons,
    feedByte_collecting hs hr hq (st' := .checkLow (byte payload.length) seq kind payload _) rfl]
  rfl

end

/-- The last byte of a frame, with its CRC: the frame enters the lowest free place, and the queue is served. -/
theorem feedByte_last {seq kind len : Byte} {payload : List Byte} {i : Fin 2} (hrx : s.link.rx = .hunting)
    (hi : tget s.link.places i = none) (hj : ∀ j, j < i → tget s.link.places j ≠ none) :
    feedByte (collecting (.checkLow len seq kind payload (byte ((frameCrc seq kind payload).toNat / 256))) s)
        (byte (frameCrc seq kind payload).toNat) =
      .next (driveAux (serve (driveAux { s with link := { s.link with
        rxTimer := none, places := tset s.link.places i (some (mkFrame seq kind payload))
        answers := s.link.answers ++ [.frame i false] } }))) := by
  refine (exec_rxByte (s := driveAux { s with link := goOn _ s.link }) hs hr _).trans ?_
  have hexam : receive (byte (frameCrc seq kind payload).toNat)
      (goOn (.checkLow len seq kind payload (byte ((frameCrc seq kind payload).toNat / 256))) s.link) =
      { s.link with
        rxTimer := none, places := tset s.link.places i (some (mkFrame seq kind payload))
        answers := s.link.answers ++ [.frame i false] } := by
    rw [receive_checkLow rfl, crcBytes_append]
    refine (examineFrame_enters (f := mkFrame seq kind payload) (l := hunt s.link) rfl hi hj).trans ?_
    rw [hunt, ← hrx]
  rw [driveAux_link, driveAux_setLink]
  exact congrArg (fun l => Host.Outcome.next (driveAux (serve (driveAux { s with link := l })))) hexam

end

/-- Settles O39: the bytes are collected stage by stage, the last one puts the frame in its place, and an idle link
answers it at once. -/
theorem frameBytesAreReceivedAsTheFrame : Obligations.FrameBytesAreReceivedAsTheFrame := by
  intro seq kind payload s hlen hs hr hrx feed received f
  have hfeed : feed = feedByte := by
    funext o b
    cases o <;> rfl
  have hlast (hq : s.link.tx.isSome = true ∨ s.link.answers = []) :
      received = feedByte (collecting (.checkLow (byte payload.length) seq kind payload
        (byte ((frameCrc seq kind payload).toNat / 256))) s) (byte (frameCrc seq kind payload).toNat) := by
    show (frameBytes seq kind payload).foldl feed (.next s) = _
    rw [hfeed]
    exact feed_frameBytes hs hr hq hlen hrx
  refine ⟨fun i htx hi hj => ?_, fun htx ha hplace hnew => ?_⟩
  · rw [hlast (.inl htx), feedByte_last hs hr hrx hi hj, serve_busy (by exact htx), driveAux_driveAux]
  · rw [hlast (.inr ha), feedByte_last hs hr hrx hplace (fun j hj => absurd hj (Nat.not_lt_zero _)), ha,
      List.nil_append]
    refine congrArg (fun t => Host.Outcome.next (driveAux t)) ?_
    refine (serve_idle (by exact htx) (by exact hr) rfl).trans ?_
    refine Eq.trans ?_ (answerFrame_request hnew)
    simp only [takeHead, driveAux_link, tget_tset_same, updLink, driveAux_setLink]
    rfl

end Sys2Proof.Machine
end


/-! # EOFF in force, and the waiting commands, under the part's operations (O2, O55)

While EOFF is asserted nothing is queued, so that no pass grants, and no feed is powered, so that no fault is taken:
every way back to power is closed, and what an effect still moves it moves towards OFF or LATCHED. No effect touches the
waiting commands. `Secures` says both of an effect. -/

section
-- one theorem after the other: elaborated all at once, so many short proofs need too many threads
set_option Elab.async false
namespace Sys2Proof.Machine

open Sys2Proof.Safety

/-! ## A part in emergency off (R193, R194) -/

/-- Nothing is queued, and every feed is in OFF or LATCHED or on its way there (R193). -/
structure Cleared (s : State) : Prop where
  queue : s.queue = []
  feeds : ∀ f, isFeed s f → offBound (s.feedState f) = true

theorem offBound_eq (st : FeedState) : offBound st = !offChanges st := by
  cases st with
  | stopping c d => cases d <;> rfl
  | _ => rfl

theorem powered_of_offBound {st : FeedState} (h : offBound st = true) : st.powered = false :=
  powered_of_off (by simpa [offBound_eq] using h)

/-- With every feed off the budget law leaves the queue empty (R45). -/
theorem cleared_of_feeds {s : State} (hq : queueOk s) (h : ∀ f, isFeed s f → offBound (s.feedState f) = true) :
    Cleared s := by
  refine ⟨List.eq_nil_iff_forall_not_mem.2 fun e he => ?_, h⟩
  obtain ⟨hf, hst, -⟩ := hq.1 e he
  have hoff := h _ hf
  rw [hst] at hoff
  cases hoff

theorem Fixed.isFeed {s t : State} (h : Fixed s t) {f : Feed} (hf : isFeed s f) : isFeed t f :=
  (isFeed_congr h.activeMap f).2 hf

/-- Feeds in the states they had, and no entry made. -/
theorem Cleared.congr {s t : State} (h : Cleared s) (ha : t.activeMap = s.activeMap)
    (hst : ∀ f, t.feedState f = s.feedState f) (hq : s.queue = [] → t.queue = []) : Cleared t :=
  ⟨hq h.queue, fun f hf => by rw [hst]; exact h.feeds f ((isFeed_congr ha f).1 hf)⟩

/-- One feed's state changes, to one that is off or leads there. -/
theorem Cleared.updFeed {f : Feed} {g : FeedRec → FeedRec} {s : State} (h : Cleared s)
    (hg : offBound (s.feedState f) = true → offBound (g (s.feedRec f)).state = true) : Cleared (updFeed f g s) := by
  have hfix := fixed_updFeed f g s
  refine ⟨(keepsQueue_updFeed f g s).queue.trans h.queue, fun k hk => ?_⟩
  have hk' := (isFeed_congr hfix.activeMap k).1 hk
  by_cases e : k = f
  · subst e
    rw [feedState_updFeed_same]
    exact hg (h.feeds k hk')
  · rw [feedState_updFeed_other g s e]
    exact h.feeds k hk'

section
variable {s : State} (h : Cleared s)
include h

theorem Cleared.not_powered {f : Feed} (hf : isFeed s f) : (s.feedState f).powered = false :=
  powered_of_offBound (h.feeds f hf)

/-- No fault is taken (R97). -/
theorem Cleared.takeFault_eq (p : OutletId) (c : FaultCause) : takeFault p c s = s := by
  unfold takeFault
  split
  · rfl
  · next f hf => rw [if_neg (by simp [h.not_powered (isFeed_of_feedOf hf)])]

/-- Nothing runs that could be shed (R68). -/
theorem Cleared.victims_eq : s.victims = [] := by
  have hnone : s.feeds.filter (fun f => (s.feedState f).powered) = [] := List.filter_eq_nil_iff.2 fun f hf => by
    obtain ⟨p, -, hp⟩ := List.mem_filterMap.1 hf
    simp [h.not_powered (isFeed_of_feedOf (leads_iff.1 hp).1)]
  simp [State.victims, hnone]

theorem Cleared.shedAll_eq : shedAll s = (s, 0) := by
  rw [shedAll, h.victims_eq]
  rfl

theorem Cleared.entryOf_eq (f : Feed) : s.entryOf f = none := by simp [State.entryOf, h.queue]

/-- A stopping feed's destination is OFF or LATCHED. -/
theorem Cleared.dest {f : Feed} (hf : isFeed s f) {c : StopCause} {d : Dest} (hst : s.feedState f = .stopping c d) :
    offBound d.entered = true := by
  have hoff := h.feeds f hf
  rw [hst] at hoff
  cases d with
  | off | latched => rfl
  | queued | retryWait => cases hoff

end

/-! ## What an effect keeps -/

/-- `t` has the waiting commands of `s`, and it is cleared while EOFF is asserted if `s` was. -/
structure Secures (s t : State) : Prop where
  pending : t.pending = s.pending
  secured : (s.eoff = true → Cleared s) → t.eoff = true → Cleared t

namespace Secures

variable {b s t : State}

theorem refl (s : State) : Secures s s := ⟨rfl, id⟩

/-- A further change that leaves the waiting commands and EOFF alone. -/
theorem lift (h : Secures b s) (hp : t.pending = s.pending) (he : t.eoff = s.eoff)
    (hc : s.eoff = true → Cleared s → Cleared t) : Secures b t :=
  ⟨hp.trans h.pending, fun hb ht => hc (he ▸ ht) (h.secured hb (he ▸ ht))⟩

theorem fixed (h : Secures b s) (hf : Fixed s t) (hc : s.eoff = true → Cleared s → Cleared t) : Secures b t :=
  h.lift hf.pending hf.eoff hc

/-- A change that does nothing while EOFF is in force. -/
theorem idle (h : Secures b s) (hf : Fixed s t) (hi : s.eoff = true → Cleared s → t = s) : Secures b t :=
  h.fixed hf fun he hc => (hi he hc).symm ▸ hc

/-- A change that leaves the feeds in their states and makes no entry. -/
theorem states (h : Secures b s) (hs : SameStates s t) (hq : s.queue = [] → t.queue = [])
    (he : t.eoff = s.eoff := by rfl) (hp : t.pending = s.pending := by rfl) : Secures b t :=
  h.lift hp he fun _ hc => hc.congr hs.activeMap hs.state hq

theorem foldl {α : Type} {g : State → α → State} (h : Secures b s) (hg : ∀ {t x}, Secures b t → Secures b (g t x))
    (l : List α) : Secures b (l.foldl g s) :=
  l.foldlRecOn (motive := Secures b) g h fun _ ht _ _ => hg ht

/-! ## Records, notices and completions -/

theorem updOutlet {p : OutletId} {f : OutletRec → OutletRec} (h : Secures b s)
    (hf : (f (s.outlet p)).own.state = (s.outlet p).own.state := by rfl) : Secures b (updOutlet p f s) :=
  h.states (sameStates_updOutlet s hf) id

theorem updGang {g : GangId} {f : GangRec → GangRec} (h : Secures b s)
    (hf : (f (s.gang g)).own.state = (s.gang g).own.state := by rfl) : Secures b (updGang g f s) :=
  h.states ⟨rfl, feedState_updGang s hf⟩ id

theorem updFeed {f : Feed} {g : FeedRec → FeedRec} (h : Secures b s)
    (hg : offBound (s.feedState f) = true → offBound (g (s.feedRec f)).state = true) : Secures b (updFeed f g s) :=
  h.fixed (fixed_updFeed f g s) fun _ hc => hc.updFeed hg

theorem setState {f : Feed} {st : FeedState} (h : Secures b s) (hst : offBound st = true) :
    Secures b (setState f st s) := h.updFeed fun _ => hst

theorem redirect {f : Feed} {c : StopCause} {d : Dest} (h : Secures b s) (hd : offBound (.stopping c d) = true) :
    Secures b (redirect f c d s) := h.setState hd

theorem leaveRetry {f : Feed} (h : Secures b s) : Secures b (leaveRetry f s) := h.updFeed fun _ => rfl

theorem raise {subj : Subject} {fl : NoticeFlag} (h : Secures b s) : Secures b (raise subj fl s) :=
  h.states (sameStates_of_eq rfl rfl rfl) id

theorem bindSlot {n : SlotId} {op : SlotOp} {f : Feed} (h : Secures b s) : Secures b (bindSlot n op f s) :=
  updFeed (s := s.setSlot n _) (h.states (sameStates_of_eq rfl rfl rfl) id) id

theorem completeOp {k : PowerKind} {o : Completion} {f : Feed} (h : Secures b s) : Secures b (completeOp k o f s) :=
  have hc := calm_completeOp k o f s
  have hf := fixed_completeOp k o f s
  h.states ⟨hc.activeMap, hc.state⟩ (fun hq => (keepsQueue_completeOp k o f s).queue.trans hq) hf.eoff hf.pending

/-! ## The queue and the pass -/

/-- With nothing queued a pass grants nothing (R54 to R58). -/
theorem pass (h : Secures b s) : Secures b (pass s) := h.idle (fixed_pass s) fun _ hc => pass_of_empty hc.queue

theorem passIf {c : Bool} (h : Secures b s) : Secures b (passIf c s) := ite_keeps (fun _ => h.pass) h

theorem withdraw {f : Feed} (h : Secures b s) : Secures b (withdraw f s) :=
  setState (s := dequeued f s)
    (h.states (sameStates_of_eq rfl rfl rfl) fun hq => by simp [dequeued, dropEntry, hq]) rfl

theorem updEntry {f : Feed} {g : Entry → Entry} (h : Secures b s) : Secures b (updEntry f g s) :=
  h.idle (fixed_updEntry f g s) fun _ hc => updEntry_none (hc.entryOf_eq f) g

/-! ## Stops, faults and the budget -/

/-- A stop for OFF (R13, R124). -/
theorem stopOff {f : Feed} {c : StopCause} (h : Secures b s) : Secures b (stopFeed f c .off s) := by
  have hout : SameRetry s ((s.outletsOf f).foldl stopOutlet s) := SameRetry.foldl sameRetry_stopOutlet _ s
  have hstop := stopRecord_sameRetry f c .off ((s.outletsOf f).foldl stopOutlet s)
  refine h.fixed (fixed_stopFeed f c .off s) fun _ hc => ?_
  have houtlets : Cleared ((s.outletsOf f).foldl stopOutlet s) := hc.congr hout.activeMap hout.state fun hq =>
    (KeepsQueue.foldl (g := stopOutlet) (fun _ _ => ⟨rfl, rfl, rfl⟩) (s.outletsOf f) s).queue.trans hq
  have hrec := houtlets.updFeed (f := f) (g := fun r => { r with state := .stopping c .off, stability := none })
    fun _ => rfl
  refine hrec.congr hstop.activeMap hstop.state fun _ => ?_
  exact (keepsQueue_stopFeed f c .off s).queue.trans hc.queue

theorem takeFault {p : OutletId} {c : FaultCause} (h : Secures b s) : Secures b (takeFault p c s) :=
  h.idle (fixed_takeFault p c s) fun _ hc => hc.takeFault_eq p c

theorem qualify {p : OutletId} (h : Secures b s) : Secures b (qualify p s) := by
  unfold Machine.qualify
  dsimp only
  split
  · exact h.updOutlet.takeFault
  · split
    · exact h.updOutlet.updOutlet
    · exact h.updOutlet.updOutlet.takeFault

theorem examine {p : OutletId} (h : Secures b s) : Secures b (examine p s) :=
  ite_keeps (fun _ => h.qualify) h.updOutlet

/-- With nothing running nothing is shed, whatever the budget becomes (R38, R39, R70). -/
theorem recompute (h : Secures b s) : Secures b (recompute s).1 := by
  have hfit (c : Option Claim) : Secures b (refit { s with budget := s.budgetNow, claim := c }) :=
    h.states (sameStates_of_eq rfl rfl rfl) fun hq => by simp [refit, hq]
  have hshed {t : State} (ht : Secures b t) : Secures b (shedAll t).1 :=
    ht.idle (fixed_shedAll t) fun _ hc => by rw [hc.shedAll_eq]
  unfold Machine.recompute
  dsimp only
  split
  · exact (hshed (hfit none)).raise.passIf
  · split
    · exact (hfit s.claim).raise.pass
    · exact h

/-! ## Discharges -/

theorem returnAlloc {p : OutletId} (h : Secures b s) : Secures b (returnAlloc p s) :=
  h.fixed (fixed_returnAlloc p s) fun _ hc => hc.congr rfl (feedState_returnAlloc p s) id

/-- A feed in STOPPING leaves for its destination, which is OFF or LATCHED while EOFF is in force (R194). -/
theorem enterDest {f : Feed} {c : StopCause} {d : Dest} (h : Secures b s) (hf : isFeed s f)
    (hst : s.feedState f = .stopping c d) : Secures b (enterDest f d s) :=
  h.fixed (fixed_enterDest f d s) fun _ hc => by
    have hd := hc.dest hf hst
    cases d with
    | off => exact hc.updFeed (g := fun r => { r with state := .off }) fun _ => rfl
    | latched => exact hc.updFeed (g := fun r => { r with state := .latched }) fun _ => rfl
    | queued | retryWait => cases hd

theorem soloDischarged {p : OutletId} {c : StopCause} {d : Dest} (h : Secures b s) (hf : isFeed s (.solo p))
    (hst : s.feedState (.solo p) = .stopping c d) : Secures b (soloDischarged p d s) :=
  (h.returnAlloc.enterDest ((fixed_returnAlloc p s).isFeed hf)
    ((feedState_returnAlloc p s _).trans hst)).raise.completeOp.pass

theorem soloTimeout {p : OutletId} (h : Secures b s) : Secures b (soloTimeout p s) :=
  (setState (f := .solo p) h.returnAlloc.updOutlet rfl).raise.completeOp.completeOp.raise.pass

theorem memberReturned {g : GangId} (h : Secures b s) (hf : isFeed s (.gang g)) :
    Secures b (memberReturned g s) := by
  refine pass (ite_keeps (fun _ => ?_) h)
  unfold gangLeaves
  split
  · next hst => exact (h.enterDest (f := .gang g) hf hst).completeOp.raise
  · exact h

theorem memberDischarged {g : GangId} {p : OutletId} (h : Secures b s) (hf : isFeed s (.gang g)) :
    Secures b (memberDischarged g p s) := h.returnAlloc.memberReturned hf

theorem memberTimeout {g : GangId} {c : StopCause} {p : OutletId} (h : Secures b s) (hf : isFeed s (.gang g)) :
    Secures b (memberTimeout g c p s) :=
  (h.returnAlloc.updOutlet.redirect rfl).updGang.completeOp.raise.raise.memberReturned
    (((((((fixed_returnAlloc p s).trans (fixed_updOutlet _ _ _)).trans (fixed_redirect _ _ _ _)).trans
      (fixed_updGang _ _ _)).trans (fixed_completeOp _ _ _ _)).trans (fixed_raise _ _ _)).trans
      (fixed_raise _ _ _) |>.isFeed hf)

end Secures

end Sys2Proof.Machine
end


/-! # EOFF in force, and the waiting commands, under the requests and the events (O2, O55) -/

section
-- one theorem after the other: elaborated all at once, so many short proofs need too many threads
set_option Elab.async false
namespace Sys2Proof.Machine

open Sys2Proof.Safety

/-- With every feed off an apply takes over feeds that are off alone (R140, R141). -/
theorem Cleared.applyStaged {s : State} (h : Cleared s) : Cleared (applyStaged s) := by
  refine ⟨h.queue, fun f hf => ?_⟩
  cases f with
  | solo p =>
    have hp : s.stagedMap.feedOf p = some (.solo p) := hf
    show offBound ((Machine.applyStaged s).outlet p).own.state = true
    rw [applyStaged_outlet]
    cases ha : s.activeMap.feedOf p with
    | none => rw [outletAfter_own_new ha hp]; rfl
    | some k =>
      cases k with
      | solo q =>
        obtain rfl : q = p := feedOf_solo (s := s) ha
        rw [outletAfter_solo ha hp]
        exact h.feeds (.solo q) ha
      | gang g =>
        rw [outletAfter_own_left ha hp]
        exact h.feeds (.gang g) (isFeed_of_feedOf (s := s) ha)
  | gang g =>
    have hg : (tget s.stagedMap.gangs g).isSome = true := hf
    show offBound ((Machine.applyStaged s).gang g).own.state = true
    rw [applyStaged_gang]
    cases hm : s.membershipChanges g with
    | false =>
      have hsame : tget s.stagedMap.gangs g = tget s.activeMap.gangs g := by simpa [State.membershipChanges] using hm
      rw [gangAfter_same hm]
      rw [hsame] at hg
      exact h.feeds (.gang g) hg
    | true =>
      cases hb : s.bringsLatch g with
      | false => rw [gangAfter_rest hm hb]; rfl
      | true => rw [gangAfter_latched hm hb]; rfl

namespace Secures

variable {b s t : State}

/-- A change that EOFF in force keeps away. -/
theorem eoffFree (h : Secures b s) (hf : Fixed s t) (he : s.eoff = false) : Secures b t :=
  h.fixed hf fun he' => by rw [he] at he'; cases he'

theorem setLink {l : LinkRec} (h : Secures b s) : Secures b { s with link := l } :=
  h.states (sameStates_of_eq rfl rfl rfl) id

/-! ## Power requests -/

/-- EOFF in force refuses a POWER_ON (R150). -/
theorem powerOnFeed {fr : Frame} {c : Byte} {f : Feed} (h : Secures b s) : Secures b (powerOnFeed fr c f s).1 := by
  cases he : s.eoff with
  | true => rw [show Machine.powerOnFeed fr c f s = refuse s .emergency by simp [Machine.powerOnFeed, he]]; exact h
  | false =>
    have heffect (t : State) : Fixed t (powerOnEffect f t) := by
      unfold powerOnEffect
      split
      · exact ((fixed_enterQueued _ _ t).trans (fixed_raise _ _ _)).trans (fixed_pass _)
      · exact Fixed.refl t
    rcases powerOnFeed_state fr c f s with e | ⟨n, e⟩
    · rw [e]; exact h
    · rw [e]; exact h.eoffFree ((fixed_bindSlot _ _ _ s).trans (heffect _)) he

theorem reqPowerOn {fr : Frame} (h : Secures b s) : Secures b (reqPowerOn fr s).1 := by
  unfold Machine.reqPowerOn
  split
  · split
    · exact h
    · exact h.powerOnFeed
  · exact h

theorem offBound_destAfterOff (c : StopCause) (d : Dest) : offBound (.stopping c (destAfterOff d)) = true := by
  cases d <;> rfl

theorem powerOffFeed {fr : Frame} {c : Byte} {f : Feed} (h : Secures b s) : Secures b (powerOffFeed fr c f s).1 := by
  unfold Machine.powerOffFeed
  dsimp only
  split
  · exact h
  · exact h
  · exact h.withdraw.raise.completeOp.pass
  · exact h.leaveRetry.raise.completeOp
  · split
    · exact h
    · exact h.completeOp.stopOff.raise.bindSlot
  · split
    · exact h
    · exact h.completeOp.stopOff.raise.bindSlot
  · split
    · exact h
    · split
      · exact h
      · exact (h.redirect (offBound_destAfterOff _ _)).completeOp.bindSlot

theorem offOne {t : State × Nat} {f : Feed} (h : Secures b t.1) : Secures b (offOne t f).1 := by
  unfold Machine.offOne
  dsimp only
  split
  · exact h
  · exact h
  · exact h.withdraw.raise.completeOp
  · exact h.leaveRetry.raise.completeOp
  · exact h.stopOff.raise.completeOp
  · exact h.stopOff.raise.completeOp
  · exact (h.redirect rfl).completeOp
  · exact (h.redirect rfl).completeOp
  · exact h
  · exact h

theorem powerOffEvery (h : Secures b s) : Secures b (powerOffEvery s).1 :=
  passIf (s.feeds.foldlRecOn (motive := fun t => Secures b t.1) Machine.offOne h fun _ ht _ _ => ht.offOne)

theorem reqPowerOff {fr : Frame} (h : Secures b s) : Secures b (reqPowerOff fr s).1 := by
  unfold Machine.reqPowerOff
  split
  · split
    · exact h.powerOffEvery
    · split
      · exact h
      · exact h.powerOffFeed
  · exact h

theorem clearFeed {f : Feed} (h : Secures b s) : Secures b (clearFeed f s) := by
  by_cases hst : s.feedState f = .latched
  · rw [clearFeed_latched hst]
    exact (h.updFeed fun _ => rfl).raise
  · rw [clearFeed_elsewhere hst]
    exact h.updFeed id

theorem reqClearFault {fr : Frame} (h : Secures b s) : Secures b (reqClearFault fr s).1 := by
  unfold Machine.reqClearFault
  split
  · split
    · exact h
    · exact h.clearFeed
  · exact h

/-! ## Profile writes -/

theorem amountWritten {f : Feed} (h : Secures b s) : Secures b (amountWritten f s).1 := by
  have hclaim {t : State} (c : Option Claim) (ht : Secures b t) : Secures b { t with claim := c } :=
    ht.states (sameStates_of_eq rfl rfl rfl) id
  unfold Machine.amountWritten
  dsimp only
  split
  · split
    · exact hclaim none h.updEntry
    · exact hclaim _ h.updEntry
  · exact h.updEntry

theorem priorityWritten {f : Feed} {v : Nat} (h : Secures b s) : Secures b (priorityWritten f v s).1 := by
  unfold Machine.priorityWritten
  split
  · exact h.updEntry
  · exact h

theorem writePair {p : OutletId} {f : ProfileField} {v : Nat} (h : Secures b s) : Secures b (writePair p f v s).1 := by
  have hw : Secures b (Machine.updOutlet p (fun o => { o with profile := writeField f v o.profile }) s) := h.updOutlet
  unfold Machine.writePair
  dsimp only
  split
  · split
    · split
      · exact hw.amountWritten
      · exact hw
    · exact hw
  · split
    · exact hw.priorityWritten
    · exact hw
  · exact hw.updOutlet (f := fun o => { o with pairWindow := none })
  · split
    · exact hw
    · exact hw.updOutlet (f := fun o => { o with overdrawWindow := none })
  · exact hw.updOutlet (f := fun o => { o with overdrawWindow := o.overdrawWindow.map fun _ => v })
  · exact hw

theorem writeGangPair {g : GangId} {f : GangField} {v : Nat} (h : Secures b s) :
    Secures b (writeGangPair g f v s).1 := by
  have hw : Secures b (Machine.updGang g (fun r => { r with profile := writeGangField f v r.profile }) s) := h.updGang
  unfold Machine.writeGangPair
  dsimp only
  split
  · split
    · exact hw.priorityWritten
    · exact hw
  · exact hw

theorem setProfileOf {p : OutletId} {l : List (Byte × Nat)} (h : Secures b s) : Secures b (setProfileOf p l s).1 := by
  have hpairs (l : List (ProfileField × Nat)) : Secures b (writePairs p l s).1 :=
    l.foldlRecOn (motive := fun t : State × Bool => Secures b t.1) _ h fun _ ht _ _ => ht.writePair
  unfold Machine.setProfileOf
  split
  · exact h
  · split
    · exact h
    · exact (hpairs _).passIf

theorem reqSetProfile {fr : Frame} (h : Secures b s) : Secures b (reqSetProfile fr s).1 := by
  unfold Machine.reqSetProfile
  split
  · exact h
  · split
    · exact h
    · split
      · split
        · exact h
        · exact h.setProfileOf
      · exact h

theorem setGangProfileOf {g : GangId} {l : List (Byte × Nat)} (h : Secures b s) :
    Secures b (setGangProfileOf g l s).1 := by
  have hpairs (l : List (GangField × Nat)) : Secures b (writeGangPairs g l s).1 :=
    l.foldlRecOn (motive := fun t : State × Bool => Secures b t.1) _ h fun _ ht _ _ => ht.writeGangPair
  unfold Machine.setGangProfileOf
  split
  · exact h
  · split
    · exact h
    · exact (hpairs _).passIf

theorem reqSetGangProfile {fr : Frame} (h : Secures b s) : Secures b (reqSetGangProfile fr s).1 := by
  unfold Machine.reqSetGangProfile
  split
  · exact h
  · split
    · exact h
    · split
      · split
        · exact h
        · exact h.setGangProfileOf
      · exact h

/-! ## Supplies, policy and aging -/

theorem updSupply {k : SupplyId} {g : SupplyRec → SupplyRec} (h : Secures b s) : Secures b (updSupply k g s) :=
  h.states (sameStates_of_eq rfl rfl rfl) id

theorem writeCapacity {k : SupplyId} {v : Option Nat} (h : Secures b s) : Secures b (writeCapacity k v s) := by
  unfold Machine.writeCapacity
  split
  · exact h
  · next c => exact ite_keeps (fun _ => h) (h.updSupply (g := fun r => { r with capacity := c })).raise

theorem writeReserve {v : Option Nat} (h : Secures b s) : Secures b (writeReserve v s) := by
  cases v with
  | none => exact h
  | some r => exact h.states (sameStates_of_eq rfl rfl rfl) id

theorem setSupplyTo {a c r : Option Nat} (h : Secures b s) : Secures b (setSupplyTo a c r s).1 :=
  h.writeCapacity.writeCapacity.writeReserve.recompute

theorem reqSetSupply {fr : Frame} (h : Secures b s) : Secures b (reqSetSupply fr s).1 := by
  unfold Machine.reqSetSupply
  split
  · exact h
  · split
    · dsimp only
      split
      · exact h.setSupplyTo
      · exact h
    · exact h

theorem writePolicy {n : Policy} (h : Secures b s) : Secures b (writePolicy n s) := by
  unfold Machine.writePolicy
  exact passIf (h.states (sameStates_of_eq rfl rfl rfl) fun hq => by simp [hq])

theorem reqSetPolicy {fr : Frame} (h : Secures b s) : Secures b (reqSetPolicy fr s).1 := by
  unfold Machine.reqSetPolicy
  split
  · exact h
  · split
    · dsimp only
      split
      · exact h.writePolicy
      · exact h
    · exact h

theorem supgoodLost {k : SupplyId} (h : Secures b s) : Secures b (supgoodLost k s) :=
  ite_keeps (fun _ => h.updSupply.raise.recompute) h.updSupply

theorem supgoodFound {k : SupplyId} (h : Secures b s) : Secures b (supgoodFound k s) :=
  ite_keeps (fun _ => h) h.updSupply

theorem supplyRestored {k : SupplyId} (h : Secures b s) : Secures b (supplyRestored k s) :=
  ite_keeps (fun _ => h.updSupply.raise.recompute) h

theorem ageEntry {f : Feed} (h : Secures b s) : Secures b (ageEntry f s) := by
  unfold Machine.ageEntry
  split
  · exact h
  · exact ite_keeps (fun _ => h.updEntry.passIf) h

/-! ## Maps, notices and meters -/

theorem reqReadMeter {fr : Frame} (h : Secures b s) : Secures b (reqReadMeter fr s).1 := by
  unfold Machine.reqReadMeter
  split
  · split
    · exact h.updOutlet (f := fun o => { o with peak := peakAfterRead o })
    · exact h
  · exact h

theorem setStaged {m : MapRec} (h : Secures b s) : Secures b { s with stagedMap := m } :=
  h.states (sameStates_of_eq rfl rfl rfl) id

theorem reqStageMap {fr : Frame} (h : Secures b s) : Secures b (reqStageMap fr s).1 := by
  unfold Machine.reqStageMap
  split
  · exact h
  · split
    · split
      · exact h
      · exact h.setStaged
    · exact h

theorem reqStageGang {fr : Frame} (h : Secures b s) : Secures b (reqStageGang fr s).1 := by
  unfold Machine.reqStageGang
  split
  · exact h
  · split
    · split
      · split
        · exact h
        · exact h.setStaged
      · exact h
    · exact h

theorem reqDiscardMap {fr : Frame} (h : Secures b s) : Secures b (reqDiscardMap fr s).1 := by
  unfold Machine.reqDiscardMap
  split
  · exact h.setStaged
  · exact h

theorem reqApplyMap {fr : Frame} (h : Secures b s) : Secures b (reqApplyMap fr s).1 := by
  have happlied : Secures b (applyStaged s) := h.lift rfl rfl fun _ hc => hc.applyStaged
  unfold Machine.reqApplyMap
  split
  · split
    · split
      · exact h
      · exact (happlied.raise.foldl raise _).foldl raise _
    · exact h
  · exact h

theorem acknowledge {n : Nat} (h : Secures b s) : Secures b (acknowledge n s) := by
  have hcut (l : List Notice) : Secures b { s with notices := l } := h.states (sameStates_of_eq rfl rfl rfl) id
  have hfree {t : State} {x : Notice} (ht : Secures b t) : Secures b (freeSlotOf t x) := by
    unfold freeSlotOf
    split
    · exact ht.states (sameStates_of_eq rfl rfl rfl) id
    · exact ht
  exact ite_keeps (fun _ => (hcut _).foldl hfree _) h

theorem reqFetchNotices {fr : Frame} (h : Secures b s) : Secures b (reqFetchNotices fr s).1 := by
  unfold Machine.reqFetchNotices
  split
  · split
    · exact h.acknowledge.states (sameStates_of_eq rfl rfl rfl) id
    · exact h
  · exact h

/-! ## Events of outlets and gangs -/

theorem reportDown {p : OutletId} (h : Secures b s) : Secures b (reportDown p s) := by
  unfold Machine.reportDown
  split
  · exact h
  · next q hq =>
    split
    · next hst => exact h.soloDischarged (isFeed_of_feedOf hq) hst
    · exact h
  · next g hg =>
    split
    · exact ite_keeps (fun _ => h) (h.memberDischarged (isFeed_of_feedOf hg))
    · exact h

theorem scan {p : OutletId} {v i : Nat} (h : Secures b s) : Secures b (scan p v i s) :=
  ite_keeps (fun _ => h.updOutlet.updOutlet (hf := by rw [compareDraw_meter])) <|
    ite_keeps (fun _ => h.updOutlet.reportDown) h.updOutlet

theorem dischargeExpired {p : OutletId} (h : Secures b s) : Secures b (dischargeExpired p s) := by
  unfold Machine.dischargeExpired
  split
  · split
    · exact h.soloTimeout
    · exact h
  · exact h

theorem memberDischargeExpired {p : OutletId} (h : Secures b s) : Secures b (memberDischargeExpired p s) := by
  unfold Machine.memberDischargeExpired
  split
  · split
    · next hg =>
      split
      · exact h.memberTimeout (isFeed_of_feedOf hg)
      · exact h
    · exact h
  · exact h

end Secures

/-- No feed is in a state that leads to power. -/
theorem Cleared.false_of {f : Feed} {st : FeedState} (h : Cleared s) (hf : isFeed s f) (hst : s.feedState f = st)
    (hoff : offBound st = false) : False := by
  have hst' := h.feeds f hf
  rw [hst, hoff] at hst'
  cases hst'

namespace Secures

variable {b s t : State}

/-- A feed that leads to power stands in no part that EOFF has taken off. -/
theorem ofPower (h : Secures b s) {f : Feed} {st : FeedState} (hf : isFeed s f) (hst : s.feedState f = st)
    (hoff : offBound st = false) (ht : Fixed s t) : Secures b t :=
  h.fixed ht fun _ hc => (hc.false_of hf hst hoff).elim

theorem fixed_ite {c : Prop} [Decidable c] {u v : State} (hu : Fixed s u) (hv : Fixed s v) :
    Fixed s (if c then u else v) := ite_keeps (P := Fixed s) (fun _ => hu) hv

theorem rampExpired {p : OutletId} (h : Secures b s) : Secures b (rampExpired p s) := by
  refine ite_keeps (fun hc => ?_) h
  obtain ⟨hf, -, hst⟩ := hc
  have hup := fixed_updOutlet p (fun o => { o with ramp := none }) s
  refine h.ofPower (isFeed_of_feedOf hf) hst rfl (fixed_ite ?_ ?_)
  · exact ((hup.trans (fixed_updFeed _ _ _)).trans (fixed_raise _ _ _)).trans (fixed_completeOp _ _ _ _)
  · exact hup.trans (fixed_takeFault _ _ _)

theorem memberRampExpired {p : OutletId} (h : Secures b s) : Secures b (memberRampExpired p s) := by
  unfold Machine.memberRampExpired
  split
  · next g hf =>
    refine ite_keeps (fun hc => ?_) h
    have hup := fixed_updOutlet p (fun o => { o with ramp := none }) s
    refine h.ofPower (isFeed_of_feedOf hf) hc.2 rfl (fixed_ite (fixed_ite ?_ hup) ?_)
    · exact ((hup.trans (fixed_updFeed _ _ _)).trans (fixed_completeOp _ _ _ _)).trans (fixed_raise _ _ _)
    · exact hup.trans (fixed_takeFault _ _ _)
  · exact h

theorem blankingExpired {p : OutletId} (h : Secures b s) : Secures b (blankingExpired p s) :=
  ite_keeps (fun _ => ite_keeps (fun _ => h.updOutlet.examine) h.updOutlet) h

theorem stabilityExpired {f : Feed} (h : Secures b s) : Secures b (stabilityExpired f s) :=
  ite_keeps (fun _ => h.updFeed id) h

theorem backoffExpired {f : Feed} (h : Secures b s) (hf : isFeed s f) : Secures b (backoffExpired f s) :=
  ite_keeps (fun hc => h.ofPower hf hc.2 rfl
    (((fixed_enterQueued _ _ s).trans (fixed_raise _ _ _)).trans (fixed_pass _))) h

theorem arrived {f : Feed} (h : Secures b s) : Secures b (arrived f s) :=
  ite_keeps (fun hc => h.eoffFree
    (((fixed_enterQueued _ _ s).trans (fixed_raise _ _ _)).trans (fixed_pass _)) hc.2) h

theorem departed {f : Feed} (h : Secures b s) : Secures b (departed f s) := by
  unfold Machine.departed
  split
  · exact h
  · exact h
  · exact h.withdraw.raise.completeOp.pass
  · exact h.stopOff.raise.completeOp
  · exact h.stopOff.raise.completeOp
  · exact (h.redirect rfl).completeOp
  · exact (h.redirect rfl).completeOp
  · exact h
  · exact h
  · exact h.leaveRetry.raise.completeOp

theorem presenceActs {p : OutletId} {a : Bool} (h : Secures b s) : Secures b (presenceActs p a s) :=
  ite_keeps (fun _ => ite_keeps (fun _ => h.arrived) h.departed) h

theorem debounced {p : OutletId} (h : Secures b s) : Secures b (debounced p s) :=
  ite_keeps (fun _ => ite_keeps (fun _ => h.updOutlet) h.updOutlet.updOutlet.raise.presenceActs) h

theorem presChanged {p : OutletId} {a : Bool} (h : Secures b s) : Secures b (presChanged p a s) :=
  ite_keeps (fun _ => h) h.updOutlet

theorem overcurrentBegins {p : OutletId} (h : Secures b s) : Secures b (overcurrentBegins p s) :=
  ite_keeps (fun _ => h) <| ite_keeps (fun _ => h.updOutlet.examine) h.updOutlet

theorem widthReached {p : OutletId} (h : Secures b s) : Secures b (widthReached p s) :=
  ite_keeps (fun _ => h.qualify) h

theorem shortChanged {p : OutletId} {a : Bool} (h : Secures b s) : Secures b (shortChanged p a s) :=
  ite_keeps (fun _ => h) <| ite_keeps (fun _ => h.updOutlet.takeFault) h.updOutlet

theorem overdrawExpired {p : OutletId} (h : Secures b s) : Secures b (overdrawExpired p s) :=
  ite_keeps (fun _ => h.updOutlet.takeFault) h

end Secures

end Sys2Proof.Machine
end


/-! # The EOFF assertion on one feed after the other (O53, O55) -/

section
-- one theorem after the other: elaborated all at once, so many short proofs need too many threads
set_option Elab.async false
namespace Sys2Proof.Machine

open Sys2Proof.Safety

section
variable {c : StopCause} {f : Feed} {l : List (Subject × NoticeFlag)} {s t : State}

/-- The moved feed is in its off state. -/
theorem OffMove.feedState_same (m : OffMove c f l s t) (hf : isFeed s f) :
    t.feedState f = offState c (s.feedState f) := by
  cases f with
  | solo p =>
    have hp : s.feedOf p = some (.solo p) := hf
    rw [State.feedState, State.feedRec, m.outlet p, if_pos hp, if_pos rfl]
    rfl
  | gang g =>
    rw [State.feedState, State.feedRec, m.gang g, if_pos rfl]
    rfl

/-- The other feeds stay in their states. -/
theorem OffMove.feedState_other (m : OffMove c f l s t) {k : Feed} (hk : k ≠ f) : t.feedState k = s.feedState k := by
  cases k with
  | solo p =>
    rw [State.feedState, State.feedRec, m.outlet p]
    split
    · rw [if_neg (Ne.symm hk)]
      rfl
    · rfl
  | gang g =>
    rw [State.feedState, State.feedRec, m.gang g, if_neg (Ne.symm hk)]
    rfl

end

/-- The EOFF assertion leaves a feed that is off, and moves every other feed off and completes its POWER_ON EMERGENCY
(R193). -/
theorem emergencyFeed_move {s : State} {f : Feed} (hm : mapsOk s) (hf : isFeed s f) :
    offChanges (s.feedState f) = false ∧ emergencyFeed s f = s ∨
      ∃ t, OffMove .emergency f (offTurn s f) s t ∧ emergencyFeed s f = completeOp .powerOn .emergency f t := by
  have hrec : (s.feedRec f).state = s.feedState f := rfl
  unfold emergencyFeed
  cases hst : s.feedState f with
  | off => exact .inl ⟨rfl, rfl⟩
  | latched => exact .inl ⟨rfl, rfl⟩
  | queued =>
    refine .inr ⟨_, ?_, rfl⟩
    rw [offTurn, hst]
    exact (offMove_updFeed hf (by rw [hst]; rfl) (by simp [offRec, offState, hrec, hst, FeedState.powered]) _
      _).tell _ _
  | retryWait =>
    refine .inr ⟨_, ?_, rfl⟩
    rw [offTurn, hst]
    exact (offMove_updFeed hf (by rw [hst]; rfl) (by simp [offRec, offState, hrec, hst, FeedState.powered]) s.queue
      s.claim).tell _ _
  | starting =>
    refine .inr ⟨_, ?_, rfl⟩
    rw [offTurn, hst]
    exact (offMove_stop hm hf (by rw [hst]; rfl)).tell _ _
  | on =>
    refine .inr ⟨_, ?_, rfl⟩
    rw [offTurn, hst]
    exact (offMove_stop hm hf (by rw [hst]; rfl)).tell _ _
  | stopping c d =>
    have hredirect (h : offRec .emergency false (s.feedRec f) = { s.feedRec f with state := .stopping c .off }) :
        OffMove .emergency f (offTurn s f) s (redirect f c .off s) := by
      rw [offTurn, hst]
      exact offMove_updFeed (h := fun r => { r with state := .stopping c .off }) hf (by rw [hst]; rfl) h.symm s.queue
        s.claim
    cases d with
    | off => exact .inl ⟨rfl, rfl⟩
    | latched => exact .inl ⟨rfl, rfl⟩
    | queued =>
      exact .inr ⟨_, hredirect (by simp [offRec, offState, hrec, hst, destOffBound, FeedState.powered]), rfl⟩
    | retryWait =>
      exact .inr ⟨_, hredirect (by simp [offRec, offState, hrec, hst, destOffBound, FeedState.powered]), rfl⟩

/-! ## A part in emergency off, after the assertion -/

theorem offBound_offState (c : StopCause) (st : FeedState) : offBound (offState c st) = true := by
  simp [offBound_eq, offChanges_offState]

/-- The assertion takes the feed off, and brings no other feed back. -/
theorem offBound_emergencyFeed {s : State} {f k : Feed} (hm : mapsOk s) (hf : isFeed s f)
    (hk : k = f ∨ offBound (s.feedState k) = true) : offBound ((emergencyFeed s f).feedState k) = true := by
  rcases emergencyFeed_move hm hf with ⟨hoff, e⟩ | ⟨t, m, e⟩
  · rw [e]
    rcases hk with rfl | hk
    · rw [offBound_eq, hoff]
      rfl
    · exact hk
  · rw [e, (calm_completeOp _ _ _ _).state]
    by_cases hkf : k = f
    · subst hkf
      rw [m.feedState_same hf]
      exact offBound_offState _ _
    · rw [m.feedState_other hkf]
      exact hk.resolve_left hkf

theorem offBound_emergencyFeeds (l : List Feed) {s : State} (hm : mapsOk s) (hl : ∀ f ∈ l, isFeed s f) {k : Feed}
    (hk : k ∈ l ∨ offBound (s.feedState k) = true) : offBound ((l.foldl emergencyFeed s).feedState k) = true := by
  induction l generalizing s with
  | nil => exact hk.resolve_left List.not_mem_nil
  | cons f l ih =>
    have hfix := fixed_emergencyFeed s f
    refine ih (mapsOk_fixed hfix hm) (fun g hg => hfix.isFeed (hl g (List.mem_cons_of_mem f hg))) ?_
    rw [List.mem_cons, or_assoc, or_left_comm] at hk
    exact hk.imp_right (offBound_emergencyFeed hm (hl f List.mem_cons_self))

/-- The assertion leaves the part in emergency off (R193, R194). -/
theorem cleared_assertEoff {s : State} (h : powerOk s) : Cleared (assertEoff s) := by
  have hfeeds : ∀ f ∈ s.feeds, isFeed (raise .part .emergency s) f := fun _ hf => (mem_feeds h.1).1 hf
  have hfix := Fixed.foldl fixed_emergencyFeed s.feeds (raise .part .emergency s)
  have hpow := (lowers_foldFeeds lowers_emergencyFeed (fun s f => (fixed_emergencyFeed s f).activeMap) s.feeds
    hfeeds).powerOk ((calm_raise .part .emergency s).lowers.powerOk h)
  obtain ⟨-, -, hqueue, -⟩ := hpow
  have hclear : Cleared (s.feeds.foldl emergencyFeed (raise .part .emergency s)) :=
    cleared_of_feeds hqueue fun f hf => by
      have hmem : f ∈ s.feeds := (mem_feeds h.1).2 ((isFeed_congr hfix.activeMap f).1 hf)
      exact offBound_emergencyFeeds s.feeds (mapsOk_fixed (fixed_raise _ _ s) h.1) hfeeds (.inl hmem)
  have hdrop : Cleared (dropClaim (s.feeds.foldl emergencyFeed (raise .part .emergency s))) :=
    hclear.congr rfl (sameStates_of_eq rfl rfl rfl).state id
  rw [assertEoff, pass_of_empty hdrop.queue]
  exact hdrop

end Sys2Proof.Machine
end


/-! # EOFF in force, and the waiting commands, at every step (O2, O55) -/

section
-- one theorem after the other: elaborated all at once, so many short proofs need too many threads
set_option Elab.async false
namespace Sys2Proof.Machine

open Sys2Proof.Safety

/-- EOFF is asserted by the line of its own or by an auxiliary line with its function (R192). -/
theorem eoff_iff {s : State} :
    s.eoff = true ↔
      s.eoffN.active = true ∨ ∃ k, (s.auxLine k).fn = .eoffIn ∧ (s.auxLine k).input.active = true := by
  simp [State.eoff, show ∀ k : AuxId, k ∈ allAux by decide]

theorem setInput_pending (l : LineId) (i : InputLine) (s : State) : (setInput l i s).pending = s.pending := by
  cases l <;> rfl

theorem sameStates_setInput (l : LineId) (i : InputLine) (s : State) : SameStates s (setInput l i s) := by
  cases l <;> exact sameStates_of_eq rfl rfl rfl

theorem setInput_queue (l : LineId) (i : InputLine) (s : State) : (setInput l i s).queue = s.queue := by
  cases l <;> rfl

/-- A line whose qualified level stays leaves EOFF as it is. -/
theorem setInput_eoff {l : LineId} {i : InputLine} {s : State} (hi : i.active = (s.inputLine l).active) :
    (setInput l i s).eoff = s.eoff := by
  rw [Bool.eq_iff_iff, eoff_iff, eoff_iff]
  cases l with
  | eoffN =>
    have hi' : i.active = s.eoffN.active := hi
    exact or_congr_left (by rw [← hi']; rfl)
  | baud => exact Iff.rfl
  | aux k =>
    refine or_congr_right (exists_congr fun j => ?_)
    have hline : (setInput (.aux k) i s).auxLine j = if j = k then { s.auxLine k with input := i } else s.auxLine j :=
      setAux_auxLine _ _ _ _
    rw [hline]
    split
    · next e => subst e; exact and_congr_right fun _ => by rw [hi]; rfl
    · exact Iff.rfl

/-- A line that begins a function is no active source (R198). -/
theorem startLine_eoff {k : AuxId} {fn : LineFn} {s : State}
    (h : (s.setAux k (startLine fn (s.auxLine k))).eoff = true) : s.eoff = true := by
  rw [eoff_iff] at h ⊢
  refine h.imp_right fun ⟨j, hfn, hact⟩ => ⟨j, ?_⟩
  rw [setAux_auxLine] at hfn hact
  split at hact
  · cases hact
  · next hj =>
    rw [if_neg hj] at hfn
    exact ⟨hfn, hact⟩

namespace Secures

variable {b s t : State}

/-! ## Lines -/

/-- A change of the lines that asserts no EOFF (R195, R196). -/
theorem sourcesChanged {u : State} (h : Secures b s) (hp : u.pending = s.pending) (hs : SameStates s u)
    (hq : u.queue = s.queue) (he : u.eoff = true → s.eoff = true) : Secures b (sourcesChanged s u) := by
  have hu : Secures b u := ⟨hp.trans h.pending, fun hb ht =>
    (h.secured hb (he ht)).congr hs.activeMap hs.state fun hsq => hq.trans hsq⟩
  refine ite_keeps (fun hc => ?_) (ite_keeps (fun hc => ?_) (ite_keeps (fun _ => hu.pass) hu))
  · obtain ⟨ht, hns⟩ := Bool.and_eq_true_iff.1 hc
    rw [he ht] at hns
    cases hns
  · exact hu.eoffFree ((fixed_releaseEoff u).trans (fixed_pass _)) (by simpa using (Bool.and_eq_true_iff.1 hc).2)

theorem reqSetLine {fr : Frame} (h : Secures b s) : Secures b (reqSetLine fr s).1 := by
  unfold Machine.reqSetLine
  split
  · split
    · exact ite_keeps (fun _ => h) (h.sourcesChanged rfl (sameStates_of_eq rfl rfl rfl) rfl startLine_eoff)
    · exact h
  · exact h

/-- A line whose qualified level stays. -/
theorem setInput {l : LineId} {i : InputLine} (h : Secures b s) (hi : i.active = (s.inputLine l).active) :
    Secures b (setInput l i s) :=
  h.states (sameStates_setInput l i s) (fun hq => (setInput_queue l i s).trans hq) (setInput_eoff hi)
    (setInput_pending l i s)

theorem lineChanged {l : LineId} {v : Level} (h : Secures b s) : Secures b (lineChanged l v s) :=
  ite_keeps (fun _ => h) <| ite_keeps (fun _ => h.setInput rfl) (h.setInput rfl)

theorem lineInReset {l : LineId} {v : Level} (h : Secures b s) : Secures b (lineInReset l v s) := h.setInput rfl

/-! ## The Request Handler and the Host Link -/

theorem reqRestart {f : Frame} (h : Secures b s) : Secures b (reqRestart f s).1 := by
  unfold Machine.reqRestart
  split
  · exact h.setLink
  · exact h

/-- The Request Handler (R144, R145). -/
theorem handle {f : Frame} (h : Secures b s) : Secures b (handle f s).1 :=
  withKind_keeps (keeps_of_state reqIdent_state)
    (withKind_keeps (keeps_of_state reqStatus_state) <| withKind_keeps (keeps_of_state reqReadOutlet_state) <|
      withKind_keeps (keeps_of_state reqReadGang_state) <|
      withKind_keeps (fun _ _ => reqReadMeter) <| withKind_keeps (keeps_of_state reqReadQueue_state) <|
      withKind_keeps (fun _ _ => reqPowerOn) <| withKind_keeps (fun _ _ => reqPowerOff) <|
      withKind_keeps (fun _ _ => reqClearFault) <| withKind_keeps (fun _ _ => reqSetProfile) <|
      withKind_keeps (fun _ _ => reqSetGangProfile) <| withKind_keeps (fun _ _ => reqSetSupply) <|
      withKind_keeps (fun _ _ => reqSetPolicy) <| withKind_keeps (fun _ _ => reqSetLine) <|
      withKind_keeps (fun _ _ => reqStageMap) <| withKind_keeps (fun _ _ => reqStageGang) <|
      withKind_keeps (fun _ _ => reqApplyMap) <| withKind_keeps (fun _ _ => reqDiscardMap) <|
      withKind_keeps (keeps_of_state reqReadMap_state) <| withKind_keeps (fun _ _ => reqFetchNotices) <|
      withKind_keeps (fun _ _ => reqRestart) fun _ _ h => h) f s h

theorem driveAux (h : Secures b s) : Secures b (driveAux s) :=
  h.states (sameStates_of_eq rfl rfl rfl) id (driveAux_eoff s)

theorem answerFrame {f : Frame} (h : Secures b s) : Secures b (answerFrame f s) := by
  unfold Machine.answerFrame
  split
  · exact ite_keeps (fun _ => h.setLink) h.handle.setLink.setLink
  · exact h.handle.setLink.setLink

theorem serve (h : Secures b s) : Secures b (serve s) := by
  unfold Machine.serve takeHead
  split
  · exact h
  · split
    · exact h
    · split
      · exact h.setLink
      · split
        · exact h.setLink.answerFrame
        · exact h

theorem rxEvent {c : Byte} {v : Bool} (h : Secures b s) : Secures b (rxEvent c v s) :=
  ite_keeps (fun _ => h.setLink.serve) h

theorem interByteEvent (h : Secures b s) : Secures b (interByteEvent s) :=
  ite_keeps (fun _ => ite_keeps (fun _ => h.setLink) h.setLink.serve) h

theorem restartRequest {seq : Byte} {payload : List Byte} (h : Secures b s) :
    Secures b (restartRequest seq payload s) :=
  ite_keeps (fun _ => ite_keeps (fun _ => h.reqRestart.setLink.setLink.driveAux) h.reqRestart.setLink.driveAux) h

/-- Every request command (R144). -/
theorem request {c : Instr} (h : Secures b s) (hc : (requestOf c).isSome = true) (e : exec c s = .next t) :
    Secures b t := by
  obtain ⟨⟨seq, kind, payload⟩, hc'⟩ := Option.isSome_iff_exists.1 hc
  cases hl : s.takesRequests with
  | false =>
    rw [exec_request_deaf hc hl] at e
    cases e
    exact h
  | true =>
    by_cases hk : kind = 0x50#8
    · subst hk
      rw [exec_restartKind hc'] at e
      cases e
      exact h.restartRequest
    · rw [exec_request hc' hk hl] at e
      cases e
      exact h.handle.setLink.driveAux

/-! ## Events and resets -/

/-- An event of the part (R199). -/
theorem event {act : State → State} (h : Secures b s) (ha : Secures b (act s)) : Secures b (event act s) :=
  ite_keeps (fun _ => h) ha.driveAux

/-- An event of an input pin, which is followed during a hard reset. -/
theorem pinEvent {act : State → State} {q : State} (h : Secures b s) (hq : Secures b q) (ha : Secures b (act s)) :
    Secures b (if s.inReset then q else Machine.event act s) := ite_keeps (fun _ => hq) (h.event ha)

/-- With no line active EOFF is not asserted. -/
theorem released {u : State} (h : Secures b s) (hp : u.pending = s.pending) (hn : u.eoffN.active = false)
    (ha : ∀ k, (u.auxLine k).input.active = false) : Secures b u :=
  ⟨hp.trans h.pending, fun _ hu => by
    rcases eoff_iff.1 hu with hc | ⟨k, -, hc⟩
    · rw [hn] at hc; cases hc
    · rw [ha k] at hc; cases hc⟩

theorem enterReset (h : Secures b s) : Secures b (enterReset s) := by
  refine h.released rfl rfl fun k => ?_
  have hline : (Machine.enterReset s).auxLine k = resetAux (s.auxLine k) := blocksReset_auxLine s k
  rw [hline]
  rfl

theorem finishReset {v : Level} (h : Secures b s) : Secures b (finishReset v s) := by
  obtain ⟨-, -, -, -, -, -, -, -, -, -, -, -, -, -, -, -, -, -, -, -, hn, ha, -, hp⟩ := afterReset_finishReset v s
  exact h.released hp (by rw [hn]) fun k => by rw [ha]

theorem setResetBy {r : ResetRec} (h : Secures b s) : Secures b { s with resetBy := r } :=
  h.states (sameStates_of_eq rfl rfl rfl) id

theorem resetEnds {c : ResetCause} {v : Level} (h : Secures b s) : Secures b (resetEnds c v s) :=
  ite_keeps (fun _ => ite_keeps (fun _ => h.setResetBy) h.setResetBy.finishReset) h

theorem answerTransmitted (h : Secures b s) (e : exec .answerTransmitted s = .next t) : Secures b t := by
  cases e
  exact ite_keeps (fun _ => h) (ite_keeps (fun _ => h.finishReset) h.setLink.serve.driveAux)

/-- Every command but the expiry of a line's filter, which can assert EOFF (R192). -/
theorem exec {c : Instr} (h : Secures b s) (hc : ∀ l, c ≠ .lineFilterExpiry l) (e : exec c s = .next t) :
    Secures b t := by
  cases c with
  | ident | status | readOutlet | readGang | readMeter | readQueue | powerOn | powerOff | powerOffAll | clearFault
  | setProfile | setGangProfile | setSupply | setPolicy | setLine | stageMap | stageGang | applyMap | discardMap
  | readMap | fetchNotices | restart | unknownKind => exact h.request rfl e
  | rxByte b v => cases e; exact h.event h.rxEvent
  | interByteTimeout => cases e; exact h.event h.interByteEvent
  | answerTransmitted => exact h.answerTransmitted e
  | vddPowerOn => cases e; exact h.setResetBy.enterReset
  | resetNLow => cases e; exact h.setResetBy.enterReset
  | resetEnd c v => cases e; exact h.resetEnds
  | supgoodInactive k => cases e; exact h.pinEvent h.updSupply h.supgoodLost
  | supgoodActive k => cases e; exact h.pinEvent h.updSupply h.supgoodFound
  | restorationTimerExpiry k => cases e; exact h.event h.supplyRestored
  | agingStep f => cases e; exact h.event h.ageEntry
  | meterScan p v i => cases e; exact h.event h.scan
  | dischargeTimeout p => cases e; exact h.event h.dischargeExpired
  | memberDischargeTimeout p => cases e; exact h.event h.memberDischargeExpired
  | rampExpiry p => cases e; exact h.event h.rampExpired
  | memberRampExpiry p => cases e; exact h.event h.memberRampExpired
  | blankingExpiry p => cases e; exact h.event h.blankingExpired
  | stabilityExpiry p => cases e; exact h.event (ite_keeps (fun _ => h.stabilityExpired) h)
  | gangStabilityExpiry g => cases e; exact h.event (ite_keeps (fun _ => h.stabilityExpired) h)
  | backoffExpiry p =>
    cases e
    exact h.event (ite_keeps (fun hf : s.feedOf p = some (.solo p) => h.backoffExpired hf) h)
  | gangBackoffExpiry g =>
    cases e
    exact h.event (ite_keeps (fun hf : (s.membersOf g).isSome = true => h.backoffExpired (f := .gang g) hf) h)
  | presLevelChange p a => cases e; exact h.pinEvent h.updOutlet h.presChanged
  | presenceDebounceExpiry p => cases e; exact h.event h.debounced
  | overcurrentBegin p => cases e; exact h.pinEvent h.updOutlet h.overcurrentBegins
  | overcurrentEnd p => cases e; exact h.pinEvent h.updOutlet h.updOutlet
  | qualifiedPulse p => cases e; exact h.event h.widthReached
  | pairWindowExpiry p => cases e; exact h.event h.updOutlet
  | shortNActive p a => cases e; exact h.pinEvent h.updOutlet h.shortChanged
  | overdrawWindowExpiry p => cases e; exact h.event h.overdrawExpired
  | lineLevelChange l v => cases e; exact h.pinEvent h.lineInReset h.lineChanged
  | lineFilterExpiry l => exact absurd rfl (hc l)

end Secures

/-! ## The expiry of a line's filter -/

theorem fixed_sourcesChanged (s u : State) : Fixed u (sourcesChanged s u) := by
  have hrelease := (fixed_releaseEoff u).trans (fixed_pass _)
  exact ite_keeps (P := Fixed u) (fun _ => fixed_assertEoff u) <| ite_keeps (fun _ => hrelease) <|
    ite_keeps (fun _ => fixed_pass u) (Fixed.refl u)

theorem lineQualified_pending (l : LineId) (s : State) : (lineQualified l s).pending = s.pending :=
  ite_keeps (P := fun t => t.pending = s.pending)
    (fun _ => (fixed_sourcesChanged s _).pending.trans (setInput_pending l _ s)) rfl

/-- A change of a line either asserts EOFF, which takes every feed off, or asserts none (R192, R193). -/
theorem cleared_sourcesChanged (l : LineId) (i : InputLine) {s : State} (hp : powerOk s)
    (hs : s.eoff = true → Cleared s) :
    (sourcesChanged s (setInput l i s)).eoff = true → Cleared (sourcesChanged s (setInput l i s)) := by
  cases hc : (setInput l i s).eoff && !s.eoff with
  | true =>
    rw [sourcesChanged, if_pos hc]
    exact fun _ => cleared_assertEoff ((calm_setInput l i s).powerOk hp)
  | false =>
    refine ((Secures.refl s).sourcesChanged (setInput_pending l i s) (sameStates_setInput l i s)
      (setInput_queue l i s) fun he => ?_).secured hs
    simpa [he] using hc

theorem cleared_lineQualified {l : LineId} {s : State} (hp : powerOk s) (hs : s.eoff = true → Cleared s) :
    (lineQualified l s).eoff = true → Cleared (lineQualified l s) :=
  ite_keeps (P := fun t => t.eoff = true → Cleared t) (fun _ => cleared_sourcesChanged l _ hp hs) hs

/-! ## Every command -/

/-- A command leaves the waiting commands alone. -/
theorem exec_pending {c : Instr} {s t : State} (e : exec c s = .next t) : t.pending = s.pending := by
  by_cases hc : ∀ l, c ≠ .lineFilterExpiry l
  · exact ((Secures.refl s).exec hc e).pending
  · obtain ⟨l, rfl⟩ : ∃ l, c = .lineFilterExpiry l := by simpa using hc
    cases e
    exact ite_keeps (P := fun t => t.pending = s.pending) (fun _ => rfl) (lineQualified_pending l s)

/-- A command leaves the part in emergency off while EOFF is asserted. -/
theorem exec_cleared {c : Instr} {s t : State} (hp : powerOk s) (hs : s.eoff = true → Cleared s)
    (e : exec c s = .next t) : t.eoff = true → Cleared t := by
  by_cases hc : ∀ l, c ≠ .lineFilterExpiry l
  · exact ((Secures.refl s).exec hc e).secured hs
  · obtain ⟨l, rfl⟩ : ∃ l, c = .lineFilterExpiry l := by simpa using hc
    cases e
    refine ite_keeps (P := fun t => t.eoff = true → Cleared t) (fun _ => hs) fun ht => ?_
    rw [driveAux_eoff] at ht
    exact (cleared_lineQualified hp hs ht).congr rfl (sameStates_of_eq rfl rfl rfl).state id

/-- Settles O2: every command answers a next state, and no effect writes the waiting commands. -/
theorem everyCommandCompletes : Obligations.EveryCommandCompletes := by
  intro c s
  obtain ⟨t, e⟩ : ∃ t, exec c s = .next t := by cases c <;> exact ⟨_, rfl⟩
  exact ⟨t, e, exec_pending e⟩

/-- Settles O55: under the budget law a part in which every feed is off has an empty queue too, which is what every
command keeps while EOFF is asserted and the assertion brings about. -/
theorem stepsKeepEoffInForce : Obligations.StepsKeepEoffInForce := by
  intro s t hp hs e ht
  have hqueue : queueOk s := by
    obtain ⟨-, -, hqueue, -⟩ := hp
    exact hqueue
  have hclear : s.eoff = true → Cleared s := fun he => cleared_of_feeds hqueue (hs he)
  unfold step at e
  split at e
  · cases e
    exact hs ht
  · next c rest _ =>
    have hrest : State.eoff { s with pending := rest } = true → Cleared { s with pending := rest } := fun he =>
      ⟨(hclear he).queue, (hclear he).feeds⟩
    exact (exec_cleared (s := { s with pending := rest }) hp hrest e ht).feeds

end Sys2Proof.Machine
end


/-! # The EOFF assertion (O53) -/

section
-- one theorem after the other: elaborated all at once, so many short proofs need too many threads
set_option Elab.async false
namespace Sys2Proof.Machine

open Sys2Proof.Safety

/-- What the EOFF assertion does to one feed, with its pending POWER_ON (R193). -/
theorem offAmong_emergencyFeed {s : State} {f : Feed} (hm : mapsOk s) (hf : isFeed s f) (hp : PairedAt s f) :
    OffAmong .emergency .emergency [f] s (emergencyFeed s f) := by
  rcases emergencyFeed_move hm hf with ⟨hoff, e⟩ | ⟨t, m, e⟩
  · rw [e]
    exact offAmong_refl hf hp hoff
  · rw [e]
    exact m.completeOp hf hp

/-- The EOFF assertion feed after feed. -/
theorem offAmong_emergencyFeeds (l : List Feed) (hnd : l.Nodup) {s : State} (hm : mapsOk s)
    (hl : ∀ f ∈ l, isFeed s f ∧ PairedAt s f) : OffAmong .emergency .emergency l s (l.foldl emergencyFeed s) := by
  induction l generalizing s with
  | nil => exact offAmong_nil .emergency .emergency s
  | cons f l ih =>
    obtain ⟨hfl, hnd⟩ := List.nodup_cons.1 hnd
    obtain ⟨hf, hp⟩ := hl f List.mem_cons_self
    have hl' := fun g hg => hl g (List.mem_cons_of_mem f hg)
    have a := offAmong_emergencyFeed hm hf hp
    refine a.cons (ih hnd (mapsOk_fixed (fixed_emergencyFeed s f) hm) fun g hg => ?_) hfl hl'
    obtain ⟨hg', hpg⟩ := hl' g hg
    exact ⟨(fixed_emergencyFeed s f).isFeed hg', a.pairedAt_other hg' (fun e => hfl (List.mem_singleton.1 e ▸ hg)) hpg⟩

/-- The assertion: EMERGENCY on the part, then every feed turned off in the order of the feeds (R193). -/
theorem assertEoff_turnsOff {s : State} (hp : powerOk s) (hs : slotsOk s) :
    allOff .emergency .emergency s (assertEoff s) ∧
      (assertEoff s).notices =
        (raised ((Subject.part, NoticeFlag.emergency) :: s.feeds.flatMap (offNotices s)) s).notices ∧
      (assertEoff s).alertN =
        (raised ((Subject.part, NoticeFlag.emergency) :: s.feeds.flatMap (offNotices s)) s).alertN := by
  have hm : mapsOk (raise .part .emergency s) := mapsOk_fixed (fixed_raise _ _ s) hp.1
  have hs' : slotsOk (raise .part .emergency s) := hs
  have hfeeds : ∀ f ∈ s.feeds, isFeed (raise .part .emergency s) f := fun _ hf => (mem_feeds hp.1).1 hf
  have hpow := (lowers_foldFeeds lowers_emergencyFeed (fun s f => (fixed_emergencyFeed s f).activeMap) s.feeds
    hfeeds).powerOk ((calm_raise .part .emergency s).lowers.powerOk hp)
  have a := offAmong_emergencyFeeds s.feeds (feeds_nodup s) hm fun f hf =>
    ⟨hfeeds f hf, pairedAt_of_slotsOk hs' (hfeeds f hf)⟩
  obtain ⟨hq, hc, -⟩ := a.vacated hm hpow
  have ht : assertEoff s = s.feeds.foldl emergencyFeed (raise .part .emergency s) := by
    have hdrop : dropClaim (s.feeds.foldl emergencyFeed (raise .part .emergency s)) =
        s.feeds.foldl emergencyFeed (raise .part .emergency s) := by rw [dropClaim, ← hc]
    rw [assertEoff, hdrop, pass_of_empty hq]
  rw [ht]
  have hall : allOff .emergency .emergency (raise .part .emergency s) _ := OffAmong.allOff a hm hs' hpow
  exact ⟨hall, a.notices, a.alertN⟩

/-! ## The expiry of a line's filter -/

/-- The qualified level takes the input level (R192). -/
theorem exec_lineFilterExpiry {l : LineId} {s : State} (hs : s.inReset = false)
    (hf : (s.inputLine l).filter.isSome = true) (hsrc : s.isSource l = true) :
    exec (.lineFilterExpiry l) s = .next (driveAux (sourcesChanged s
      (setInput l { s.inputLine l with active := decide ((s.inputLine l).level = .low), filter := none } s))) := by
  show Host.Outcome.next (event (lineQualified l) s) = _
  rw [event_live _ hs, lineQualified, hf, hsrc]
  rfl

theorem slotsOk_setInput (l : LineId) (i : InputLine) {s : State} (h : slotsOk s) : slotsOk (setInput l i s) := by
  cases l <;> exact h

/-- A line with the function of EOFF that becomes active asserts it (R192). -/
theorem setInput_asserts {l : LineId} {s : State} (hl : l = .eoffN ∨ ∃ k, l = .aux k ∧ (s.auxLine k).fn = .eoffIn)
    {i : InputLine} (hi : i.active = true) : (setInput l i s).eoff = true := by
  rw [eoff_iff]
  rcases hl with rfl | ⟨k, rfl, hfn⟩
  · exact .inl hi
  · refine .inr ⟨k, ?_⟩
    have hline : (setInput (.aux k) i s).auxLine k = { s.auxLine k with input := i } := setAux_auxLine_same _ _ _
    rw [hline]
    exact ⟨hfn, hi⟩

/-- Settles O53: the line becomes active with no source active before it, and the assertion turns the feeds off in the
order of `feeds`. -/
theorem eoffAssertionHoldsEverythingOff : Obligations.EoffAssertionHoldsEverythingOff := by
  intro l s hlive hp hs hl hf hlow heoff u
  have hsrc : s.isSource l = true := by
    rcases hl with rfl | ⟨k, rfl, hfn⟩
    · rfl
    · simp [State.isSource, hfn, LineFn.qualified]
  have hu : powerOk u := (calm_setInput l _ s).powerOk hp
  obtain ⟨hoff, hnot, halert⟩ := assertEoff_turnsOff hu (slotsOk_setInput l _ hs)
  refine ⟨assertEoff u, u.feeds, ?_, feedsInOrder_feeds hu.1, hoff, hnot, halert⟩
  rw [exec_lineFilterExpiry hlive hf hsrc, hlow]
  show Host.Outcome.next (driveAux (sourcesChanged s u)) = _
  rw [sourcesChanged, if_pos (by rw [setInput_asserts hl rfl, heoff]; rfl)]

end Sys2Proof.Machine
end


/-! # Steps and hard resets (O1, O4, O42) -/

section
-- one theorem after the other: elaborated all at once, so many short proofs need too many threads
set_option Elab.async false
namespace Sys2Proof.Machine

open Sys2Proof.Safety

/-- Settles O1: by the two cases of the queue. -/
theorem stepTakesFrontCommand : Obligations.StepTakesFrontCommand :=
  ⟨fun _ _ _ => rfl, fun s h => by rw [step, h]⟩

/-! ## During a hard reset (R199) -/

/-- An event of the part has no effect. -/
theorem exec_event_reset {c : Instr} {s : State} {act : State → State} (hc : exec c s = .next (event act s))
    (hs : s.inReset = true) : exec c s = .next s := by rw [hc, event_reset act hs]

/-- Of a pin's event its level is followed, in its own way. -/
theorem exec_pin_reset {c : Instr} {s q : State} {act : State → State}
    (hc : exec c s = .next (if s.inReset then q else event act s)) (hs : s.inReset = true) : exec c s = .next q := by
  rw [hc, if_pos hs]

theorem exec_ignored {c : Instr} {s : State} (hs : s.inReset = true) (hc : actsInReset c = false) :
    exec c s = .next s := by
  have hdeaf : s.takesRequests = false := by simp [State.takesRequests, hs]
  cases c with
  | ident | status | readOutlet | readGang | readMeter | readQueue | powerOn | powerOff | powerOffAll | clearFault
  | setProfile | setGangProfile | setSupply | setPolicy | setLine | stageMap | stageGang | applyMap | discardMap
  | readMap | fetchNotices | restart | unknownKind => exact exec_request_deaf rfl hdeaf
  | answerTransmitted => exact congrArg Host.Outcome.next (if_pos (by rw [hs]; rfl))
  | rxByte | interByteTimeout | restorationTimerExpiry | agingStep | meterScan | dischargeTimeout
  | memberDischargeTimeout | rampExpiry | memberRampExpiry | blankingExpiry | stabilityExpiry | gangStabilityExpiry
  | backoffExpiry | gangBackoffExpiry | presenceDebounceExpiry | qualifiedPulse | pairWindowExpiry
  | overdrawWindowExpiry | lineFilterExpiry => exact exec_event_reset rfl hs
  | vddPowerOn | resetNLow | resetEnd | supgoodInactive | supgoodActive | presLevelChange | overcurrentBegin
  | overcurrentEnd | shortNActive | lineLevelChange => cases hc

/-- Settles O4: a request finds the part deaf, an event of the part is not taken, and an input pin's level is all that
its event writes. -/
theorem resetIgnoresCommands : Obligations.ResetIgnoresCommands :=
  ⟨fun _ _ hs hc => exec_ignored hs hc,
    fun _ _ _ hs => ⟨exec_pin_reset rfl hs, exec_pin_reset rfl hs, exec_pin_reset rfl hs, exec_pin_reset rfl hs⟩,
    fun _ _ hs => ⟨exec_pin_reset rfl hs, exec_pin_reset rfl hs⟩, fun _ _ _ hs => exec_pin_reset rfl hs⟩

/-! ## The beginning and the end of a hard reset (R199) -/

/-- The beginning of a hard reset keeps the levels of the input pins, the causes and the waiting commands. -/
theorem enterReset_keepsPins (s : State) :
    (enterReset s).resetBy = s.resetBy ∧ (enterReset s).pending = s.pending ∧
    (∀ p, ((enterReset s).outlet p).pres = (s.outlet p).pres ∧ ((enterReset s).outlet p).shortN = (s.outlet p).shortN ∧
      ((enterReset s).outlet p).overcurrent = (s.outlet p).overcurrent) ∧
    (∀ k, ((enterReset s).supply k).line = (s.supply k).line) ∧ (enterReset s).eoffN.level = s.eoffN.level ∧
    (enterReset s).link.baud = s.link.baud ∧
    ∀ k, ((enterReset s).auxLine k).input.level = (s.auxLine k).input.level := by
  refine ⟨rfl, rfl, fun p => ?_, fun k => ?_, rfl, rfl, fun k => ?_⟩
  · rw [show (enterReset s).outlet p = resetOutlet (s.outlet p) from blocksReset_outlet s p]
    exact ⟨rfl, rfl, rfl⟩
  · rw [show (enterReset s).supply k = resetSupply (s.supply k) from blocksReset_supply s k]
    rfl
  · rw [show (enterReset s).auxLine k = resetAux (s.auxLine k) from blocksReset_auxLine s k]
    rfl

theorem resetQuiet_enterReset {s : State} (hs : s.inReset = true) : resetQuiet (enterReset s) := by
  obtain ⟨-, -, hquiet⟩ := outputsOk_enterReset hs
  exact hquiet

/-- The last cause ends (R199). -/
theorem resetEnds_last {c : ResetCause} {baud : Level} {s : State} (hc : s.resetBy.holds c = true)
    (hlast : s.resetBy.without c = { vdd := false, pin := false }) :
    afterReset s (resetEnds c baud s) baud := by
  have hend : resetEnds c baud s = finishReset baud { s with resetBy := { vdd := false, pin := false } } := by
    rw [resetEnds, if_pos hc, hlast]
    exact if_neg Bool.false_ne_true
  rw [hend]
  exact afterReset_finishReset baud { s with resetBy := { vdd := false, pin := false } }

/-- Settles O42: power-on and RESET_N begin the reset with their cause, and the end of the last cause finishes it. -/
theorem hardResetTakesAndEnds : Obligations.HardResetTakesAndEnds := by
  refine ⟨fun s => ⟨_, rfl, ?_⟩, fun s => ⟨_, rfl, ?_⟩, fun s baud hr => ⟨_, rfl, ?_⟩, fun s baud hr => ⟨_, rfl, ?_⟩,
    fun s baud hr => ?_⟩
  · have hs : State.inReset { s with resetBy := { s.resetBy with vdd := true } } = true := rfl
    obtain ⟨hby, hrest⟩ := enterReset_keepsPins { s with resetBy := { s.resetBy with vdd := true } }
    exact ⟨hby, resetQuiet_enterReset hs, hs, hrest⟩
  · have hs : State.inReset { s with resetBy := { s.resetBy with pin := true } } = true := Bool.or_true _
    obtain ⟨hby, hrest⟩ := enterReset_keepsPins { s with resetBy := { s.resetBy with pin := true } }
    exact ⟨hby, resetQuiet_enterReset hs, hs, hrest⟩
  · exact resetEnds_last (by rw [hr]; rfl) (by rw [hr]; rfl)
  · exact resetEnds_last (by rw [hr]; rfl) (by rw [hr]; rfl)
  · have hend (c : ResetCause) : exec (.resetEnd c baud) s = .next (resetEnds c baud s) := rfl
    simp [hend, resetEnds, hr, ResetRec.holds, ResetRec.without, State.inReset]

end Sys2Proof.Machine
end


/-! # The input lines and SET_LINE (O33, O52) -/

section
-- one theorem after the other: elaborated all at once, so many short proofs need too many threads
set_option Elab.async false
namespace Sys2Proof.Machine

open Sys2Proof.Safety

/-! ## The EOFF release (R195) -/

/-- The release on one outlet, its condition read in the state before the release. -/
def releaseAsIn (s t : State) (p : OutletId) : State :=
  if s.feedOf p = some (.solo p) ∧ (s.outlet p).profile.startMode = .onPresence ∧ (s.outlet p).own.state = .off ∧
      (s.outlet p).presence = true then raise (.outlet p) .state (enterQueued (.solo p) .presence t)
  else t

theorem releaseOutlet_eq {s t : State} {p : OutletId} (hf : t.feedOf p = s.feedOf p) (ho : t.outlet p = s.outlet p) :
    releaseOutlet t p = releaseAsIn s t p := by
  rw [releaseOutlet, releaseAsIn, hf, ho]

theorem releaseAsIn_feedOf (s t : State) (p q : OutletId) : (releaseAsIn s t p).feedOf q = t.feedOf q := by
  unfold releaseAsIn
  split
  · exact ((fixed_enterQueued _ _ t).trans (fixed_raise _ _ _)).feedOf q
  · rfl

/-- The release on one outlet leaves the others alone. -/
theorem releaseAsIn_outlet (s t : State) {p q : OutletId} (h : q ≠ p) : (releaseAsIn s t p).outlet q = t.outlet q := by
  have hne : ¬ Feed.solo p = .solo q := fun e => h (Feed.solo.inj e).symm
  unfold releaseAsIn
  split
  · have hrec : (raise (.outlet p) .state (enterQueued (.solo p) .presence t)).outlet q =
        (updFeed (.solo p) (fun r => { r with state := .queued, backoff := none }) t).outlet q := rfl
    rw [hrec, updFeed_outlet, if_neg hne]
  · rfl

/-- Outlet after outlet the release finds what stood before it. -/
theorem releaseOutlets_eq {s : State} (l : List OutletId) (hnd : l.Nodup) {t : State}
    (hf : ∀ p, t.feedOf p = s.feedOf p) (ho : ∀ p ∈ l, t.outlet p = s.outlet p) :
    l.foldl releaseOutlet t = l.foldl (releaseAsIn s) t := by
  induction l generalizing t with
  | nil => rfl
  | cons p l ih =>
    obtain ⟨hp, hnd⟩ := List.nodup_cons.1 hnd
    rw [List.foldl_cons, List.foldl_cons, releaseOutlet_eq (hf p) (ho p List.mem_cons_self)]
    refine ih hnd (fun q => (releaseAsIn_feedOf s t p q).trans (hf q)) fun q hq => ?_
    rw [releaseAsIn_outlet s t fun e : q = p => hp (e ▸ hq)]
    exact ho q (List.mem_cons_of_mem p hq)

theorem releaseEoff_setInput (l : LineId) (i : InputLine) (s : State) :
    releaseEoff (setInput l i s) = allOutlets.foldl (releaseAsIn s) (raise .part .emergency (setInput l i s)) := by
  refine releaseOutlets_eq allOutlets (by decide) (fun p => ?_) fun p _ => ?_
  · exact feedOf_congr (sameStates_setInput l i s).activeMap p
  · cases l <;> rfl

/-! ## What follows a change of the sources (R192, R195, R196) -/

section
variable {s u : State}

theorem sourcesChanged_eoffReleased (hs : s.eoff = true) (hu : u.eoff = false) :
    sourcesChanged s u = pass (releaseEoff u) := by simp [sourcesChanged, hs, hu]

theorem sourcesChanged_holdReleased (he : s.eoff = u.eoff) (hs : s.hold = true) (hu : u.hold = false) :
    sourcesChanged s u = pass u := by simp [sourcesChanged, he, hs, hu]

theorem sourcesChanged_none (he : s.eoff = u.eoff) (hh : s.hold = false ∨ u.hold = true) :
    sourcesChanged s u = u := by rcases hh with hh | hh <;> simp [sourcesChanged, he, hh]

/-- A change of the sources that asserts no EOFF. -/
theorem sourcesChanged_quiet (h : u.eoff = true → s.eoff = true) :
    sourcesChanged s u =
      if s.eoff = true ∧ u.eoff = false then pass (releaseEoff u)
      else if s.hold = true ∧ u.hold = false then pass u
      else u := by
  have hno : (u.eoff && !s.eoff) = false := by
    cases hu : u.eoff with
    | false => rfl
    | true => rw [h hu]; rfl
  simp [sourcesChanged, hno]

end

/-- Settles O52: the three ends of a filter by what they do to the sources; the release reads each outlet before it
reaches it. -/
theorem linesAreFilteredAndRelease : Obligations.LinesAreFilteredAndRelease := by
  refine ⟨fun l level s hlive hlevel => ?_, ?_⟩
  · have hexec : exec (.lineLevelChange l level) s = .next (driveAux (lineChanged l level s)) := by
      rw [← event_live (lineChanged l level) hlive]
      exact congrArg Host.Outcome.next (if_neg (Bool.eq_false_iff.1 hlive))
    rw [hexec, lineChanged, if_neg hlevel]
    exact ⟨fun hsrc => by rw [if_pos hsrc]; rfl, fun hsrc => by rw [if_neg (Bool.eq_false_iff.1 hsrc)]⟩
  · intro l s hlive hsrc hf u back
    rw [exec_lineFilterExpiry hlive hf hsrc]
    refine ⟨fun hs hu => ?_, fun he hs hu => ?_, fun he hh => ?_⟩
    · rw [sourcesChanged_eoffReleased hs hu, releaseEoff_setInput]
      rfl
    · rw [sourcesChanged_holdReleased he hs hu]
    · rw [sourcesChanged_none he hh]

/-! ## SET_LINE (R198) -/

theorem readLine_byte (k : AuxId) : readLine (byte k.val) = some k := by
  revert k
  decide

/-- The codes of a function are read back as the function (R198, appendix A.4). -/
theorem readLineFn_codes (fn : LineFn) : readLineFn (codeLineFn fn) (codeLineOutlet fn) = some fn := by
  cases fn with
  | outletOn p =>
    show (readPhysical (byte (p.val + 1))).map LineFn.outletOn = _
    rw [readPhysical_byte]
    rfl
  | none | eoffIn | holdIn | alertCopy | anyLatched | shortfall => rfl

/-- The inputs among the functions are EOFF_IN and HOLD_IN (R196). -/
theorem qualified_eq (fn : LineFn) : fn.qualified = decide (fn = .eoffIn ∨ fn = .holdIn) := by
  cases fn <;> simp [LineFn.qualified]

/-- A new function begins unqualified, its filter running if it is an input and the line is low (R198). -/
theorem startLine_eq (fn : LineFn) (old : AuxLine) :
    startLine fn old =
      { fn := fn
        input := { level := old.input.level, active := false
                   filter := if decide (fn = .eoffIn ∨ fn = .holdIn) = true ∧ old.input.level = .low then some 1
                     else none }
        out := none } := by
  simp [startLine, qualified_eq, Config.filterMs]

/-- The function bytes that are read (R198). -/
theorem readLineFn_some {b o : Byte} {fn : LineFn} (h : readLineFn b o = some fn) :
    (b.toNat = 6 ∧ 1 ≤ o.toNat ∧ o.toNat ≤ 12) ∨ (b.toNat ≤ 5 ∧ o.toNat = 0) := by
  unfold readLineFn at h
  by_cases h6 : b = 6#8
  · rw [if_pos h6] at h
    refine .inl ⟨by rw [h6]; rfl, ?_⟩
    by_contra ho
    rw [readPhysical_none.2 ho] at h
    cases h
  · rw [if_neg h6] at h
    by_cases ho : o = 0#8
    · rw [if_pos ho] at h
      refine .inr ⟨?_, by rw [ho]; rfl⟩
      by_contra hb
      have hne (n : Nat) (hn : n ≤ 5) : b ≠ BitVec.ofNat 8 n := fun e => by
        rw [e, BitVec.toNat_ofNat] at hb
        omega
      rw [if_neg (hne 0 (by decide)), if_neg (hne 1 (by decide)), if_neg (hne 2 (by decide)),
        if_neg (hne 3 (by decide)), if_neg (hne 4 (by decide)), if_neg (hne 5 (by decide))] at h
      cases h
    · rw [if_neg ho] at h
      cases h

/-- A SET_LINE command that is taken. -/
theorem exec_setLine {s : State} (seq : Byte) (payload : List Byte) (h : s.takesRequests = true) :
    exec (.setLine seq payload) s =
      .next (answered seq 0x24#8 payload (reqSetLine (mkFrame seq 0x24#8 payload) s).2
        (reqSetLine (mkFrame seq 0x24#8 payload) s).1) :=
  congrArg Host.Outcome.next (asRequest_live _ _ seq payload h)

/-- Settles O33: the codes name the line and the function, and the line that begins a function is no active source, so
that the change asserts no EOFF. -/
theorem setLineChangesTheFunction : Obligations.SetLineChangesTheFunction := by
  refine ⟨?_, fun seq line fn outlet s hlive hbad => ?_⟩
  · intro seq k fn s hlive payload old isInput u t lines
    have hu : s.setAux k (startLine fn (s.auxLine k)) = u := by
      rw [startLine_eq]
    have hchange : changeLine k fn s = t := by
      rw [changeLine, hu, sourcesChanged_quiet (hu ▸ startLine_eoff)]
    have hreq : reqSetLine (mkFrame seq 0x24#8 payload) s =
        (t, done [byte k.val, codeLineFn fn, codeLineOutlet fn, lines]) := by
      have hread : reqSetLine (mkFrame seq 0x24#8 payload) s = (changeLine k fn s,
          done [byte k.val, codeLineFn fn, codeLineOutlet fn, (changeLine k fn s).lineStates]) := by
        simp [reqSetLine, mkFrame, payload, readLine_byte, readLineFn_codes]
      rw [hread, hchange, lineStates_eq]
    rw [exec_setLine seq payload hlive, hreq]
    rfl
  · have hreq : reqSetLine (mkFrame seq 0x24#8 [line, fn, outlet]) s = refuse s .badValue := by
      unfold reqSetLine
      dsimp only [mkFrame]
      split
      · next k f hk hf =>
        have hline : line.toNat ≤ 3 := by
          by_contra hno
          rw [readLine, if_neg hno] at hk
          cases hk
        have hrange := readLineFn_some hf
        omega
      · rfl
    rw [exec_setLine seq _ hlive, hreq]
    rfl

end Sys2Proof.Machine
end


/-! # The lengths of the replies (O6) -/

section
-- one theorem after the other: elaborated all at once, so many short proofs need too many threads
set_option Elab.async false
namespace Sys2Proof.Machine

open Sys2Proof.Safety

/-- A reply that begins with its status, fits a frame, and names a refusal's reason with one of three details (R179,
R203). -/
inductive FitsReply : List Byte → Prop
  | done {content : List Byte} (h : content.length ≤ 47) : FitsReply (done content)
  | accepted {content : List Byte} (h : content.length ≤ 47) : FitsReply (accepted content)
  | refused {r : Reason} {detail : List Byte} (h : detail.length = 0 ∨ detail.length = 1 ∨ detail.length = 3) :
    FitsReply (refusedWith r detail)

namespace FitsReply

theorem refuse (s : State) (r : Reason) : FitsReply (refuse s r).2 := .refused (.inl rfl)

/-- The first byte is the status. -/
theorem status {l : List Byte} (h : FitsReply l) :
    l.head? = some 0x00#8 ∨ l.head? = some 0x01#8 ∨ l.head? = some 0x02#8 := by
  cases h with
  | done => exact .inl rfl
  | accepted => exact .inr (.inl rfl)
  | refused => exact .inr (.inr rfl)

theorem length_le {l : List Byte} (h : FitsReply l) : l.length ≤ 48 := by
  cases h with
  | done h => exact Nat.succ_le_succ h
  | accepted h => exact Nat.succ_le_succ h
  | @refused r detail h =>
    show detail.length + 2 ≤ 48
    omega

theorem length_of_refused {l : List Byte} (h : FitsReply l) (hr : l.head? = some 0x02#8) :
    l.length = 2 ∨ l.length = 3 ∨ l.length = 5 := by
  cases h with
  | done => cases hr
  | accepted => cases hr
  | @refused r detail h =>
    show detail.length + 2 = 2 ∨ detail.length + 2 = 3 ∨ detail.length + 2 = 5
    omega

end FitsReply

/-! ## The records (appendix A.6) -/

theorem length_be16 (n : Nat) : (be16 n).length = 2 := rfl

theorem length_claimBytes (s : State) : s.claimBytes.length = 3 := by
  unfold State.claimBytes
  split <;> rfl

theorem length_statusRecord (s : State) : s.statusRecord.length = 25 := by
  simp [State.statusRecord, length_be16, length_claimBytes]

theorem length_outletRecord (s : State) (p : OutletId) : (s.outletRecord p).length = 35 := rfl

/-- A list of at most four members fills its four places (appendix A.6). -/
theorem length_memberBytes {ms : Option (List OutletId)} (h : ∀ l ∈ ms, l.length ≤ 4) :
    (memberBytes ms).length = 5 := by
  have hle : (ms.getD []).length ≤ 4 := by
    cases ms with
    | none => decide
    | some l => exact h l rfl
  simp only [memberBytes, List.length_cons, List.length_append, List.length_map, List.length_replicate]
  omega

theorem length_gangRecord {s : State} {g : GangId} (h : ∀ l ∈ s.membersOf g, l.length ≤ 4) :
    (s.gangRecord g).length = 18 := by
  simp [State.gangRecord, length_memberBytes h, length_be16]

theorem length_meterRecord (p : OutletId) (o : OutletRec) : (meterRecord p o).length = 10 := by
  unfold meterRecord
  cases o.latest <;> rfl

theorem length_mapBytes {m : MapRec} (h : ∀ g, ∀ l ∈ tget m.gangs g, l.length ≤ 4) : m.bytes.length = 32 := by
  have hg (g : GangId) : (memberBytes (tget m.gangs g)).length = 5 := length_memberBytes (h g)
  simp [MapRec.bytes, allOutlets, allGangs, hg]

/-- A page lists at most seven entries of five bytes (R65). -/
theorem length_entryPage (s : State) (n : Nat) : ((s.queuePage n).flatMap s.entryBytes).length ≤ 35 := by
  have hpage : (s.queuePage n).length ≤ 7 := List.length_take_le _ _
  have hentry (e : Entry) : (s.entryBytes e).length = 5 := rfl
  rw [List.length_flatMap, List.map_congr_left fun e _ => hentry e, List.map_const', List.sum_replicate]
  simp only [smul_eq_mul]
  omega

theorem length_snapshotBytes (sn : Snapshot) : sn.bytes.length = 5 := by
  cases sn <;> rfl

theorem length_noticeBytes (n : Notice) : n.bytes.length ≤ 10 := by
  unfold Notice.bytes
  split
  · simp [length_be16, length_snapshotBytes]
  · exact Nat.zero_le 10

theorem length_noticesBytes (l : List Notice) : (l.flatMap Notice.bytes).length ≤ 10 * l.length := by
  induction l with
  | nil => exact le_refl 0
  | cons n l ih =>
    have hn := length_noticeBytes n
    rw [List.flatMap_cons, List.length_append, List.length_cons]
    omega

/-! ## Request after request -/

section
variable (f : Frame) (s : State)

theorem fits_reqIdent : FitsReply (reqIdent f s).2 := by
  unfold reqIdent
  split
  · exact .done (by simp [length_be16])
  · exact .refuse s _

theorem fits_reqStatus : FitsReply (reqStatus f s).2 := by
  unfold reqStatus
  split
  · exact .done (by rw [length_statusRecord]; decide)
  · exact .refuse s _

theorem fits_reqReadOutlet : FitsReply (reqReadOutlet f s).2 := by
  unfold reqReadOutlet
  split
  · split
    · exact .done (by rw [length_outletRecord]; decide)
    · exact .refuse s _
  · exact .refuse s _

theorem fits_reqReadGang (hm : mapsOk s) : FitsReply (reqReadGang f s).2 := by
  have hmembers (g : GangId) (l : List OutletId) (hl : l ∈ s.membersOf g) : l.length ≤ 4 := by
    obtain ⟨-, ⟨hgangs, -⟩, -⟩ := hm
    obtain ⟨⟨-, -, hle⟩, -, -⟩ := hgangs g l hl
    exact hle
  unfold reqReadGang
  split
  · split
    · exact .done (by rw [length_gangRecord (hmembers _)]; decide)
    · exact .refuse s _
  · exact .refuse s _

theorem fits_reqReadMeter : FitsReply (reqReadMeter f s).2 := by
  unfold reqReadMeter
  split
  · split
    · exact .done (by rw [length_meterRecord]; decide)
    · exact .refuse s _
  · exact .refuse s _

theorem fits_reqReadQueue : FitsReply (reqReadQueue f s).2 := by
  unfold reqReadQueue
  split
  · split
    · next b _ _ =>
      have hpage := length_entryPage s b.toNat
      refine .done ?_
      simp only [List.length_append, List.length_cons, List.length_nil, length_claimBytes]
      omega
    · exact .refuse s _
  · exact .refuse s _

theorem fits_reqReadMap (hm : mapsOk s) : FitsReply (reqReadMap f s).2 := by
  obtain ⟨-, ⟨hgangs, -⟩, -, hstaged⟩ := hm
  have hst : s.stagedMap.bytes.length = 32 := length_mapBytes fun g l hl => by
    obtain ⟨-, -, hle⟩ := hstaged g l hl
    exact hle
  have hac : s.activeMap.bytes.length = 32 := length_mapBytes fun g l hl => by
    obtain ⟨⟨-, -, hle⟩, -⟩ := hgangs g l hl
    exact hle
  unfold reqReadMap
  split
  · dsimp only
    split
    · exact .done (by simp [hst])
    · split
      · exact .done (by simp [hac])
      · exact .refuse s _
  · exact .refuse s _

theorem fits_powerOnFeed (c : Byte) (fd : Feed) : FitsReply (powerOnFeed f c fd s).2 := by
  unfold powerOnFeed
  split
  · exact .refuse s _
  · split
    · exact .refuse s _
    · split
      · exact .refuse s _
      · split
        · exact .refuse s _
        · split
          · exact .refuse s _
          · split
            · exact .done (by simp [powerReply])
            · split
              · exact .refuse s _
              · exact .accepted (by simp [powerReply])

theorem fits_reqPowerOn : FitsReply (reqPowerOn f s).2 := by
  unfold reqPowerOn
  split
  · split
    · exact .refuse s _
    · exact fits_powerOnFeed f s _ _
  · exact .refuse s _

theorem fits_powerOffFeed (c : Byte) (fd : Feed) : FitsReply (powerOffFeed f c fd s).2 := by
  unfold powerOffFeed
  dsimp only
  split
  · exact .done (by simp [powerReply])
  · exact .done (by simp [powerReply])
  · exact .done (by simp [powerReply])
  · exact .done (by simp [powerReply])
  · split
    · exact .refuse s _
    · exact .accepted (by simp [powerReply])
  · split
    · exact .refuse s _
    · exact .accepted (by simp [powerReply])
  · split
    · exact .refuse s _
    · split
      · exact .refuse s _
      · exact .accepted (by simp [powerReply])

theorem fits_reqPowerOff : FitsReply (reqPowerOff f s).2 := by
  unfold reqPowerOff
  split
  · split
    · exact .done (by simp)
    · split
      · exact .refuse s _
      · exact fits_powerOffFeed f s _ _
  · exact .refuse s _

theorem fits_reqClearFault : FitsReply (reqClearFault f s).2 := by
  unfold reqClearFault
  split
  · split
    · exact .refuse s _
    · exact .done (by simp)
  · exact .refuse s _

theorem fits_setProfileOf (p : OutletId) (l : List (Byte × Nat)) : FitsReply (setProfileOf p l s).2 := by
  unfold setProfileOf
  split
  · exact .refused (.inr (.inl rfl))
  · split
    · exact .refused (.inr (.inl rfl))
    · exact .done (by simp)

theorem fits_reqSetProfile : FitsReply (reqSetProfile f s).2 := by
  unfold reqSetProfile
  split
  · exact .refuse s _
  · split
    · exact .refuse s _
    · split
      · split
        · exact .refuse s _
        · exact fits_setProfileOf s _ _
      · exact .refuse s _

theorem fits_setGangProfileOf (g : GangId) (l : List (Byte × Nat)) : FitsReply (setGangProfileOf g l s).2 := by
  unfold setGangProfileOf
  split
  · exact .refused (.inr (.inl rfl))
  · split
    · exact .refused (.inr (.inl rfl))
    · exact .done (by simp)

theorem fits_reqSetGangProfile : FitsReply (reqSetGangProfile f s).2 := by
  unfold reqSetGangProfile
  split
  · exact .refuse s _
  · split
    · exact .refuse s _
    · split
      · split
        · exact .refuse s _
        · exact fits_setGangProfileOf s _ _
      · exact .refuse s _

theorem fits_reqSetSupply : FitsReply (reqSetSupply f s).2 := by
  unfold reqSetSupply
  split
  · exact .refuse s _
  · split
    · dsimp only
      split
      · exact .done (by simp [length_be16])
      · exact .refuse s _
    · exact .refuse s _

theorem fits_reqSetPolicy : FitsReply (reqSetPolicy f s).2 := by
  unfold reqSetPolicy
  split
  · exact .refuse s _
  · split
    · dsimp only
      split
      · exact .done (by simp [Policy.bytes])
      · exact .refuse s _
    · exact .refuse s _

theorem fits_reqSetLine : FitsReply (reqSetLine f s).2 := by
  unfold reqSetLine
  split
  · split
    · exact .done (by simp)
    · exact .refuse s _
  · exact .refuse s _

theorem fits_reqStageMap : FitsReply (reqStageMap f s).2 := by
  unfold reqStageMap
  split
  · exact .refuse s _
  · split
    · split
      · exact .refuse s _
      · exact .done (by simp)
    · exact .refuse s _

theorem fits_reqStageGang : FitsReply (reqStageGang f s).2 := by
  unfold reqStageGang
  split
  · exact .refuse s _
  · split
    · next hlen =>
      split
      · next g ms _ hms =>
        split
        · exact .refuse s _
        · obtain ⟨-, hle⟩ := readMembers_sorted hms
          refine .done ?_
          simp only [List.length_append, List.length_cons, List.length_nil, List.length_map]
          omega
      · exact .refuse s _
    · exact .refuse s _

theorem fits_reqApplyMap : FitsReply (reqApplyMap f s).2 := by
  unfold reqApplyMap
  split
  · split
    · split
      · exact .refused (.inr (.inr rfl))
      · exact .done (by simp)
    · exact .refuse s _
  · exact .refuse s _

theorem fits_reqDiscardMap : FitsReply (reqDiscardMap f s).2 := by
  unfold reqDiscardMap
  split
  · exact .done (by simp)
  · exact .refuse s _

/-- A fetch delivers at most four notices of ten bytes (R171, R173). -/
theorem fits_fetch (ack : Nat) {limit : Nat} (h : limit ≤ 4) : FitsReply (fetch ack limit s).2 := by
  have hdeliver (u : State) (held : Subject → Bool) (next : Nat) (ns : List Notice) :
      ((deliver u held limit next ns).2.1.flatMap Notice.bytes).length ≤ 40 := by
    obtain ⟨hcount, -⟩ := deliver_count (s := u) (held := held) limit next ns
    have hbytes := length_noticesBytes (deliver u held limit next ns).2.1
    omega
  refine .done ?_
  simp only [List.length_append, List.length_cons, List.length_nil, length_be16]
  have hle := hdeliver (acknowledge ack s) (heldBack (acknowledge ack s).notices) (acknowledge ack s).nextNumber
    (acknowledge ack s).notices
  omega

theorem fits_reqFetchNotices : FitsReply (reqFetchNotices f s).2 := by
  unfold reqFetchNotices
  split
  · split
    · next h => exact fits_fetch s _ h
    · exact .refuse s _
  · exact .refuse s _

theorem fits_reqRestart : FitsReply (reqRestart f s).2 := by
  unfold reqRestart
  split
  · exact .done (by simp)
  · exact .refuse s _

variable {f s}

theorem fits_withKind {k : Byte} {eff rest : Frame → State → State × List Byte} (he : FitsReply (eff f s).2)
    (hr : FitsReply (rest f s).2) : FitsReply (withKind k eff rest f s).2 := by
  unfold withKind
  split
  · exact he
  · exact hr

/-- Every request of the catalogue, and every kind outside it (R144, R145). -/
theorem fits_handle (hm : mapsOk s) : FitsReply (handle f s).2 :=
  fits_withKind (fits_reqIdent f s) <| fits_withKind (fits_reqStatus f s) <| fits_withKind (fits_reqReadOutlet f s) <|
    fits_withKind (fits_reqReadGang f s hm) <| fits_withKind (fits_reqReadMeter f s) <|
    fits_withKind (fits_reqReadQueue f s) <| fits_withKind (fits_reqPowerOn f s) <|
    fits_withKind (fits_reqPowerOff f s) <| fits_withKind (fits_reqClearFault f s) <|
    fits_withKind (fits_reqSetProfile f s) <| fits_withKind (fits_reqSetGangProfile f s) <|
    fits_withKind (fits_reqSetSupply f s) <| fits_withKind (fits_reqSetPolicy f s) <|
    fits_withKind (fits_reqSetLine f s) <| fits_withKind (fits_reqStageMap f s) <|
    fits_withKind (fits_reqStageGang f s) <| fits_withKind (fits_reqApplyMap f s) <|
    fits_withKind (fits_reqDiscardMap f s) <| fits_withKind (fits_reqReadMap f s hm) <|
    fits_withKind (fits_reqFetchNotices f s) <| fits_withKind (fits_reqRestart f s) (.refuse s _)

end

/-- Settles O6: each request's reply fits, and a kind outside the catalogue is refused with no detail. -/
theorem repliesFitTheFrame : Obligations.RepliesFitTheFrame := by
  intro f s hm
  have hfits := fits_handle (f := f) hm
  refine ⟨hfits.status, hfits.length_le, hfits.length_of_refused, fun hnone => ?_⟩
  have hh := handled_handle f s
  rw [hnone] at hh
  rw [show handle f s = refuse s .unknownKind from hh]
  rfl

end Sys2Proof.Machine
end
